-- ==== Sys2Proof/Word.lean ====
section
/-! DEFINITION. Word.lean: the word types of the part and their plainest arithmetic. -/

namespace Sys2Proof

/-- One byte of a frame. -/
abbrev Byte := BitVec 8

/-- A 32-bit word (a stream tag, a mask word). -/
abbrev Word32 := BitVec 32

/-- A value of the millisecond counter: 32 bits wide, wrapping (00_scope, Units). -/
abbrev Time := BitVec 32

/-- The largest value of a 32-bit saturating counter (R12, R32, R62, R171). -/
def counterMax : Nat := 4294967295

/-- A saturating counter counts `k` more (R12). -/
def satAdd (n k : Nat) : Nat := min (n + k) counterMax

/-- A saturating counter counts once (R12). -/
def satInc (n : Nat) : Nat := satAdd n 1

end Sys2Proof
end

