-- ==== Sys2Proof/Syntax.lean ====
section
/-! DEFINITION. Syntax.lean: the commands of the part, one constructor per row of spec/opcode_table.json. -/

namespace Sys2Proof

/-- The two process-bus ports. -/
inductive Port where
  | a | b
deriving DecidableEq, Repr

/-- The port at the other end of the relay. -/
def Port.other : Port → Port
  | .a => .b
  | .b => .a

/-- The two busbar sections. -/
inductive SecId where
  | s1 | s2
deriving DecidableEq, Repr

/-- The two coils; coil n belongs to section n. -/
inductive CoilId where
  | c1 | c2
deriving DecidableEq, Repr

/-- The section a coil belongs to. -/
def CoilId.sec : CoilId → SecId
  | .c1 => .s1
  | .c2 => .s2

/-- The section's own coil. -/
def SecId.coil : SecId → CoilId
  | .s1 => .c1
  | .s2 => .c2

/-- Link state of a port, as its physical layer reports it. -/
inductive Link where
  | up | down
deriving DecidableEq, Repr

/-- A frame as received or sent: every byte from the destination address to the check sequence, in wire order. -/
abbrev Frame := List Byte

/-- The commands and events of the part: each is one whole, indivisible step.
The twenty-five request kinds carry no operand: the responder executes the request that stands at the head of the
request queue (R171), and its fields are read from that request's message (notes/assumptions/3.md). -/
inductive Instr where
  /-- A port's receiver completes a frame. `linkLost` says that the link went DOWN before its last byte (R1). -/
  | frameReceptionComplete (p : Port) (f : Frame) (linkLost : Bool)
  /-- The hold-off counter of a section's supervisor has reached RECOVERY_CYCLES (R156). -/
  | holdOffRunOut (n : SecId)
  /-- A port's transmitter has sent the last byte of its frame (R9). -/
  | transmitComplete (p : Port)
  /-- A port's physical layer reports UP to DOWN (R10). -/
  | linkLoss (p : Port)
  /-- A port's physical layer reports DOWN to UP (R11). -/
  | linkRestoration (p : Port)
  /-- The supply rises within its operating range, with these levels on the straps and these link states (R183). -/
  | powerOn (straps : BitVec 4) (linkA linkB : Link)
  /-- The RESET input has been low for 1 ms (R183). -/
  | resetHeld
  /-- The RESET input is released, with these levels on the straps and these link states (R183). -/
  | resetRelease (straps : BitVec 4) (linkA linkB : Link)
  /-- The acceptance timer of a coil's record in flight runs out (R115). -/
  | acceptTimeoutExpiry (c : CoilId)
  /-- The injection confirmation timer of a coil runs out (R121). -/
  | confirmationTimerExpiry (c : CoilId)
  /-- The time limit of a coil's accepted move runs out (R119). -/
  | moveTimeLimitExpiry (c : CoilId)
  /-- The silence supervision of a coil runs out (R123). -/
  | silenceExpiry (c : CoilId)
  /-- The coupler's stale timer runs out (R142). -/
  | staleTimerExpiry
  /-- The 1 ms deassertion of ALARM ends (R165). -/
  | alarmReassertion
  | readInfo
  | readSlot
  | writeSlot
  | writeMasks
  | enableSlot
  | readCoilTable
  | writeCoilTable
  | readSectionSettings
  | writeSectionSettings
  | readCoilSettings
  | writeCoilSettings
  | writeGlobal
  | readState
  | readEvents
  | readSummary
  | readCounters
  | enableSection
  | disableSection
  | restartSection
  | freeze
  | unfreeze
  | releaseCoil
  | manualMove
  | resetPart
  /-- The request at the head of the queue is too short for its header or of an unknown kind (R172). -/
  | unknownRequest
  /-- The supply leaves its operating range (R183). -/
  | supplyOutOfRange
deriving DecidableEq, Repr

end Sys2Proof
end

