-- ==== Sys2Proof/Decode.lean ====
section
/-! DEFINITION. Decode.lean: the command a word spells by the opcode table's bits. -/

namespace Sys2Proof

/-- No row of spec/opcode_table.json gives bits: the commands of this part are frames, expiries and pin events, and no word
spells one (notes/assumptions/16.md). -/
def decodeTableWord (_nbits _w : Nat) : Option Instr := none

end Sys2Proof
end

