-- ==== Sys2Proof/Config.lean ====
section
/-! DEFINITION. Config.lean: what the spec fixes once for the part, and the values it leaves open. -/

namespace Sys2Proof.Config

/-- The product code READ_INFO returns. R173 calls it fixed and gives no value: a free value (notes/assumptions/1.md). -/
opaque productCode : Word32

/-- The revision number READ_INFO returns. R173 gives no value: a free value (notes/assumptions/1.md). -/
opaque revision : Word32

/-- What a 4-byte field of a response holds for an integer that does not fit 4 bytes. R182 gives the field 4 bytes
and the spec states no value: a free value (notes/assumptions/2.md). -/
opaque unfitWord : Int → Word32

/-- The same for an 8-byte field (notes/assumptions/2.md). -/
opaque unfitWide : Int → BitVec 64

/-- Places of a forward queue (R5). -/
def forwardPlaces : Nat := 32

/-- Places of an origin queue (R6). -/
def originPlaces : Nat := 8

/-- Places of the request queue (R171). -/
def requestPlaces : Nat := 4

/-- Entries of an alignment ring (R34). -/
def ringPlaces : Nat := 16

/-- Shortest good frame, in bytes (R1). -/
def minFrame : Nat := 64

/-- Longest good frame, in bytes (R1). -/
def maxFrame : Nat := 1522

end Sys2Proof.Config
end

