-- ==== Sys2Proof/Machine/State.lean ====
section
/-! DEFINITION. Machine/State.lean: every piece of state the spec gives the part, as plain data, and the state after
reset. Each type cites the chapter's state table it follows. -/

namespace Sys2Proof.Machine

/-! ### Drive command records (chapter 7) -/

/-- Kind of a drive command record with its further field (R107). -/
inductive RecordKind where
  | moveTo (target : Nat)
  | stop
  | injectOn (code : Nat)
  | injectOff
deriving DecidableEq, Repr

/-- A drive command record without its coil: kind and toggle (R107). -/
structure DriveRecord where
  kind   : RecordKind
  toggle : Bool
deriving DecidableEq, Repr

/-! ### Events (chapter 10) -/

/-- The 22 event kinds, in the order of the table of R161. -/
inductive EventKind where
  | driveLost | driveSilent | driveFaulted | endStop | moveOvertime | injectFailed | measureLost | voltageLost
  | windowRejected | stepDetected | targetLimited | injectionLost | faultOnset | faultCleared | joinUntuned
  | moveDone | couplerChange | couplerUnsure | streamState | forwardDrop | linkDown | originDrop
deriving DecidableEq, Repr

/-- Object of an event (R161). -/
inductive Obj where
  | busSection (n : SecId)
  | coil (c : CoilId)
  | slot (i : Fin 24)
  | port (p : Port)
deriving DecidableEq, Repr

/-- A source: one event with its kind, object and time (chapter 10). -/
structure Source where
  kind : EventKind
  obj  : Obj
  time : Time
deriving DecidableEq, Repr

/-- A report record of a level: kind set (no repeats, in the order of R161), first and latest source. -/
structure Report where
  kinds  : List EventKind
  first  : Source
  latest : Source
deriving DecidableEq, Repr

/-- The ALARM line of R165: deasserted, asserted, or deasserted until the counter reaches a time. -/
inductive Alarm where
  | deasserted
  | asserted
  | reassertAt (t : Time)
deriving DecidableEq, Repr

/-- State of the event unit. Level 1 carries its alarm mark beside its record. -/
structure EventUnit where
  /-- one enable per kind, in the order of R161; true is enabled -/
  enables : Vector Bool 22
  /-- the event summary: a set of kinds, in the order of R161 -/
  summary : List EventKind
  level1  : Option (Report × Bool)
  level2  : Option Report
  alarm   : Alarm
deriving DecidableEq, Repr

/-! ### Management requests and responses (chapters 11 and 12) -/

/-- Status of a response (12.4). -/
inductive Status where
  | ok | refusedLength | refusedKind | refusedRange | refusedState
deriving DecidableEq, Repr

/-- A request in the request queue: arrival port, and the message from offset 0 to the end of the frame, check sequence
excluded (R171, R180). -/
structure Request where
  port : Port
  msg  : List Byte
deriving DecidableEq, Repr

/-- A management response (12.4): `point` is none where the point number is sent as 255. -/
structure Response where
  tag    : List Byte
  kind   : Byte
  status : Status
  field  : Nat
  point  : Option Nat
  answer : List Byte
deriving DecidableEq, Repr

/-! ### Port pair (chapter 1) -/

/-- A frame the part originates (R6): a drive record for a coil, a response or an event notice. `tracked` marks a
record that a later tracked record of the coil replaces while it waits (R7). -/
inductive OriginMsg where
  | record (c : CoilId) (tracked : Bool) (r : DriveRecord)
  | response (r : Response)
  | notice (src : Source)
deriving DecidableEq, Repr

/-- Transmitter activity: idle, or sending one frame; `place` says that the frame still occupies its place in the queue
it was taken from (R5, R6; false for a frame that a RESET_PART left being sent, R14). -/
inductive Tx where
  | idle
  | forward (f : Frame) (place : Bool)
  | origin (m : OriginMsg) (place : Bool)
deriving DecidableEq, Repr

/-- State of one port. `forward` feeds this port's transmitter; both queues list the frames not yet being sent. -/
structure PortState where
  link          : Link
  /-- frames waiting in the forward queue toward this port, in arrival order -/
  forward       : List Frame
  /-- frames waiting in this port's origin queue, in the queue order of R6 -/
  origin        : List OriginMsg
  tx            : Tx
  latch         : Bool
  framesIn      : Nat
  framesInError : Nat
  framesOut     : Nat
  forwardDrops  : Nat
  originDrops   : Nat
  unmatched     : Nat
deriving DecidableEq, Repr

/-! ### Stream table (chapter 2) -/

/-- Compare mode of a slot (R17). -/
inductive CompareMode where
  | exact | maskA | maskB | any
deriving DecidableEq, Repr

/-- Role of a binding. -/
inductive Role where
  | voltage | current
deriving DecidableEq, Repr

/-- A binding of a SAMPLE slot. -/
structure Binding where
  role    : Role
  sec     : SecId
  channel : Nat
deriving DecidableEq, Repr

/-- Frame kind of a slot with the fields of that kind. -/
inductive SlotBody where
  | sample (bindings : List Binding)
  | state (point : Nat)
  | drive (coil : CoilId)
deriving DecidableEq, Repr

/-- Definition of a valid slot. -/
structure SlotDef where
  tag  : Word32
  mode : CompareMode
  body : SlotBody
deriving DecidableEq, Repr

/-- Slot state (R24). -/
inductive SlotState where
  | active | warning | passive | off
deriving DecidableEq, Repr

/-- One slot: its definition (none when invalid) and its runtime part. -/
structure Slot where
  defn       : Option SlotDef
  last       : Option Nat
  errors     : Nat
  state      : SlotState
  good       : Nat
  gaps       : Nat
  malformed  : Nat
  late       : Nat
  duplicates : Nat
  saturated  : Nat
deriving DecidableEq, Repr

/-! ### Alignment ring (chapter 3) -/

/-- A value held in a ring entry, with the slot it came from. -/
structure RingValue where
  value : Int
  slot  : Fin 24
deriving DecidableEq, Repr

/-- An entry of a ring (R34). -/
structure RingEntry where
  count : Nat
  u     : Option RingValue
  i     : Option RingValue
deriving DecidableEq, Repr

/-- A section's alignment ring; entries head first. -/
structure Ring where
  entries : List RingEntry
  last    : Option Nat
  heldU   : Int
  heldI   : Int
  index   : Nat
deriving DecidableEq, Repr

/-! ### Window engine (chapter 4) -/

/-- Why a window is rejected (R61, R75), in the order of the rejection reasons of chapter 5. -/
inductive RejectReason where
  | noResponse | noInjection | lowGrade | substituted | estimateRange
deriving DecidableEq, Repr

/-- Why a window is discarded (R62). -/
inductive DiscardCause where
  | motion | coupler | injection | state | gap
deriving DecidableEq, Repr

/-- Outcome of a window (R62). -/
inductive WindowResult where
  | accepted
  | rejected (r : RejectReason)
  | discarded (c : DiscardCause)
deriving DecidableEq, Repr

/-- The window in flight. `pos1` and `pos2` are the reported positions of the counted coils at its start. -/
structure Window where
  start : Nat
  w     : Nat
  j     : Nat
  taken : Nat
  auRe  : Int
  auIm  : Int
  aiRe  : Int
  aiIm  : Int
  subst : Nat
  pos1  : Option Nat
  pos2  : Option Nat
deriving DecidableEq, Repr

/-- What a completed window formed (R60). -/
structure Phasors where
  uRe   : Int
  uIm   : Int
  iRe   : Int
  iIm   : Int
  d     : Int
  grade : Nat
deriving DecidableEq, Repr

/-- The outcome record (R62). -/
structure OutcomeRec where
  result  : WindowResult
  start   : Nat
  w       : Nat
  taken   : Nat
  subst   : Nat
  phasors : Option Phasors
deriving DecidableEq, Repr

/-- Engine state (R51); the window in flight belongs to RUN. -/
inductive EngineState where
  | off
  | wait
  | run (w : Window)
deriving DecidableEq, Repr

/-- State of a section's window engine. -/
structure Engine where
  state     : EngineState
  firstPair : Bool
  quick     : Nat
  settle    : Nat
  grade     : Nat
  worst     : Nat
  outcome   : Option OutcomeRec
  accepted  : Nat
  rejected  : Nat
  discarded : Nat
deriving DecidableEq, Repr

/-! ### Network estimator (chapter 5) -/

/-- Update kind of an accepted window. -/
inductive UpdateKind where
  | first | step | filtered
deriving DecidableEq, Repr

/-- A section's estimate record; `e` is present exactly when the estimate is. -/
structure Estimate where
  e        : Option Int
  lastX    : Option Int
  lastReY  : Option Int
  lastImY  : Option Int
  lastBL   : Option Int
  g        : Option Int
  d        : Option Int
  kind     : Option UpdateKind
  time     : Time
  accepted : Nat
  steps    : Nat
  run      : Nat
  reason   : Option RejectReason
deriving DecidableEq, Repr

/-! ### Target calculator (chapter 6) -/

/-- A point of a coil table: position and susceptance. -/
structure TablePoint where
  pos : Nat
  b   : Nat
deriving DecidableEq, Repr

/-- What brought a decision (R105). -/
inductive Trigger where
  | count | first | step
deriving DecidableEq, Repr

/-- Outcome of a decision (R105). -/
inductive DecisionOutcome where
  | inBand | move | noChange | inhibited
deriving DecidableEq, Repr

/-- The decision record (R105). -/
structure Decision where
  time    : Time
  trigger : Trigger
  joined  : Bool
  e       : Int
  bLnow   : Int
  vNow    : Int
  outcome : DecisionOutcome
  bT      : Option Int
  /-- B1, B2 and the residue of R101 -/
  split   : Option (Int × Int × Int)
  pos1    : Option Nat
  pos2    : Option Nat
  req1    : Bool
  req2    : Bool
  limited : Bool
deriving DecidableEq, Repr

/-! ### Fault supervisor (chapter 9) -/

/-- Phase of a supervisor. -/
inductive SupPhase where
  | idle | watch | standing
deriving DecidableEq, Repr

/-- The cycle under way. -/
structure CycleAcc where
  cycle : Nat
  q     : Int
  blind : Bool
deriving DecidableEq, Repr

/-- The onset capture. -/
structure Capture where
  time  : Time
  index : Nat
  peak  : Int
deriving DecidableEq, Repr

/-- Status of a fault record (R155). -/
inductive FaultStatus where
  | standing | cleared | abandoned
deriving DecidableEq, Repr

/-- The fault record; `status` and the times are absent until a fault has been confirmed. -/
structure FaultRec where
  status  : Option FaultStatus
  onset   : Option Time
  index   : Option Nat
  confirm : Option Time
  peak    : Option Int
  clear   : Option Time
  count   : Nat
deriving DecidableEq, Repr

/-- State of a section's fault supervisor. The last cycle result holds the cycle number with its mean square, or with
none for BLIND. -/
structure Supervisor where
  phase   : SupPhase
  acc     : Option CycleAcc
  confirm : Nat
  clear   : Nat
  capture : Option Capture
  holdOff : Option Nat
  last    : Option (Nat × Option Int)
  blind   : Nat
  record  : FaultRec
deriving DecidableEq, Repr

/-! ### Section controller (chapter 8) -/

/-- Section states, in the order of the table of R131. -/
inductive SecState where
  | disabled | starting | measuring | tracking | fault | recovery | halted | joined
deriving DecidableEq, Repr

/-- Return state of section 2 (R145). -/
inductive ReturnState where
  | disabled | starting | halted
deriving DecidableEq, Repr

/-- Last halt cause (chapter 8): event kind, object and time. -/
abbrev HaltCause := Source

/-- The inhibit set. -/
structure Inhibit where
  frozen : Bool
  unsure : Bool
deriving DecidableEq, Repr

/-- The settings of a section, in the order of R175. -/
structure SectionSettings where
  injectionCode    : Nat
  windowCycles     : Nat
  quickWindows     : Nat
  settleBoundaries : Nat
  iMin             : Nat
  minGrade         : Nat
  substLimit       : Nat
  t1               : Nat
  t2               : Nat
  t3               : Nat
  t4               : Nat
  t5               : Nat
  t6               : Nat
  t7               : Nat
  hysteresis       : Nat
  stepThreshold    : Nat
  filterDepth      : Nat
  rejectLimit      : Nat
  detuningSet      : Int
  deadband         : Nat
  decisionInterval : Nat
  tFault           : Nat
  tClear           : Nat
  confirmCycles    : Nat
  clearCycles      : Nat
  recoveryCycles   : Nat
deriving DecidableEq, Repr

/-- Everything the spec keeps per section. -/
structure Section where
  settings  : SectionSettings
  state     : SecState
  entryTime : Time
  inhibit   : Inhibit
  lastHalt  : Option HaltCause
  ring      : Ring
  engine    : Engine
  estimate  : Estimate
  counter   : Nat
  decision  : Option Decision
  sup       : Supervisor
deriving DecidableEq, Repr

/-- A coupler value (R30), in the order of the point values of the state frame. -/
inductive CouplerValue where
  | open | closed | intermediate | bad
deriving DecidableEq, Repr

/-- Held coupler position. -/
inductive Held where
  | open | closed
deriving DecidableEq, Repr

/-- The unsure causes of the coupler record. -/
structure Unsure where
  noValue     : Bool
  unavailable : Bool
  value       : Bool
  stale       : Bool
deriving DecidableEq, Repr

/-- The coupler record (8.6). `staleTimer` is the time at which the timer runs out, or none while it is stopped. -/
structure Coupler where
  configured : Bool
  available  : Bool
  last       : Option (CouplerValue × Time)
  held       : Held
  unsure     : Unsure
  staleTimer : Option Time
deriving DecidableEq, Repr

/-! ### Coil drive link (chapter 7) -/

/-- The drive link settings of a coil (7.11). -/
structure CoilSettings where
  acceptTimeout    : Nat
  silenceTimeout   : Nat
  arrivalTolerance : Nat
  moveBase         : Nat
  stepTime         : Nat
deriving DecidableEq, Repr

/-- Motion reported by a drive. -/
inductive Motion where
  | still | moving | haltedFault
deriving DecidableEq, Repr

/-- The reported state of a coil; `injection` is none for OFF and the code for ON. -/
structure Reported where
  pos       : Nat
  motion    : Motion
  lower     : Bool
  upper     : Bool
  injection : Option Nat
  echo      : Bool
  time      : Time
deriving DecidableEq, Repr

/-- The record in flight: the tracked record, its send count and the time of its latest send. -/
structure InFlight where
  record   : DriveRecord
  sends    : Nat
  lastSend : Option Time
deriving DecidableEq, Repr

/-- Origin of a move. -/
inductive MoveOrigin where
  | automatic | manual
deriving DecidableEq, Repr

/-- A pending move target. -/
structure PendMove where
  target : Nat
  origin : MoveOrigin
deriving DecidableEq, Repr

/-- A pending injection change. -/
inductive InjReq where
  | on (code : Nat)
  | off
deriving DecidableEq, Repr

/-- The move in flight; `accepted` holds the acceptance time in phase ACCEPTED and none in phase SENT. -/
structure Move where
  target     : Nat
  origin     : MoveOrigin
  accepted   : Option Time
  start      : Nat
  movingSeen : Bool
deriving DecidableEq, Repr

/-- The held injection (R108). -/
inductive HeldInj where
  | off
  | sent (code : Nat)
  | on (code : Nat)
deriving DecidableEq, Repr

/-- Where a drive record is routed (R8). -/
inductive Route where
  | one (p : Port)
  | both
deriving DecidableEq, Repr

/-- A running confirmation timer: the code that the accepted INJECT_ON carries, and the time at which it runs out (R121). -/
structure Confirmation where
  code : Nat
  due  : Time
deriving DecidableEq, Repr

/-- A drive record that waits for a place in an origin queue (R7). -/
structure Waiting where
  tracked : Bool
  record  : DriveRecord
  route   : Route
deriving DecidableEq, Repr

/-- Everything the spec keeps per coil: its table, its settings and its coil command context (R108). The four timers hold
the time at which they run out, or none while they are stopped. -/
structure Coil where
  table        : List TablePoint
  settings     : CoilSettings
  binding      : Option (Fin 24)
  failed       : Bool
  toggle       : Option Bool
  inFlight     : Option InFlight
  pendMove     : Option PendMove
  pendInj      : Option InjReq
  pendStop     : Bool
  move         : Option Move
  heldInj      : HeldInj
  reported     : Option Reported
  arrival      : Option Port
  /-- records waiting for a place, in the order in which they were formed -/
  waiting      : List Waiting
  acceptTimer  : Option Time
  confirmTimer : Option Confirmation
  moveTimer    : Option Time
  silenceTimer : Option Time
deriving DecidableEq, Repr

/-! ### The part -/

/-- Nominal power frequency (chapter 3). -/
inductive Nominal where
  | hz50 | hz60
deriving DecidableEq, Repr

/-- The whole state of the part, and the queue of the commands that wait for it. -/
structure State where
  /-- the commands waiting, first in first out (the model's own) -/
  pending        : List Instr
  /-- the supply is within its operating range (R183) -/
  supplyOk       : Bool
  /-- the RESET input is taken as held (R183) -/
  held           : Bool
  /-- the millisecond counter -/
  ms             : Time
  /-- the station number held from the straps (R3) -/
  station        : BitVec 4
  portA          : PortState
  portB          : PortState
  slots          : Vector Slot 24
  maskA          : Word32
  maskB          : Word32
  nominal        : Nominal
  share          : Nat
  couplerTimeout : Nat
  sec1           : Section
  sec2           : Section
  /-- return state of section 2 (R145) -/
  ret2           : ReturnState
  coil1          : Coil
  coil2          : Coil
  coupler        : Coupler
  events         : EventUnit
  requests       : List Request
  requestDrops   : Nat
deriving DecidableEq, Repr

/-- Why a command would end in a fault. The spec gives every command an effect in every state, so there is no reason:
no meaning of this model raises a fault. -/
inductive Fault where
deriving DecidableEq, Repr

/-- Why a command is refused. -/
inductive Refusal where
  /-- The command has no meaning yet: raised by an arm of exec only (safe). No arm of this model raises it. -/
  | notModelled (mnemonic : String)
deriving DecidableEq, Repr

/-! ### Reset values -/

/-- A port after power-on or the RESET line (R14). -/
def PortState.initial (l : Link) : PortState :=
  { link := l, forward := [], origin := [], tx := .idle, latch := l == .down, framesIn := 0, framesInError := 0,
    framesOut := 0, forwardDrops := 0, originDrops := 0, unmatched := 0 }

/-- A slot as a write of the definition `d` leaves it (R16); with none, as power-on leaves it (R33). -/
def Slot.fresh (d : Option SlotDef) : Slot :=
  { defn := d, last := none, errors := 0, state := .active, good := 0, gaps := 0, malformed := 0, late := 0,
    duplicates := 0, saturated := 0 }

/-- A cleared ring (R46, R48). -/
def Ring.cleared : Ring :=
  { entries := [], last := none, heldU := 0, heldI := 0, index := 0 }

/-- A window engine after power-on or RESET_PART (R70). -/
def Engine.initial : Engine :=
  { state := .off, firstPair := false, quick := 0, settle := 0, grade := 0, worst := 0, outcome := none,
    accepted := 0, rejected := 0, discarded := 0 }

/-- An estimate record after an estimate reset (R85, R88). -/
def Estimate.cleared : Estimate :=
  { e := none, lastX := none, lastReY := none, lastImY := none, lastBL := none, g := none, d := none, kind := none,
    time := 0, accepted := 0, steps := 0, run := 0, reason := none }

/-- A fault record that holds no fault (R160); its onset index and peak mean square are absent (notes/assumptions/43.md). -/
def FaultRec.empty : FaultRec :=
  { status := none, onset := none, index := none, confirm := none, peak := none, clear := none, count := 0 }

/-- A fault supervisor after power-on or RESET_PART (R160). -/
def Supervisor.initial : Supervisor :=
  { phase := .idle, acc := none, confirm := 0, clear := 0, capture := none, holdOff := none, last := none, blind := 0,
    record := FaultRec.empty }

/-- The default settings of a section (chapters 4, 5, 6 and 9). -/
def SectionSettings.default : SectionSettings :=
  { injectionCode := 6, windowCycles := 16, quickWindows := 3, settleBoundaries := 1, iMin := 200, minGrade := 2,
    substLimit := 8, t1 := 50, t2 := 100, t3 := 200, t4 := 400, t5 := 800, t6 := 1600, t7 := 3200, hysteresis := 20,
    stepThreshold := 2000, filterDepth := 2, rejectLimit := 16, detuningSet := -50, deadband := 10,
    decisionInterval := 4, tFault := 250000, tClear := 150000, confirmCycles := 5, clearCycles := 25,
    recoveryCycles := 250 }

/-- A section after power-on or RESET_PART, with the settings and inhibit set given (R48, R70, R88, R106, R149, R160). -/
def Section.initial (x : SectionSettings) (h : Inhibit) : Section :=
  { settings := x, state := .disabled, entryTime := 0, inhibit := h, lastHalt := none, ring := Ring.cleared,
    engine := Engine.initial, estimate := Estimate.cleared, counter := 0, decision := none, sup := Supervisor.initial }

/-- The default drive link settings (7.11). -/
def CoilSettings.default : CoilSettings :=
  { acceptTimeout := 60, silenceTimeout := 100, arrivalTolerance := 4, moveBase := 2000, stepTime := 5000 }

/-- A coil command context after a reset that keeps table, settings and binding, and leaves this toggle and these waiting
records (R130). -/
def Coil.initial (tab : List TablePoint) (x : CoilSettings) (b : Option (Fin 24)) (t : Option Bool) (w : List Waiting) :
    Coil :=
  { table := tab, settings := x, binding := b, failed := false, toggle := t, inFlight := none, pendMove := none,
    pendInj := none, pendStop := false, move := none, heldInj := .off, reported := none, arrival := none, waiting := w,
    acceptTimer := none, confirmTimer := none, moveTimer := none, silenceTimer := none }

/-- The coupler record after power-on (R149). -/
def Coupler.initial : Coupler :=
  { configured := false, available := false, last := none, held := .open,
    unsure := { noValue := false, unavailable := false, value := false, stale := false }, staleTimer := none }

/-- The enables after power-on: every kind but WINDOW_REJECTED (8) and MOVE_DONE (15) (R163). -/
def EventUnit.defaultEnables : Vector Bool 22 :=
  #v[true, true, true, true, true, true, true, true, false, true, true, true, true, true, true, false, true, true, true,
    true, true, true]

/-- The event unit after a reset, with the enables given (R170). -/
def EventUnit.initial (en : Vector Bool 22) : EventUnit :=
  { enables := en, summary := [], level1 := none, level2 := none, alarm := .deasserted }

/-- The part right after power-on or the release of RESET, with the strap levels and link states of that moment (R183,
R14, R33, R48, R70, R88, R106, R130, R149, R160, R170, R179). -/
def State.initial (straps : BitVec 4) (linkA linkB : Link) : State :=
  { pending := [], supplyOk := true, held := false, ms := 0, station := straps,
    portA := PortState.initial linkA, portB := PortState.initial linkB,
    slots := Vector.replicate 24 (Slot.fresh none), maskA := 0, maskB := 0,
    nominal := .hz50, share := 128, couplerTimeout := 2000,
    sec1 := Section.initial SectionSettings.default { frozen := false, unsure := false },
    sec2 := Section.initial SectionSettings.default { frozen := false, unsure := false },
    ret2 := .disabled,
    coil1 := Coil.initial [] CoilSettings.default none none [],
    coil2 := Coil.initial [] CoilSettings.default none none [],
    coupler := Coupler.initial, events := EventUnit.initial EventUnit.defaultEnables,
    requests := [], requestDrops := 0 }

/-- The machine right after reset: power-on with every strap open, so read as 1 (R183), and no link reported yet by
either physical layer (notes/assumptions/4.md). -/
def State.reset : State := State.initial 15 .down .down

end Sys2Proof.Machine
end

