-- ==== Sys2Proof/Machine/Ops.lean ====
section
/-! DEFINITION. Machine/Ops.lean: the named reads and writes of the state, exact rounding, and the transmit side of the
port pair (occupancy, queue order, arbiter). -/

namespace Sys2Proof.Machine

/-! ### Arithmetic (00_scope, Arithmetic) -/

/-- The quotient `a / b` for `b` above 0, rounded once, to nearest with ties away from zero. -/
def roundDiv (a b : Int) : Int :=
  if 0 ≤ a then (2 * a + b) / (2 * b) else -((2 * (-a) + b) / (2 * b))

/-- Absolute difference of two drive positions. -/
def posDiff (p q : Nat) : Nat := if p ≤ q then q - p else p - q

/-- A number of milliseconds as a span of the counter. -/
def span (n : Nat) : Time := BitVec.ofNat 32 n

/-! ### Parts of the state -/

def State.port (s : State) : Port → PortState
  | .a => s.portA
  | .b => s.portB

def State.setPort (s : State) (p : Port) (x : PortState) : State :=
  match p with
  | .a => { s with portA := x }
  | .b => { s with portB := x }

def State.modPort (s : State) (p : Port) (f : PortState → PortState) : State := s.setPort p (f (s.port p))

def State.sec (s : State) : SecId → Section
  | .s1 => s.sec1
  | .s2 => s.sec2

def State.setSec (s : State) (n : SecId) (x : Section) : State :=
  match n with
  | .s1 => { s with sec1 := x }
  | .s2 => { s with sec2 := x }

def State.modSec (s : State) (n : SecId) (f : Section → Section) : State := s.setSec n (f (s.sec n))

def State.coil (s : State) : CoilId → Coil
  | .c1 => s.coil1
  | .c2 => s.coil2

def State.setCoil (s : State) (c : CoilId) (x : Coil) : State :=
  match c with
  | .c1 => { s with coil1 := x }
  | .c2 => { s with coil2 := x }

def State.modCoil (s : State) (c : CoilId) (f : Coil → Coil) : State := s.setCoil c (f (s.coil c))

def State.slot (s : State) (i : Fin 24) : Slot := s.slots[i]

def State.setSlot (s : State) (i : Fin 24) (x : Slot) : State := { s with slots := s.slots.set i x }

def State.modSlot (s : State) (i : Fin 24) (f : Slot → Slot) : State := s.setSlot i (f (s.slot i))

def State.setEngine (s : State) (n : SecId) (x : Engine) : State := s.modSec n fun y => { y with engine := x }

def State.setSup (s : State) (n : SecId) (x : Supervisor) : State := s.modSec n fun y => { y with sup := x }

/-- The part acts: its supply is in range and RESET is not held (R14, R183; notes/assumptions/5.md). -/
def State.live (s : State) : Bool := s.supplyOk && !s.held

/-! ### Roles of sections and coils (R132) -/

/-- Joined mode: the held coupler position is CLOSED. -/
def State.joined (s : State) : Bool := s.coupler.held == .closed

/-- The coils a section drives and counts (R132). -/
def State.drives (s : State) (n : SecId) : List CoilId :=
  if s.joined then (match n with | .s1 => [.c1, .c2] | .s2 => []) else [n.coil]

/-- The section that drives a coil (R132). -/
def State.driver (s : State) (c : CoilId) : SecId := if s.joined then .s1 else c.sec

/-- The injecting drive of a section (R132). -/
def State.injector (s : State) (n : SecId) : Option CoilId :=
  if s.joined then (match n with | .s1 => some .c1 | .s2 => none) else some n.coil

/-- The active section states (R131). -/
def SecState.active : SecState → Bool
  | .starting | .measuring | .tracking | .fault | .recovery => true
  | .disabled | .halted | .joined => false

/-- The states in which a section measures or is about to: INJECT_ON may be sent for its drive (R113). -/
def SecState.injects : SecState → Bool
  | .starting | .measuring | .tracking => true
  | .disabled | .fault | .recovery | .halted | .joined => false

/-- MEASURING or TRACKING. -/
def SecState.measures : SecState → Bool
  | .measuring | .tracking => true
  | .disabled | .starting | .fault | .recovery | .halted | .joined => false

def Inhibit.isEmpty (h : Inhibit) : Bool := !h.frozen && !h.unsure

def Unsure.isEmpty (u : Unsure) : Bool := !u.noValue && !u.unavailable && !u.value && !u.stale

/-- Coil state (R108). Its numbers in READ_STATE follow R129's list: UNBOUND 0, IDLE 1, AWAIT_ECHO 2, MOVING 3, FAILED 4
(notes/assumptions/13.md). -/
inductive CoilState where
  | unbound | idle | awaitEcho | moving | failed
deriving DecidableEq, Repr

/-- The coil's state, taken from the items of its context (R108). -/
def Coil.state (k : Coil) : CoilState :=
  if k.failed then .failed
  else if k.binding.isNone && k.inFlight.isNone && k.move.isNone then .unbound
  else if k.inFlight.isSome then .awaitEcho
  else match k.move with
    | some m => if m.accepted.isSome then .moving else .idle
    | none => .idle

/-- The modulus M of the sample count (chapter 3). -/
def Nominal.modulus : Nominal → Nat
  | .hz50 => 4000
  | .hz60 => 4800

/-! ### Event kinds (R161) -/

/-- Position of a kind in the table of R161, counted from 0. -/
def EventKind.code : EventKind → Fin 22
  | .driveLost => 0 | .driveSilent => 1 | .driveFaulted => 2 | .endStop => 3 | .moveOvertime => 4 | .injectFailed => 5
  | .measureLost => 6 | .voltageLost => 7 | .windowRejected => 8 | .stepDetected => 9 | .targetLimited => 10
  | .injectionLost => 11 | .faultOnset => 12 | .faultCleared => 13 | .joinUntuned => 14 | .moveDone => 15
  | .couplerChange => 16 | .couplerUnsure => 17 | .streamState => 18 | .forwardDrop => 19 | .linkDown => 20
  | .originDrop => 21

/-! ### Transmit side of a port -/

/-- Frames that occupy a place of the forward queue toward this port, the frame being sent included (R5). -/
def PortState.forwardOccupancy (p : PortState) : Nat :=
  p.forward.length + match p.tx with | .forward _ true => 1 | _ => 0

/-- Frames that occupy a place of this port's origin queue (R6). -/
def PortState.originOccupancy (p : PortState) : Nat :=
  p.origin.length + match p.tx with | .origin _ true => 1 | _ => 0

/-- Class of an originated frame in queue order: drive record for coil 1, for coil 2, other (R6). -/
def OriginMsg.rank : OriginMsg → Nat
  | .record .c1 _ _ => 0
  | .record .c2 _ _ => 1
  | .response _ => 2
  | .notice _ => 2

/-- Entry of a frame behind those of its class and of the classes before it (R6). -/
def enqueueByClass (q : List OriginMsg) (m : OriginMsg) : List OriginMsg :=
  q.takeWhile (fun x => x.rank ≤ m.rank) ++ m :: q.dropWhile (fun x => x.rank ≤ m.rank)

/-- A tracked record of coil `c` (R7). -/
def OriginMsg.isTracked (c : CoilId) : OriginMsg → Bool
  | .record c' t _ => t && c' == c
  | .response _ => false
  | .notice _ => false

/-- The transmit arbiter of R9: an idle transmitter with its link UP takes the first origin frame, otherwise the head of
the forward queue. -/
def PortState.arbitrate (p : PortState) : PortState :=
  match p.tx, p.link with
  | .idle, .up =>
    match p.origin with
    | m :: q => { p with origin := q, tx := .origin m true }
    | [] =>
      match p.forward with
      | f :: q => { p with forward := q, tx := .forward f true }
      | [] => p
  | _, _ => p

/-- The arbiters of both ports choose (R9). -/
def arbitrate (s : State) : State := { s with portA := s.portA.arbitrate, portB := s.portB.arbitrate }

/-- One originated frame is dropped or discarded on its way out of a port (R7, R11). -/
def PortState.dropOrigin (p : PortState) : PortState := { p with originDrops := satInc p.originDrops }

/-- One forwarded frame is dropped or discarded on its way out of a port (R5, R11). -/
def PortState.dropForward (p : PortState) : PortState := { p with forwardDrops := satInc p.forwardDrops }

end Sys2Proof.Machine
end

