-- ==== Sys2Proof/Machine/AlignmentRing.lean ====
section
/-! DEFINITION. Machine/AlignmentRing.lean: one section's alignment ring as a function from a value record to the ring
after it, what it delivers, and what it reports back (chapter 3). -/

namespace Sys2Proof.Machine

/-- A value record from the stream matcher; an absent value is none (R28, R37). -/
structure ValueRecord where
  role  : Role
  count : Nat
  slot  : Fin 24
  value : Option Int
deriving DecidableEq, Repr

/-- A delivered pair (R41). The sample count it stands for goes with it. -/
structure Pair where
  index  : Nat
  count  : Nat
  u      : Int
  i      : Int
  substU : Bool
  substI : Bool
deriving DecidableEq, Repr

/-- What a ring hands to its two consumers, in order (R41, R43). -/
inductive Delivery where
  | pair (p : Pair)
  | gap (first count : Nat)
deriving DecidableEq, Repr

/-- A report back to the stream matcher (R37). -/
inductive RingReport where
  | none | late | duplicate
deriving DecidableEq, Repr

/-- The lead of a sample count over the last count delivered (R35). -/
def lead (m last c : Nat) : Nat := (c + m - last % m) % m

/-- `c` is ahead of the last count delivered (R35). -/
def isAhead (m last c : Nat) : Bool := 1 ≤ lead m last c && lead m last c ≤ m / 2

/-- A complete entry holds both values (R34). -/
def RingEntry.complete (e : RingEntry) : Bool := e.u.isSome && e.i.isSome

/-- The entry already holds a value of the role. -/
def RingEntry.holds (e : RingEntry) : Role → Bool
  | .voltage => e.u.isSome
  | .current => e.i.isSome

/-- A value is placed in an entry. -/
def RingEntry.place (e : RingEntry) (r : Role) (v : RingValue) : RingEntry :=
  match r with
  | .voltage => { e with u := some v }
  | .current => { e with i := some v }

/-- The fill pairs of a short gap: `g` pairs with the held values (R42). -/
def fillPairs (m : Nat) (r : Ring) (last : Nat) : Nat → List Delivery
  | 0 => []
  | g + 1 =>
    let c := (last + 1) % m
    .pair { index := r.index, count := c, u := r.heldU, i := r.heldI, substU := true, substI := true }
      :: fillPairs m { r with index := r.index + 1 } c g

/-- Departure of a head entry: what it delivers, and the ring after it (R40, R42, R43). -/
def depart (m : Nat) (r : Ring) (last : Nat) (h : RingEntry) (rest : List RingEntry) : Ring × List Delivery :=
  let g := lead m last h.count - 1
  let before : List Delivery :=
    if g = 0 then [] else if g ≤ 4 then fillPairs m r last g else [.gap r.index g]
  let index := r.index + g
  let u := match h.u with | some v => v.value | none => r.heldU
  let i := match h.i with | some v => v.value | none => r.heldI
  ({ entries := rest, last := some h.count, heldU := u, heldI := i, index := index + 1 },
    before ++ [.pair { index := index, count := h.count, u := u, i := i, substU := h.u.isNone, substI := h.i.isNone }])

/-- The departures of complete heads, over the entries of the ring (R39). -/
def departComplete (m : Nat) (r : Ring) : List RingEntry → Ring × List Delivery
  | [] => ({ r with entries := [] }, [])
  | h :: rest =>
    match r.last, h.complete with
    | some last, true =>
      let d := depart m r last h rest
      let d' := departComplete m d.1 rest
      (d'.1, d.2 ++ d'.2)
    | _, _ => ({ r with entries := h :: rest }, [])

/-- A new entry at the position its lead gives (R35, R37 step 6). -/
def insertEntry (m last : Nat) (e : RingEntry) : List RingEntry → List RingEntry
  | [] => [e]
  | h :: rest =>
    if lead m last e.count < lead m last h.count then e :: h :: rest else h :: insertEntry m last e rest

/-- A value is placed in the entry of its count (R37 step 5). -/
def placeValue (c : Nat) (r : Role) (v : RingValue) (es : List RingEntry) : List RingEntry :=
  es.map fun e => if e.count = c then e.place r v else e

/-- What a ring answers to a value record: the ring after it, the deliveries in order, and the report. -/
structure Filed where
  ring   : Ring
  out    : List Delivery
  report : RingReport
deriving DecidableEq, Repr

/-- R37 steps 3 to 6 for a value with count `c`, without the forced departure of R38; none when a full ring must first
let its head go. -/
def fileValue (m : Nat) (r : Ring) (last : Nat) (role : Role) (c : Nat) (v : RingValue) : Option Filed :=
  if !isAhead m last c then some { ring := r, out := [], report := .late }
  else
    match r.entries.find? fun e => e.count == c with
    | some e =>
      if e.holds role then some { ring := r, out := [], report := .duplicate }
      else
        let d := departComplete m r (placeValue c role v r.entries)
        some { ring := d.1, out := d.2, report := .none }
    | none =>
      if r.entries.length < Config.ringPlaces then
        let e := RingEntry.place { count := c, u := none, i := none } role v
        some { ring := { r with entries := insertEntry m last e r.entries }, out := [], report := .none }
      else none

/-- The forced departure of R38: the head departs incomplete, then the complete heads behind it. -/
def forceDeparture (m : Nat) (r : Ring) (last : Nat) : Ring × List Delivery :=
  match r.entries with
  | [] => (r, [])
  | h :: rest =>
    let d := depart m r last h rest
    let d' := departComplete m d.1 rest
    (d'.1, d.2 ++ d'.2)

/-- A value record is taken whole by the ring (R36 to R45), at modulus `m`. -/
def Ring.file (m : Nat) (r : Ring) (x : ValueRecord) : Filed :=
  match x.value with
  | none => { ring := r, out := [], report := .none }
  | some value =>
    let v : RingValue := { value := value, slot := x.slot }
    let last := match r.last with | some l => l | none => (x.count + m - 1) % m
    let r := { r with last := some last }
    match fileValue m r last x.role x.count v with
    | some f => f
    | none =>
      let d := forceDeparture m r last
      match d.1.last with
      | none => { ring := d.1, out := d.2, report := .none }
      | some last' =>
        match fileValue m d.1 last' x.role x.count v with
        | some f => { f with out := d.2 ++ f.out }
        | none => { ring := d.1, out := d.2, report := .none }

end Sys2Proof.Machine
end

