-- ==== Sys2Proof/Machine/Operands.lean ====
section
/-! DEFINITION. Machine/Operands.lean: reading and forming frames and message fields: byte order, check sequence, the
layouts of chapter 12. -/

namespace Sys2Proof.Machine

/-! ### Integers in network byte order (R180, R182) -/

/-- Bytes read as an unsigned integer, most significant first (R180). -/
def beNat (bs : List Byte) : Nat := bs.foldl (fun n b => n * 256 + b.toNat) 0

/-- The `n` low bytes of a number, most significant first. -/
def beBytes : Nat → Nat → List Byte
  | 0, _ => []
  | n + 1, x => BitVec.ofNat 8 (x / 256 ^ n) :: beBytes n (x % 256 ^ n)

/-- The `n` bytes at an offset; a byte beyond the end reads as absent, so the list may be shorter. -/
def field (bs : List Byte) (off n : Nat) : List Byte := (bs.drop off).take n

/-- An unsigned field of `n` bytes at an offset. -/
def fieldNat (bs : List Byte) (off n : Nat) : Nat := beNat (field bs off n)

/-- A 4-byte field read as signed, in two's complement. -/
def signed32 (n : Nat) : Int := if n < 2147483648 then n else (n : Int) - 4294967296

/-- A 4-byte field for an integer, signed or unsigned; one that fits neither way is a free value
(notes/assumptions/2.md). -/
def word32 (x : Int) : List Byte :=
  beBytes 4 (if -2147483648 ≤ x ∧ x < 4294967296 then (x % 4294967296).toNat else (Config.unfitWord x).toNat)

/-- An 8-byte unsigned field for an integer; one that does not fit is a free value (notes/assumptions/2.md). -/
def word64 (x : Int) : List Byte :=
  beBytes 8 (if 0 ≤ x ∧ x < 18446744073709551616 then x.toNat else (Config.unfitWide x).toNat)

/-! ### The frame check sequence (R1) -/

/-- One bit of the check sequence: the generator 04C11DB7 hex, taken least significant bit first
(notes/assumptions/10.md). -/
def crcBit (c : BitVec 32) : BitVec 32 := if c.getLsbD 0 then (c >>> 1) ^^^ 0xEDB88320 else c >>> 1

/-- One byte of the check sequence. -/
def crcByte (c : BitVec 32) (b : Byte) : BitVec 32 :=
  crcBit (crcBit (crcBit (crcBit (crcBit (crcBit (crcBit (crcBit (c ^^^ b.setWidth 32))))))))

/-- The 32-bit check sequence of Ethernet over the bytes (R1). -/
def crc32 (bs : List Byte) : BitVec 32 := bs.foldl crcByte 0xFFFFFFFF ^^^ 0xFFFFFFFF

/-- The check sequence as the last four bytes of a frame carry it, least significant byte first
(notes/assumptions/10.md). -/
def crcBytes (bs : List Byte) : List Byte := (beBytes 4 (crc32 bs).toNat).reverse

/-- The bytes of a frame before its check sequence. -/
def frameBody (f : Frame) : List Byte := f.take (f.length - 4)

/-- R1: the frame is in error. -/
def frameBad (f : Frame) : Bool :=
  f.length < Config.minFrame || Config.maxFrame < f.length || f.drop (f.length - 4) != crcBytes (frameBody f)

/-! ### Recognition (R2, R180) -/

/-- The frame carries one tag (R2). -/
def isTagged (f : Frame) : Bool := fieldNat f 12 2 == 0x8100

/-- The type value of a frame (R2). -/
def typeValue (f : Frame) : Nat := if isTagged f then fieldNat f 16 2 else fieldNat f 12 2

/-- The message of a recognised frame: from the first byte after the type field, the check sequence excluded (R180). -/
def messageOf (f : Frame) : List Byte := (frameBody f).drop (if isTagged f then 18 else 14)

/-- Message kind (R180). -/
def msgKind (m : List Byte) : Nat := fieldNat m 0 2

/-- Message length (R180). -/
def msgLength (m : List Byte) : Nat := fieldNat m 2 2

/-- Stream tag of a sample, state or drive status message. -/
def streamTag (m : List Byte) : Word32 := BitVec.ofNat 32 (fieldNat m 4 4)

/-- Class of a frame that passed the check (R2). -/
inductive FrameClass where
  | unrecognised
  | sample | state | drive
  | request
  | own
  | unknown
deriving DecidableEq, Repr

/-- R2: classification by type value and message kind. -/
def classify (f : Frame) : FrameClass :=
  if typeValue f ≠ 0x88B5 then .unrecognised
  else
    let m := messageOf f
    if m.length < 4 then .unknown
    else
      match msgKind m with
      | 1 => .sample
      | 2 => .state
      | 3 => .drive
      | 17 => .own
      | 33 => .request
      | 34 => .own
      | 35 => .own
      | _ => .unknown

/-! ### Frames the part consumes (12.2) -/

def sampleCount (m : List Byte) : Nat := fieldNat m 8 2
def channelCount (m : List Byte) : Nat := fieldNat m 10 2
def channelValue (m : List Byte) (k : Nat) : Int := signed32 (fieldNat m (12 + 5 * k) 4)
def channelValid (m : List Byte) (k : Nat) : Bool := fieldNat m (16 + 5 * k) 1 % 2 == 1
def sequenceNumber (m : List Byte) : Nat := fieldNat m 8 2
def pointCount (m : List Byte) : Nat := fieldNat m 10 1
def pointValue (m : List Byte) (p : Nat) : Nat := fieldNat m (11 + p) 1

/-- A coupler value from a point (12.2). -/
def couplerOf (n : Nat) : Option CouplerValue :=
  match n with
  | 0 => some .open
  | 1 => some .closed
  | 2 => some .intermediate
  | 3 => some .bad
  | _ => none

/-- A motion value (12.2). -/
def motionOf (n : Nat) : Option Motion :=
  match n with
  | 0 => some .still
  | 1 => some .moving
  | 2 => some .haltedFault
  | _ => none

/-- An injection field (12.2): none when malformed, some none for OFF, some (some j) for ON with code j. -/
def injectionOf (n : Nat) : Option (Option Nat) :=
  if n = 0 then some none
  else if 2 ≤ n ∧ n ≤ 15 ∧ n ≠ 8 then some (some n)
  else none

/-- A sample, state or drive status message is malformed for a slot with these fields at modulus `m` (R21, R180). -/
def malformedFor (b : SlotBody) (modulus : Nat) (m : List Byte) : Bool :=
  m.length < msgLength m ||
  match b with
  | .sample bs =>
    msgLength m < 12 || channelCount m == 0 || 8 < channelCount m || msgLength m < 12 + 5 * channelCount m
      || modulus ≤ sampleCount m || bs.any fun x => channelCount m ≤ x.channel
  | .state p =>
    msgLength m < 11 || pointCount m == 0 || 8 < pointCount m || msgLength m < 11 + pointCount m
      || pointCount m ≤ p || (couplerOf (pointValue m p)).isNone
  | .drive _ =>
    msgLength m < 16 || (motionOf (fieldNat m 12 1)).isNone || (injectionOf (fieldNat m 14 1)).isNone

/-! ### Frames the part sends (R181, 12.3, 12.4) -/

def RecordKind.code : RecordKind → Nat
  | .moveTo _ => 0
  | .stop => 1
  | .injectOn _ => 2
  | .injectOff => 3

def RecordKind.parameter : RecordKind → Nat
  | .moveTo p => p
  | .stop => 0
  | .injectOn j => j
  | .injectOff => 0

def CoilId.number : CoilId → Nat
  | .c1 => 1
  | .c2 => 2

def SecId.number : SecId → Nat
  | .s1 => 1
  | .s2 => 2

def Port.number : Port → Nat
  | .a => 0
  | .b => 1

/-- Object type and number of an event notice (12.3). -/
def Obj.typeNumber : Obj → Nat × Nat
  | .busSection n => (0, SecId.number n)
  | .coil c => (1, CoilId.number c)
  | .slot i => (2, i.val)
  | .port p => (3, Port.number p)

def Status.code : Status → Nat
  | .ok => 0
  | .refusedLength => 1
  | .refusedKind => 2
  | .refusedRange => 3
  | .refusedState => 4

/-- A message from its kind and the bytes after the common header, with the length they give it (R180, R181). -/
def message (kind : Nat) (body : List Byte) : List Byte := beBytes 2 kind ++ beBytes 2 (body.length + 4) ++ body

/-- A drive command record (12.3). -/
def recordMessage (c : CoilId) (r : DriveRecord) : List Byte :=
  message 17 (beBytes 1 r.kind.code ++ beBytes 1 (CoilId.number c) ++ beBytes 1 (if r.toggle then 1 else 0) ++ beBytes 1 0
    ++ beBytes 2 r.kind.parameter)

/-- An event notice, whose kind is the position of R161's table (12.3). -/
def noticeMessage (station : BitVec 4) (e : Source) : List Byte :=
  message 35 (beBytes 1 e.kind.code.val ++ beBytes 1 e.obj.typeNumber.1 ++ beBytes 1 e.obj.typeNumber.2
    ++ beBytes 1 station.toNat ++ beBytes 4 e.time.toNat)

/-- A management response (12.4). -/
def responseMessage (r : Response) : List Byte :=
  message 34 (r.tag ++ [r.kind] ++ beBytes 1 r.status.code ++ beBytes 1 r.field
    ++ beBytes 1 (match r.point with | some p => p | none => 255) ++ r.answer)

/-- A frame the part originates, from its message: broadcast destination, the part's source address, type 88B5 hex, zero
padding to 64 bytes, and the check sequence (R181). -/
def originFrame (station : BitVec 4) (m : List Byte) : Frame :=
  let head : List Byte := [255, 255, 255, 255, 255, 255, 2, 0, 0, 0, 0xC2, station.setWidth 8, 0x88, 0xB5]
  let body := head ++ m ++ List.replicate (60 - (14 + m.length)) 0
  body ++ crcBytes body

/-- The message of a frame the part originates (12.3, 12.4). -/
def OriginMsg.message (station : BitVec 4) : OriginMsg → List Byte
  | .record c _ r => recordMessage c r
  | .response r => responseMessage r
  | .notice e => noticeMessage station e

/-- The frame in which the part sends an originated message (R181). -/
def OriginMsg.frame (station : BitVec 4) (m : OriginMsg) : Frame := originFrame station (m.message station)

/-- The frame a port's transmitter is sending, byte for byte: a relayed frame as it was received, or an originated one under
the part's station number (R5, R9, R181). -/
def State.frameOnWire (s : State) (p : Port) : Option Frame :=
  match (s.port p).tx with
  | .idle => none
  | .forward f _ => some f
  | .origin m _ => some (m.frame s.station)

end Sys2Proof.Machine
end

