-- ==== Sys2Proof/Machine/Flags.lean ====
section
/-! DEFINITION. Machine/Flags.lean: the event unit (summary, report levels, ALARM line), event notices, and the offer of
responses and notices to the origin queues. -/

namespace Sys2Proof.Machine

/-- All event kinds, in the order of the table of R161. -/
def allKinds : List EventKind :=
  [.driveLost, .driveSilent, .driveFaulted, .endStop, .moveOvertime, .injectFailed, .measureLost, .voltageLost,
   .windowRejected, .stepDetected, .targetLimited, .injectionLost, .faultOnset, .faultCleared, .joinUntuned,
   .moveDone, .couplerChange, .couplerUnsure, .streamState, .forwardDrop, .linkDown, .originDrop]

/-- Class of a kind (R161): the first eight are halting, the others notices. -/
def EventKind.halting (k : EventKind) : Bool := k.code.val < 8

/-- A kind is added to a set of kinds, which keeps the order of R161 and no repeats. -/
def addKind (k : EventKind) (ks : List EventKind) : List EventKind :=
  allKinds.filter fun x => x == k || ks.contains x

def EventUnit.enabled (u : EventUnit) (k : EventKind) : Bool := u.enables[k.code]

/-- Whether R162 sends an event of this kind to the report levels: a halting kind always, a notice when enabled. -/
def EventUnit.stacks (u : EventUnit) (k : EventKind) : Bool := k.halting || u.enabled k

/-- Whether a raised event of this kind makes level 1 go from empty to occupied, which forms a notice (R166). -/
def EventUnit.opens (u : EventUnit) (k : EventKind) : Bool := u.level1.isNone && u.stacks k

/-- R162 and R164: the kind enters the summary, and the event is filed in level 1 or level 2 where its class and enable
send it; a first filing forms the alarm mark and the ALARM line follows (R165). -/
def EventUnit.file (u : EventUnit) (e : Source) : EventUnit :=
  let u := { u with summary := addKind e.kind u.summary }
  if u.stacks e.kind then
    match u.level1, u.level2 with
    | none, _ =>
      { u with level1 := some ({ kinds := [e.kind], first := e, latest := e }, u.enabled e.kind),
               alarm := if u.enabled e.kind then .asserted else .deasserted }
    | some _, none => { u with level2 := some { kinds := [e.kind], first := e, latest := e } }
    | some _, some r => { u with level2 := some { r with kinds := addKind e.kind r.kinds, latest := e } }
  else u

/-- An event is filed, without the notice of R166. -/
def fileEvent (e : Source) (s : State) : State := { s with events := s.events.file e }

/-- One copy of an event notice is offered to a port: discarded at a DOWN link (R11), dropped at a full queue with
ORIGIN_DROP (R7), which finds level 1 occupied and forms no notice of its own (R164). -/
def offerNotice (src : Source) (p : Port) (s : State) : State :=
  if (s.port p).link = .down then s.modPort p PortState.dropOrigin
  else if (s.port p).originOccupancy < Config.originPlaces then
    s.modPort p fun x => { x with origin := enqueueByClass x.origin (.notice src) }
  else fileEvent { kind := .originDrop, obj := .port p, time := s.ms } (s.modPort p PortState.dropOrigin)

/-- An event is raised now (R162, R164), with the notice of R166 to both ports when it opens level 1. -/
def raise (k : EventKind) (o : Obj) (s : State) : State :=
  let e : Source := { kind := k, obj := o, time := s.ms }
  if s.events.opens k then offerNotice e .b (offerNotice e .a (fileEvent e s)) else fileEvent e s

/-- A response is offered to the origin queue of a port (R8): discarded at a DOWN link (R11), dropped at a full queue with
ORIGIN_DROP (R7). -/
def offerResponse (r : Response) (p : Port) (s : State) : State :=
  if (s.port p).link = .down then s.modPort p PortState.dropOrigin
  else if (s.port p).originOccupancy < Config.originPlaces then
    s.modPort p fun x => { x with origin := enqueueByClass x.origin (.response r) }
  else raise .originDrop (.port p) (s.modPort p PortState.dropOrigin)

/-- R167 steps 2 and 3: level 2 moves up or level 1 becomes empty, and the ALARM line takes its new state (R165). -/
def EventUnit.moveUp (u : EventUnit) (now : Time) : EventUnit :=
  match u.level1, u.level2 with
  | none, _ => u
  | some _, none => { u with level1 := none, alarm := .deasserted }
  | some (_, mark), some r =>
    let mark' := r.kinds.any u.enabled
    { u with level1 := some (r, mark'), level2 := none,
             alarm := if mark' then (if mark then .reassertAt (now + 1) else .asserted) else .deasserted }

/-- State of the ALARM pin (R165, R183): it sinks current only while asserted, not held in reset and in supply. -/
def State.alarmSinks (s : State) : Bool := s.supplyOk && !s.held && s.events.alarm == .asserted

end Sys2Proof.Machine
end

