-- ==== Sys2Proof/Machine/Tables.lean ====
section
/-! DEFINITION. Machine/Tables.lean: coil tables, the two lookups, and the arithmetic of a decision (chapter 6). -/

namespace Sys2Proof.Machine

/-- A table's first and last point, or none for an empty table (R89). -/
def tableEnds (t : List TablePoint) : Option (TablePoint × TablePoint) :=
  match t.head?, t.getLast? with
  | some p, some q => some (p, q)
  | _, _ => none

/-- `p` lies within the table range (R89). -/
def inTableRange (t : List TablePoint) (p : Nat) : Bool :=
  match tableEnds t with
  | some (a, b) => a.pos ≤ p && p ≤ b.pos
  | none => false

/-- `p` lies strictly inside the table range (R120). -/
def insideTableRange (t : List TablePoint) (p : Nat) : Bool :=
  match tableEnds t with
  | some (a, b) => a.pos < p && p < b.pos
  | none => false

/-- Linear interpolation between two points, the quotient rounded once (R92, R93). -/
def interpolate (x x0 x1 y0 y1 : Int) : Int := y0 + roundDiv ((x - x0) * (y1 - y0)) (x1 - x0)

/-- Forward lookup from the point `a` on, for a position at or above it (R92). -/
def forwardFrom (a : TablePoint) (t : List TablePoint) (p : Nat) : Int :=
  match t with
  | [] => a.b
  | b :: rest => if p < b.pos then interpolate p a.pos b.pos a.b b.b else forwardFrom b rest p

/-- Forward lookup: the susceptance of a coil at a position; none on an empty table (R92). -/
def forwardLookup (t : List TablePoint) (p : Nat) : Option Int :=
  match t with
  | [] => none
  | a :: rest => some (if p ≤ a.pos then a.b else forwardFrom a rest p)

/-- Inverse lookup from the point `a` on, for a susceptance at or above it; the flag says limited high (R93). -/
def inverseFrom (a : TablePoint) (t : List TablePoint) (b : Int) : Int × Bool :=
  match t with
  | [] => (a.pos, true)
  | c :: rest => if b < c.b then (interpolate b a.b c.b a.pos c.pos, false) else inverseFrom c rest b

/-- Inverse lookup: the position at which a coil presents a susceptance, and whether the result is limited; none on an
empty table (R93). -/
def inverseLookup (t : List TablePoint) (b : Int) : Option (Nat × Bool) :=
  match t with
  | [] => none
  | a :: rest =>
    if b ≤ a.b then some (a.pos, true)
    else
      let r := inverseFrom a rest b
      some (r.1.toNat, r.2)

/-- A value clamped to a coil's susceptance span (R101); an empty table clamps nothing. -/
def clampSpan (t : List TablePoint) (b : Int) : Int :=
  match tableEnds t with
  | some (x, y) => max x.b (min b y.b)
  | none => b

/-- The split of a target susceptance between the coils: B1, B2 and the residue (R101). -/
def splitTarget (t1 t2 : List TablePoint) (share : Nat) (bT : Int) : Int × Int × Int :=
  let a1 := roundDiv (bT * share) 256
  let a2 := bT - a1
  let b1 := clampSpan t1 a1
  let b2 := a2 + (a1 - b1)
  let c2 := clampSpan t2 b2
  let c1 := b1 + (b2 - c2)
  let d1 := clampSpan t1 c1
  (d1, c2, c1 - d1)

/-- Present detuning in per mille (R99). -/
def presentDetuning (e bL : Int) : Int := roundDiv (1000 * (e - bL)) e

/-- Target susceptance (R100). -/
def targetSusceptance (e set : Int) : Int := roundDiv (e * (1000 - set)) 1000

end Sys2Proof.Machine
end

