-- ==== Sys2Proof/Machine/DriveLink.lean ====
section
/-! DEFINITION. Machine/DriveLink.lean: forming drive command records, offering them to the origin queues, and the pending
work of a coil (R7, R8, R107 to R115). -/

namespace Sys2Proof.Machine

/-! ### Offering a drive record (R7, R8, R11) -/

def Route.ports : Route → List Port
  | .one p => [p]
  | .both => [.a, .b]

/-- The route of a record formed now (R8). -/
def Coil.route (k : Coil) : Route :=
  match k.arrival with
  | some p => .one p
  | none => .both

/-- A drive record of coil `c` need not wait at this port: the link is DOWN (R11), a waiting tracked record gives its
position (R7), or a place is free. -/
def PortState.admits (p : PortState) (c : CoilId) (tracked : Bool) : Bool :=
  p.link == .down || (tracked && p.origin.any (OriginMsg.isTracked c)) || p.originOccupancy < Config.originPlaces

/-- A drive record enters a port that admits it (R7, R11). -/
def PortState.enterRecord (p : PortState) (c : CoilId) (tracked : Bool) (r : DriveRecord) : PortState :=
  let m := OriginMsg.record c tracked r
  if p.link = .down then p.dropOrigin
  else if tracked && p.origin.any (OriginMsg.isTracked c) then
    { p with origin := p.origin.map fun x => if x.isTracked c then m else x }
  else { p with origin := enqueueByClass p.origin m }

/-- Every port of the route admits the record: it enters both origin queues at the same moment (R8). -/
def State.admits (s : State) (c : CoilId) (w : Waiting) : Bool :=
  w.route.ports.all fun p => (s.port p).admits c w.tracked

/-- A send of the record in flight is made: its count grows, its acceptance timer starts (R114), and the send of an
INJECT_OFF stops the confirmation timer (R121). -/
def Coil.sendMade (k : Coil) (now : Time) : Coil :=
  match k.inFlight with
  | none => k
  | some f =>
    { k with
      inFlight := some { f with sends := f.sends + 1, lastSend := some now }
      acceptTimer := some (now + span k.settings.acceptTimeout)
      confirmTimer := if f.record.kind = .injectOff then none else k.confirmTimer }

/-- A record enters the queues of its route; for a tracked record that counts as a send made (R7, R114). -/
def enterRecord (c : CoilId) (w : Waiting) (s : State) : State :=
  let s := w.route.ports.foldl (fun s p => s.modPort p fun x => x.enterRecord c w.tracked w.record) s
  if w.tracked then s.modCoil c fun k => k.sendMade s.ms else s

/-- The port of a route to both ports whose link alone is DOWN: its copy is discarded when the record is offered (R11). -/
def State.lostCopy (s : State) : Route → Option Port
  | .one _ => none
  | .both =>
    match s.portA.link, s.portB.link with
    | .down, .up => some .a
    | .up, .down => some .b
    | .up, .up => none
    | .down, .down => none

/-- Every port of the route is DOWN: the record is discarded on arrival, whatever waits (R11). -/
def State.routeDown (s : State) (r : Route) : Bool := r.ports.all fun p => (s.port p).link == .down

/-- A record is to wait at the place `put` gives it among the waiting records of its coil, where it does not enter: the copy
for a DOWN port is discarded and counted now, and the record waits for the other port alone (R7, R11). -/
def waitRecord (c : CoilId) (w : Waiting) (put : Waiting → List Waiting) (s : State) : State :=
  match s.lostCopy w.route with
  | some p => (s.modPort p PortState.dropOrigin).modCoil c fun k => { k with waiting := put { w with route := .one p.other } }
  | none => s.modCoil c fun k => { k with waiting := put w }

/-- A record is offered: it enters, or it waits behind the records of its coil that wait already (R7, R11). -/
def offerRecord (c : CoilId) (tracked : Bool) (r : DriveRecord) (s : State) : State :=
  let w : Waiting := { tracked := tracked, record := r, route := (s.coil c).route }
  if ((s.coil c).waiting.isEmpty || s.routeDown w.route) && s.admits c w then enterRecord c w s
  else waitRecord c w (fun w => (s.coil c).waiting ++ [w]) s

/-- A tracked record is formed with the complement of the context toggle, becomes the record in flight and is offered
(R110, R113). -/
def formTracked (c : CoilId) (kind : RecordKind) (s : State) : State :=
  match (s.coil c).toggle with
  | none => s
  | some t =>
    let r : DriveRecord := { kind := kind, toggle := !t }
    offerRecord c true r
      (s.modCoil c fun k => { k with toggle := some !t, inFlight := some { record := r, sends := 0, lastSend := none } })

/-- An untracked record is formed with the next toggle; while the toggle is absent it is formed twice, with 0 and with 1
(R110). -/
def formUntracked (c : CoilId) (kind : RecordKind) (s : State) : State :=
  match (s.coil c).toggle with
  | none => offerRecord c false { kind := kind, toggle := true } (offerRecord c false { kind := kind, toggle := false } s)
  | some t => offerRecord c false { kind := kind, toggle := !t } (s.modCoil c fun k => { k with toggle := some !t })

/-! ### Send conditions and the sending stage (R113) -/

/-- The send condition of a move target: what the section that drives the coil must be, and the table range. -/
def moveMaySend (c : CoilId) (target : Nat) (origin : MoveOrigin) (s : State) : Bool :=
  let x := s.sec (s.driver c)
  (match origin with
    | .automatic => x.state == .tracking && x.inhibit.isEmpty
    | .manual => x.state == .disabled)
  && inTableRange (s.coil c).table target

/-- The send condition of an INJECT_ON: the state of the section whose drive this is. -/
def injectMaySend (c : CoilId) (s : State) : Bool := (s.sec c.sec).state.injects

/-- The send condition of the record in flight, for a later send (R113, R115). -/
def recordMaySend (c : CoilId) (k : RecordKind) (s : State) : Bool :=
  match k with
  | .moveTo target =>
    match (s.coil c).move with
    | some m => moveMaySend c target m.origin s
    | none => false
  | .injectOn _ => injectMaySend c s
  | .stop => true
  | .injectOff => true

/-- The channel to the drive is free (R113). -/
def Coil.channelFree (k : Coil) : Bool :=
  k.state != .failed && k.state != .unbound && k.toggle.isSome && k.inFlight.isNone

def Coil.still (k : Coil) : Bool :=
  match k.reported with
  | some r => r.motion == .still
  | none => false

/-- A pending move target is taken: sent, discarded when its condition fails, or left pending (R113 item 3). -/
def takeMove (c : CoilId) (s : State) : State :=
  let k := s.coil c
  match k.pendMove with
  | none => s
  | some t =>
    if k.still && k.move.isNone then
      if moveMaySend c t.target t.origin s then
        let start := match k.reported with | some r => r.pos | none => 0
        formTracked c (.moveTo t.target)
          (s.modCoil c fun k => { k with
            pendMove := none
            move := some { target := t.target, origin := t.origin, accepted := none, start := start,
                           movingSeen := false } })
      else s.modCoil c fun k => { k with pendMove := none }
    else s

/-- R113: while the channel is free, one pending item is taken, STOP before the injection change before the move. -/
def takePending (c : CoilId) (s : State) : State :=
  let k := s.coil c
  if k.channelFree then
    if k.pendStop then formTracked c .stop (s.modCoil c fun k => { k with pendStop := false })
    else
      match k.pendInj with
      | some .off => formTracked c .injectOff (s.modCoil c fun k => { k with pendInj := none })
      | some (.on j) =>
        if injectMaySend c s then
          formTracked c (.injectOn j) (s.modCoil c fun k => { k with pendInj := none, heldInj := .sent j })
        else takeMove c (s.modCoil c fun k => { k with pendInj := none })
      | none => takeMove c s
  else s

/-! ### Requests that reach a context (R109, R111, R112) -/

/-- Requests that reach a FAILED or UNBOUND coil are discarded. -/
def Coil.takesRequests (k : Coil) : Bool := k.state != .failed && k.state != .unbound

/-- A move request fills the pending move target (R111). -/
def requestMove (c : CoilId) (target : Nat) (origin : MoveOrigin) (s : State) : State :=
  if (s.coil c).takesRequests then
    takePending c (s.modCoil c fun k => { k with pendMove := some { target := target, origin := origin } })
  else s

/-- The pending move target is cleared (R111). -/
def clearTarget (c : CoilId) (s : State) : State := s.modCoil c fun k => { k with pendMove := none }

/-- A STOP request clears the pending target, and sets pending STOP when a move is in flight (R112). -/
def requestStop (c : CoilId) (s : State) : State :=
  if (s.coil c).takesRequests then
    takePending c (s.modCoil c fun k => { k with pendMove := none, pendStop := k.pendStop || k.move.isSome })
  else s

/-- An injection request fills the pending injection change (R112). -/
def requestInjection (c : CoilId) (q : InjReq) (s : State) : State :=
  if (s.coil c).takesRequests then takePending c (s.modCoil c fun k => { k with pendInj := some q }) else s

/-- Both pending targets of the coils a section drives are cleared, coil 1 first. -/
def clearTargets (cs : List CoilId) (s : State) : State := cs.foldl (fun s c => clearTarget c s) s

/-- A STOP is requested for each of the coils that has a move in flight (R136). -/
def requestStops (cs : List CoilId) (s : State) : State :=
  cs.foldl (fun s c => if (s.coil c).move.isSome then requestStop c s else s) s

/-- An injection request for the injecting drive of a section, if it has one. -/
def requestInjector (n : SecId) (q : InjReq) (s : State) : State :=
  match s.injector n with
  | some c => requestInjection c q s
  | none => s

/-! ### Withdrawal and waiting records (R7, R113, R115) -/

/-- A record in flight that fails its send condition is withdrawn, and the STOP or INJECT_OFF it leaves pending is taken
(R115). -/
def withdraw (c : CoilId) (s : State) : State :=
  match (s.coil c).inFlight with
  | none => s
  | some f =>
    takePending c (s.modCoil c fun k =>
      let k := { k with inFlight := none, acceptTimer := none, waiting := k.waiting.filter fun w => !w.tracked }
      match f.record.kind with
      | .moveTo _ => { k with pendStop := true }
      | .injectOn j => { k with pendInj := some .off, heldInj := .sent j, confirmTimer := none }
      | .stop => k
      | .injectOff => k)

/-- The first waiting record of a coil takes its place if its ports admit it: it enters, or a tracked record that fails its
send condition is withdrawn (R7, R113). A record that must go on waiting loses its copy for a DOWN port (R11;
notes/assumptions/37.md). None when nothing waits or nothing changes. -/
def admitWaiting (c : CoilId) (s : State) : Option State :=
  match (s.coil c).waiting with
  | [] => none
  | w :: rest =>
    if s.admits c w then
      if w.tracked && !recordMaySend c w.record.kind s then some (withdraw c s)
      else some (enterRecord c w (s.modCoil c fun k => { k with waiting := rest }))
    else if (s.lostCopy w.route).isSome then some (waitRecord c w (fun w => w :: rest) s)
    else none

/-- Waiting records enter while places are free, coil 1's first (R7). Each turn takes one record away, withdraws
one, or takes a copy from one. -/
def admitAll : Nat → State → State
  | 0, s => s
  | n + 1, s =>
    match admitWaiting .c1 s with
    | some s' => admitAll n s'
    | none =>
      match admitWaiting .c2 s with
      | some s' => admitAll n s'
      | none => s

/-- Every waiting record that finds a place enters. -/
def admitRecords (s : State) : State := admitAll (2 * (s.coil1.waiting.length + s.coil2.waiting.length) + 8) s

/-! ### Silence supervision (R123) -/

/-- Silence supervision of a coil is armed. -/
def silenceArmed (c : CoilId) (s : State) : Bool :=
  let k := s.coil c
  k.state != .failed && k.state != .unbound
    && (k.inFlight.isSome || k.move.isSome || (s.sec (s.driver c)).state != .disabled)

/-- The supervision of a coil starts when it becomes armed and stops when it no longer is. -/
def superviseSilence (c : CoilId) (s : State) : State :=
  match (s.coil c).silenceTimer, silenceArmed c s with
  | none, true => s.modCoil c fun k => { k with silenceTimer := some (s.ms + span k.settings.silenceTimeout) }
  | some _, false => s.modCoil c fun k => { k with silenceTimer := none }
  | _, _ => s

/-- What follows within every step of the part: waiting records enter where places are free, silence supervision follows
its conditions, and the arbiters choose (R7, R9, R123; notes/assumptions/6.md). -/
def conclude (s : State) : State := arbitrate (superviseSilence .c2 (superviseSilence .c1 (admitRecords s)))

/-- A step of the part, which takes place only while the part acts (notes/assumptions/5.md). -/
def act (f : State → State) (s : State) : State := if s.live then conclude (f s) else s

end Sys2Proof.Machine
end

