-- ==== Sys2Proof/Machine/CosTable.lean ====
section
/-! DEFINITION. Machine/CosTable.lean: the reference cosine table of R53, given by its first quarter and its symmetry. -/

namespace Sys2Proof.Machine

/-- Entries 0 to 19 of the reference table (R53). -/
def cosPart0 : List Nat :=
  [32767, 32765, 32761, 32753, 32742, 32728, 32710, 32690, 32666, 32639, 32609, 32576, 32540, 32500, 32458, 32412, 32364, 32312, 32257, 32199]

/-- Entries 20 to 39 of the reference table (R53). -/
def cosPart1 : List Nat :=
  [32137, 32073, 32006, 31935, 31862, 31785, 31705, 31623, 31537, 31448, 31356, 31261, 31163, 31062, 30958, 30852, 30742, 30629, 30513, 30394]

/-- Entries 40 to 59 of the reference table (R53). -/
def cosPart2 : List Nat :=
  [30273, 30148, 30021, 29890, 29757, 29621, 29482, 29340, 29196, 29048, 28898, 28745, 28589, 28431, 28269, 28105, 27938, 27769, 27597, 27422]

/-- Entries 60 to 79 of the reference table (R53). -/
def cosPart3 : List Nat :=
  [27245, 27065, 26882, 26697, 26509, 26319, 26126, 25930, 25732, 25532, 25329, 25124, 24916, 24706, 24494, 24279, 24062, 23842, 23620, 23396]

/-- Entries 80 to 99 of the reference table (R53). -/
def cosPart4 : List Nat :=
  [23170, 22941, 22710, 22477, 22242, 22005, 21766, 21524, 21280, 21035, 20787, 20537, 20286, 20032, 19777, 19519, 19260, 18999, 18736, 18471]

/-- Entries 100 to 119 of the reference table (R53). -/
def cosPart5 : List Nat :=
  [18204, 17936, 17666, 17394, 17121, 16846, 16569, 16291, 16011, 15729, 15446, 15162, 14876, 14589, 14300, 14010, 13718, 13425, 13131, 12836]

/-- Entries 120 to 139 of the reference table (R53). -/
def cosPart6 : List Nat :=
  [12539, 12242, 11943, 11642, 11341, 11039, 10735, 10431, 10126, 9819, 9512, 9203, 8894, 8584, 8273, 7962, 7649, 7336, 7022, 6708]

/-- Entries 140 to 159 of the reference table (R53). -/
def cosPart7 : List Nat :=
  [6393, 6077, 5760, 5443, 5126, 4808, 4489, 4171, 3851, 3532, 3212, 2891, 2571, 2250, 1929, 1608, 1286, 965, 643, 322]

/-- Entries 160 to 160 of the reference table (R53). -/
def cosPart8 : List Nat :=
  [0]

/-- Entries 0 to 160 of the reference table: round(32767 cos(2 pi k / 640)) over the first quarter (R53). -/
def cosQuarter : List Nat :=
  cosPart0 ++ cosPart1 ++ cosPart2 ++ cosPart3 ++ cosPart4 ++ cosPart5 ++ cosPart6 ++ cosPart7 ++ cosPart8

/-- Entry `k` of the reference table, 0 to 639: C[640 - k] is C[k], and C[320 - k] is -C[k] (R53). -/
def cosRef (k : Nat) : Int :=
  if k ≤ 160 then (cosQuarter.getD k 0 : Nat)
  else if k ≤ 320 then -(cosQuarter.getD (320 - k) 0 : Nat)
  else if k ≤ 480 then -(cosQuarter.getD (k - 320) 0 : Nat)
  else (cosQuarter.getD (640 - k) 0 : Nat)

/-- The sine reference, read from the same table (R53). -/
def sinRef (k : Nat) : Int := cosRef ((k + 480) % 640)

end Sys2Proof.Machine
end

