-- ==== Sys2Proof/Machine/Windows.lean ====
section
/-! DEFINITION. Machine/Windows.lean: the window engine on its own state: length, accumulation, phasors, grade, discards
(chapter 4). -/

namespace Sys2Proof.Machine

/-- Effective window length in nominal cycles (R54). -/
def windowLength (x : SectionSettings) (quick : Nat) : Nat :=
  if quick > 0 || x.windowCycles < 16 then 8 else if x.windowCycles < 32 then 16 else 32

/-- A window in flight takes a pair (R59). -/
def Window.take (w : Window) (p : Pair) : Window :=
  let k := (w.j * w.taken) % 640
  { w with
    taken := w.taken + 1
    auRe := w.auRe + p.u * cosRef k
    auIm := w.auIm - p.u * sinRef k
    aiRe := w.aiRe + p.i * cosRef k
    aiIm := w.aiIm - p.i * sinRef k
    subst := if p.substU || p.substI then w.subst + 1 else w.subst }

/-- A window holds all its pairs (R60). -/
def Window.complete (w : Window) : Bool := w.taken == 80 * w.w

/-- A phasor component from its sum (R60). -/
def phasorPart (w : Nat) (a : Int) : Int := roundDiv (2 * a) (80 * w * 32767)

/-- The grade thresholds T1 to T7 with their grades (R67). -/
def SectionSettings.thresholds (x : SectionSettings) : List (Nat × Nat) :=
  [(1, x.t1), (2, x.t2), (3, x.t3), (4, x.t4), (5, x.t5), (6, x.t6), (7, x.t7)]

/-- The largest grade of the list whose level, less `h` and not below 0, squared is at most D; 0 if there is none. -/
def highestGrade (ts : List (Nat × Nat)) (h : Nat) (d : Int) : Nat :=
  ts.foldl (fun g kt => if (((kt.2 - h) * (kt.2 - h) : Nat) : Int) ≤ d then max g kt.1 else g) 0

/-- The grade of a window with hysteresis, from the previous grade (R67). -/
def gradeOf (x : SectionSettings) (g : Nat) (d : Int) : Nat :=
  let up := highestGrade x.thresholds 0 d
  if g ≤ up then up else highestGrade (x.thresholds.filter fun kt => kt.1 ≤ g) x.hysteresis d

/-- What a complete window forms, given its grade rule's settings and the current grade (R60). -/
def Window.phasors (w : Window) (x : SectionSettings) (g : Nat) : Phasors :=
  let uRe := phasorPart w.w w.auRe
  let uIm := phasorPart w.w w.auIm
  let d := uRe * uRe + uIm * uIm
  { uRe := uRe, uIm := uIm, iRe := phasorPart w.w w.aiRe, iIm := phasorPart w.w w.aiIm, d := d, grade := gradeOf x g d }

/-- The validity checks of R61, first failure first. -/
def validity (x : SectionSettings) (w : Window) (f : Phasors) : Option RejectReason :=
  if f.d = 0 then some .noResponse
  else if f.iRe * f.iRe + f.iIm * f.iIm < (x.iMin * x.iMin : Nat) then some .noInjection
  else if f.grade < x.minGrade then some .lowGrade
  else if w.subst > x.substLimit then some .substituted
  else none

/-- The outcome record of a window that has completed (R62). -/
def Window.completed (w : Window) (f : Phasors) (r : WindowResult) : OutcomeRec :=
  { result := r, start := w.start, w := w.w, taken := w.taken, subst := w.subst, phasors := some f }

/-- A window in flight is discarded and the engine becomes ready afresh in WAIT (R62 to R65); without a window nothing
happens. -/
def Engine.discard (g : Engine) (cause : DiscardCause) : Engine :=
  match g.state with
  | .run w =>
    { g with
      state := .wait
      firstPair := false
      outcome := some { result := .discarded cause, start := w.start, w := w.w, taken := w.taken, subst := w.subst,
                        phasors := none }
      discarded := satInc g.discarded }
  | .wait => g
  | .off => g

/-- The engine goes to OFF, a window in flight being discarded with the cause given (R64, R65). -/
def Engine.turnOff (g : Engine) (cause : DiscardCause) : Engine :=
  { g.discard cause with state := .off, firstPair := false }

/-- The engine enters WAIT, ready afresh (R56). -/
def Engine.ready (g : Engine) : Engine := { g with state := .wait, firstPair := false }

/-- An engine in WAIT is told of a coupler change and becomes ready afresh (R56). -/
def Engine.couplerChanged (g : Engine) : Engine :=
  match g.state with
  | .wait => { g with firstPair := false }
  | .off => g
  | .run _ => g

/-- A section start resets the engine (R70, R133 steps 1 and 4); the quick count is that of the estimate reset (R55). -/
def Engine.started (x : SectionSettings) : Engine := { Engine.initial with quick := x.quickWindows }

def Engine.window (g : Engine) : Option Window :=
  match g.state with
  | .run w => some w
  | .wait => none
  | .off => none

end Sys2Proof.Machine
end

