-- ==== Sys2Proof/Machine/Sections.lean ====
section
/-! DEFINITION. Machine/Sections.lean: the section controller: transitions with their orderly exits and start resets,
halting, coil failure, and the bus coupler (chapters 7.9 and 8, R157). -/

namespace Sys2Proof.Machine

/-! ### The supervisor follows its section (R131, R157) -/

/-- A supervisor goes idle (R157). -/
def Supervisor.goIdle (v : Supervisor) : Supervisor :=
  { v with
    phase := .idle, acc := none, confirm := 0, clear := 0, capture := none, holdOff := none
    record := if v.record.status = some .standing then { v.record with status := some .abandoned, clear := none }
              else v.record }

/-- A supervisor takes the activity its section's state gives it (R157). -/
def Supervisor.follow (active : Bool) (v : Supervisor) : Supervisor :=
  match v.phase, active with
  | .idle, true => { v with phase := .watch, acc := none }
  | .watch, false => v.goIdle
  | .standing, false => v.goIdle
  | .idle, false => v
  | .watch, true => v
  | .standing, true => v

/-- A start of the section resets its supervisor, which keeps its phase and its fault record (R157). -/
def Supervisor.started (v : Supervisor) : Supervisor :=
  { v with acc := none, confirm := 0, clear := 0, capture := none, holdOff := none, last := none, blind := 0 }

/-- Whether the fault supervisor of a section is active (R131, R158). -/
def State.supervised (s : State) : SecId → Bool
  | .s1 => s.sec1.state.active
  | .s2 => if s.sec2.state = .joined then s.sec1.state.active else s.sec2.state.active

/-- Both supervisors follow the section states. -/
def followSections (s : State) : State :=
  { s with
    sec1 := { s.sec1 with sup := s.sec1.sup.follow (s.supervised .s1) }
    sec2 := { s.sec2 with sup := s.sec2.sup.follow (s.supervised .s2) } }

/-- A change of section state: the entry time is taken, and the supervisors are told (R131). -/
def setSectionState (n : SecId) (st : SecState) (s : State) : State :=
  followSections (s.modSec n fun x => { x with state := st, entryTime := s.ms })

/-- The hold-off counter of a section's supervisor stops or starts (R156). -/
def setHoldOff (n : SecId) (h : Option Nat) (s : State) : State :=
  s.modSec n fun x => { x with sup := { x.sup with holdOff := h } }

/-- The window engine of a section goes to OFF (R64, R65). -/
def turnEngineOff (n : SecId) (cause : DiscardCause) (s : State) : State :=
  s.modSec n fun x => { x with engine := x.engine.turnOff cause }

/-- A window in flight of a section is discarded (R63 to R65). -/
def discardWindow (n : SecId) (cause : DiscardCause) (s : State) : State :=
  s.modSec n fun x => { x with engine := x.engine.discard cause }

/-- An estimate reset, with the quick count and the decision counter it sets (R55, R85, R97). -/
def resetEstimate (n : SecId) (s : State) : State :=
  s.modSec n fun x =>
    { x with estimate := Estimate.cleared, counter := 0,
             engine := { x.engine with quick := x.settings.quickWindows } }

/-! ### Starting (R133) -/

/-- The start resets of a section: ring, estimate, window engine, decision record and supervisor (R133 steps 1 to 5). -/
def Section.started (x : Section) : Section :=
  { x with ring := Ring.cleared, estimate := Estimate.cleared, counter := 0, decision := none,
           engine := Engine.started x.settings, sup := x.sup.started }

/-- A section enters STARTING (R133). -/
def enterStarting (n : SecId) (s : State) : State :=
  let s := setSectionState n .starting s
  let s := s.modSec n Section.started
  requestInjector n (.on (s.sec n).settings.injectionCode) s

/-! ### Orderly exits (R136) -/

/-- The effects of an exit to FAULT or HALTED: targets cleared, then STOP, then INJECT_OFF (R136). -/
def stopAndSilence (n : SecId) (s : State) : State :=
  requestInjector n .off (requestStops (s.drives n) (clearTargets (s.drives n) s))

/-- A section enters FAULT (R140, R141); a hold-off is abandoned. -/
def enterFault (n : SecId) (s : State) : State :=
  stopAndSilence n (setHoldOff n none (setSectionState n .fault (turnEngineOff n .state s)))

/-- A section enters HALTED with its cause; section 1 in joined mode leaves the joined network untuned (R137). JOIN_UNTUNED
follows the requests of the exit (notes/assumptions/42.md). -/
def enterHalted (n : SecId) (cause : HaltCause) (s : State) : State :=
  let s := setSectionState n .halted (turnEngineOff n .state s)
  let s := stopAndSilence n (s.modSec n fun x => { x with lastHalt := some cause })
  if n = .s1 ∧ s.joined then raise .joinUntuned (.busSection .s1) s else s

/-- A halting event is recorded for section 2 while it is JOINED (R147). -/
def recordJoinedHalt (cause : HaltCause) (s : State) : State :=
  { s.modSec .s2 fun x => { x with lastHalt := some cause } with
    ret2 := if s.ret2 = .starting then .halted else s.ret2 }

/-- A halting event acts on a section (R137, R147). -/
def haltSection (n : SecId) (cause : HaltCause) (s : State) : State :=
  match (s.sec n).state with
  | .starting => enterHalted n cause s
  | .measuring => enterHalted n cause s
  | .tracking => enterHalted n cause s
  | .fault => enterHalted n cause s
  | .recovery => enterHalted n cause s
  | .halted => s
  | .disabled => s
  | .joined => recordJoinedHalt cause s

/-- DISABLE_SECTION on a section (R139, R136). JOIN_UNTUNED follows the requests of the exit (notes/assumptions/42.md). -/
def disableSection (n : SecId) (s : State) : State :=
  match (s.sec n).state with
  | .disabled => s
  | .joined => { s with ret2 := .disabled }
  | .starting | .measuring | .tracking | .fault | .recovery | .halted =>
    let s := setSectionState n .disabled (turnEngineOff n .state s)
    let s := requestInjector n .off (clearTargets (s.drives n) s)
    if n = .s1 ∧ s.joined then raise .joinUntuned (.busSection .s1) s else s

/-! ### A coil fails (R125) -/

/-- The untracked STOP and INJECT_OFF of a coil that enters FAILED (R125 steps 1 and 2). -/
def sendSafe (c : CoilId) (s : State) : State :=
  let s := if (s.coil c).move.isSome then formUntracked c .stop s else s
  if (s.coil c).heldInj ≠ .off then formUntracked c .injectOff s else s

/-- From now on the records of a coil that wait unsent are no longer followed: no later record replaces them (R125, R130;
notes/assumptions/7.md). -/
def untrack (c : CoilId) (m : OriginMsg) : OriginMsg :=
  match m with
  | .record c' t r => .record c' (t && !(c' == c)) r
  | .response r => .response r
  | .notice src => .notice src

def untrackQueues (c : CoilId) (s : State) : State :=
  { s with portA := { s.portA with origin := s.portA.origin.map (untrack c) }
           portB := { s.portB with origin := s.portB.origin.map (untrack c) } }

/-- Record, move, pending slots and timers are cleared, and failed becomes yes (R125 steps 2 to 4). -/
def Coil.enterFailed (k : Coil) : Coil :=
  { k with failed := true, inFlight := none, move := none, pendMove := none, pendInj := none, pendStop := false,
           heldInj := .off, waiting := k.waiting.map fun w => { w with tracked := false },
           acceptTimer := none, confirmTimer := none, moveTimer := none, silenceTimer := none }

/-- A coil enters FAILED: the event first, then R125, then the section that drives the coil, and section 2 while it is
JOINED for its own coil (R137, R147). -/
def failCoil (c : CoilId) (k : EventKind) (s : State) : State :=
  let cause : HaltCause := { kind := k, obj := .coil c, time := s.ms }
  let s := raise k (.coil c) s
  let s := untrackQueues c (sendSafe c s)
  let s := s.modCoil c Coil.enterFailed
  let s := haltSection (s.driver c) cause s
  if c = .c2 ∧ s.sec2.state = .joined then recordJoinedHalt cause s else s

/-! ### Earth faults and sections (R140, R141) -/

/-- The section on which the supervisor of a section acts. -/
def State.faultTarget (s : State) (m : SecId) : SecId := if s.joined then .s1 else m

/-- A supervisor has a fault standing. -/
def Section.faultStanding (x : Section) : Bool := x.sup.phase == .standing

/-- A supervisor reports a confirmed fault (R140, R141). -/
def faultConfirmed (m : SecId) (s : State) : State :=
  let n := s.faultTarget m
  match (s.sec n).state with
  | .starting | .measuring | .tracking | .recovery => enterFault n s
  | .fault | .disabled | .halted | .joined => s

/-- A section enters RECOVERY and its hold-off starts; with RECOVERY_CYCLES 0 it runs out at its start (R156). -/
def enterRecovery (n : SecId) (s : State) : State :=
  let s := setHoldOff n (some 0) (setSectionState n .recovery s)
  if (s.sec n).settings.recoveryCycles = 0 then enterStarting n s else s

/-- A supervisor reports that its fault has cleared (R140, R141). -/
def faultCleared (m : SecId) (s : State) : State :=
  let n := s.faultTarget m
  let standing := if s.joined then s.sec1.faultStanding || s.sec2.faultStanding else (s.sec m).faultStanding
  if (s.sec n).state = .fault ∧ !standing then enterRecovery n s else s

/-! ### Injection reports (R135) -/

/-- Injection is confirmed ON for a section: STARTING becomes MEASURING (R135). -/
def injectionConfirmed (n : SecId) (s : State) : State :=
  if (s.sec n).state = .starting then
    let s := setSectionState n .measuring s
    s.modSec n fun x => { x with engine := if x.inhibit.unsure then x.engine else x.engine.ready }
  else s

/-- The first estimate of a section: MEASURING becomes TRACKING (R135). -/
def firstEstimate (n : SecId) (s : State) : State :=
  if (s.sec n).state = .measuring then setSectionState n .tracking s else s

/-! ### Inhibits and the unsure causes (R143, R144) -/

/-- A section's inhibit set changes; when it becomes non-empty the pending targets are cleared (R144). -/
def setInhibit (n : SecId) (h : Inhibit) (s : State) : State :=
  let was := (s.sec n).inhibit
  let s := s.modSec n fun x => { x with inhibit := h }
  if was.isEmpty && !h.isEmpty then clearTargets (s.drives n) s else s

/-- The unsure causes have become non-empty (R143). -/
def becomeUnsure (s : State) : State :=
  let h1 := { s.sec1.inhibit with unsure := true }
  let h2 := { s.sec2.inhibit with unsure := true }
  let e1 := s.sec1.inhibit.isEmpty
  let e2 := s.sec2.inhibit.isEmpty
  let s := { s with sec1 := { s.sec1 with inhibit := h1 }, sec2 := { s.sec2 with inhibit := h2 } }
  let s := raise .couplerUnsure (.busSection .s1) s
  let s := turnEngineOff .s2 .coupler (turnEngineOff .s1 .coupler s)
  let s := if e1 then clearTargets (s.drives .s1) s else s
  if e2 then clearTargets (s.drives .s2) s else s

/-- COUPLER_UNSURE leaves a section's inhibit set; a measuring section's engine becomes ready afresh (R143). -/
def Section.sureAgain (x : Section) : Section :=
  { x with inhibit := { x.inhibit with unsure := false }
           engine := if x.state.measures then x.engine.ready else x.engine }

/-- The unsure causes have become empty (R143). -/
def becomeSure (s : State) : State := { s with sec1 := s.sec1.sureAgain, sec2 := s.sec2.sureAgain }

/-- The unsure causes take a new value, with the effects of R143. -/
def setUnsure (u : Unsure) (s : State) : State :=
  let was := s.coupler.unsure
  let s := { s with coupler := { s.coupler with unsure := u } }
  if was.isEmpty && !u.isEmpty then becomeUnsure s
  else if !was.isEmpty && u.isEmpty then becomeSure s
  else s

/-- The matcher reports the availability of the coupler source (R30, R142). -/
def reportAvailability (avail : Bool) (s : State) : State :=
  let s := { s with coupler := { s.coupler with available := avail } }
  setUnsure { s.coupler.unsure with unavailable := !avail } s

/-! ### The coupler closes and opens (R145, R146) -/

/-- Section 2's return state when the coupler closes (R145). -/
def returnFor (st : SecState) : ReturnState := if st.active then .starting else .disabled

def setHeld (h : Held) (s : State) : State := { s with coupler := { s.coupler with held := h } }

/-- Section 1 takes part in a coupler change: window, estimate, and TRACKING to MEASURING with the pending targets of the
coils given (R145 step 3, R146 step 2). -/
def couplerChangeSec1 (before : List CoilId) (s : State) : State :=
  let s := resetEstimate .s1 (discardWindow .s1 .coupler s)
  if s.sec1.state = .tracking then clearTargets before (setSectionState .s1 .measuring s) else s

/-- Both engines that stand in WAIT become ready afresh (R56). -/
def tellEngines (s : State) : State :=
  { s with sec1 := { s.sec1 with engine := s.sec1.engine.couplerChanged }
           sec2 := { s.sec2 with engine := s.sec2.engine.couplerChanged } }

/-- The pending target of a coil is a manual one (R111). -/
def Coil.manualPending (k : Coil) : Bool :=
  match k.pendMove with
  | some t => t.origin == .manual
  | none => false

/-- The closing leaves coil 2's pending target to the sending stage: a manual one of a DISABLED section 2 (R127, R145;
notes/assumptions/35.md). -/
def State.joinKeepsTarget (s : State) : Bool := s.sec2.state == .disabled && s.coil2.manualPending

/-- Section 2 enters JOINED (R145 step 2, R136); its coil's pending target is cleared but for one that R127 leaves pending. -/
def joinSection2 (s : State) : State :=
  let t := { s with ret2 := returnFor s.sec2.state }
  let t := setHoldOff .s2 none (setSectionState .s2 .joined (turnEngineOff .s2 .coupler t))
  let t := if s.joinKeepsTarget then t else clearTarget .c2 t
  resetEstimate .s2 (requestInjection .c2 .off t)

/-- The held position changes from OPEN to CLOSED (R145, R141). Section 1's entry into FAULT under R141 comes under the joined
relation and concerns both coils (notes/assumptions/41.md). -/
def couplerCloses (s : State) : State :=
  let s := setHeld .closed (raise .couplerChange (.busSection .s1) s)
  let s := couplerChangeSec1 [.c1] (joinSection2 s)
  let s :=
    if s.sec1.state = .disabled ∨ s.sec1.state = .halted then raise .joinUntuned (.busSection .s1) s
    else if s.sec2.faultStanding ∧ s.sec1.state ≠ .fault then enterFault .s1 s
    else s
  tellEngines s

/-- Section 2 leaves JOINED for its return state (R146 step 4, R141). -/
def leaveJoined (s : State) : State :=
  let s := match s.ret2 with
    | .starting => if s.sec2.faultStanding then setSectionState .s2 .fault s else enterStarting .s2 s
    | .disabled => setSectionState .s2 .disabled s
    | .halted => setSectionState .s2 .halted s
  { s with ret2 := .disabled }

/-- The held position changes from CLOSED to OPEN (R146, R141). -/
def couplerOpens (s : State) : State :=
  let s := couplerChangeSec1 [.c1, .c2] (raise .couplerChange (.busSection .s1) s)
  let s := if s.sec1.state = .fault ∧ !s.sec1.faultStanding then enterRecovery .s1 s else s
  tellEngines (leaveJoined (setHeld .open s))

/-- A distributed coupler value (R142): the change of held position comes first, then the unsure causes. -/
def couplerValue (v : CouplerValue) (s : State) : State :=
  let s := { s with coupler := { s.coupler with last := some (v, s.ms), staleTimer := some (s.ms + span s.couplerTimeout) } }
  let s := match v, s.coupler.held with
    | .closed, .open => couplerCloses s
    | .open, .closed => couplerOpens s
    | _, _ => s
  let bad := v == .intermediate || v == .bad
  setUnsure { s.coupler.unsure with noValue := false, stale := false, value := bad } s

end Sys2Proof.Machine
end

