-- ==== Sys2Proof/Machine/Status.lean ====
section
/-! DEFINITION. Machine/Status.lean: the treatment of a drive status record (R124), and the four drive expiries. -/

namespace Sys2Proof.Machine

/-- A status record distributed to the drive link (R31). Its arrival time is the present time. -/
structure StatusRecord where
  pos       : Nat
  motion    : Motion
  lower     : Bool
  upper     : Bool
  injection : Option Nat
  echo      : Bool
  port      : Port
deriving DecidableEq, Repr

/-- R124 step 1: reported state, arrival port, toggle adoption, and silence supervision, which starts afresh where it is
armed (R8, R110, R123). -/
def Coil.report (k : Coil) (r : StatusRecord) (now : Time) : Coil :=
  { k with
    reported := some { pos := r.pos, motion := r.motion, lower := r.lower, upper := r.upper, injection := r.injection,
                       echo := r.echo, time := now }
    arrival := some r.port
    toggle := match k.toggle with | none => some r.echo | some t => some t
    silenceTimer := none }

/-- The position a window recorded for a coil. -/
def Window.posOf (w : Window) : CoilId → Option Nat
  | .c1 => w.pos1
  | .c2 => w.pos2

/-- R124 step 2 for one section: MOTION for a counted coil, INJECTION for the injecting drive (R63, R64). A record that gives
grounds for both is recorded as MOTION (notes/assumptions/33.md). -/
def engineSeesStatus (n : SecId) (c : CoilId) (r : StatusRecord) (s : State) : State :=
  match (s.sec n).engine.window with
  | none => s
  | some w =>
    if (s.drives n).contains c && (r.motion != .still || w.posOf c != some r.pos) then discardWindow n .motion s
    else if s.injector n == some c && r.injection != some w.j then discardWindow n .injection s
    else s

/-- The ends of a move that count: the decision counter and the settle count of the section that drives the coil (R58, R97,
R117). -/
def moveEndCounts (c : CoilId) (s : State) : State :=
  s.modSec (s.driver c) fun x =>
    { x with counter := 0, engine := { x.engine with settle := x.settings.settleBoundaries } }

/-- A move ends: the move in flight, its time limit and a pending STOP are cleared (R112, R117). -/
def clearMove (c : CoilId) (s : State) : State :=
  s.modCoil c fun k => { k with move := none, moveTimer := none, pendStop := false }

/-- The move in flight ends as STOPPED (R117, R118, R63). -/
def moveStopped (c : CoilId) (s : State) : State :=
  let s := moveEndCounts c (clearMove c s)
  discardWindow (s.driver c) .motion s

/-- The move in flight ends with MOVE_DONE (R117). -/
def moveDone (c : CoilId) (s : State) : State := moveEndCounts c (raise .moveDone (.coil c) (clearMove c s))

/-- The time limit of a move (R119). -/
def moveLimit (x : CoilSettings) (m : Move) : Nat :=
  x.moveBase + (roundDiv ((posDiff m.target m.start * x.stepTime : Nat) : Int) 1000).toNat

/-- The effect of an acceptance by kind (R114). -/
def acceptKind (c : CoilId) (k : RecordKind) (s : State) : State :=
  match k with
  | .moveTo _ =>
    s.modCoil c fun k =>
      match k.move with
      | some m => { k with move := some { m with accepted := some s.ms },
                           moveTimer := some (s.ms + span (moveLimit k.settings m)) }
      | none => k
  | .stop => if (s.coil c).move.isSome then moveStopped c s else s
  | .injectOn j =>
    s.modCoil c fun k => { k with confirmTimer := some { code := j, due := s.ms + span k.settings.acceptTimeout } }
  | .injectOff => s.modCoil c fun k => { k with heldInj := .off }

/-- R124 step 3: the record in flight is tested for acceptance; an accepted record that still waits leaves without being
sent (R114). -/
def testAcceptance (c : CoilId) (echo : Bool) (s : State) : State :=
  match (s.coil c).inFlight with
  | none => s
  | some f =>
    if f.record.toggle = echo then
      acceptKind c f.record.kind (s.modCoil c fun k =>
        { k with inFlight := none, acceptTimer := none, waiting := k.waiting.filter fun w => !w.tracked })
    else s

/-- R124 step 4: DRIVE_FAULTED or END_STOP (R120). -/
def testFailure (c : CoilId) (r : StatusRecord) (s : State) : State :=
  if r.motion = .haltedFault then failCoil c .driveFaulted s
  else
    match (s.coil c).move with
    | some m =>
      if (r.lower || r.upper) && insideTableRange (s.coil c).table m.target then failCoil c .endStop s else s
    | none => s

/-- A move has arrived (R116). -/
def Move.arrived (m : Move) (tol : Nat) (r : StatusRecord) : Bool :=
  m.accepted.isSome && r.motion == .still && posDiff r.pos m.target ≤ tol
    && (posDiff m.target m.start ≤ tol || m.movingSeen)

/-- R124 step 5: the moving-seen mark, and arrival (R116). -/
def testArrival (c : CoilId) (r : StatusRecord) (s : State) : State :=
  match (s.coil c).move with
  | none => s
  | some m =>
    let m := { m with movingSeen := m.movingSeen || r.motion == .moving }
    let s := s.modCoil c fun k => { k with move := some m }
    if m.arrived (s.coil c).settings.arrivalTolerance r then moveDone c s else s

/-- R124 step 6, first part: while the confirmation timer runs, a record that reports ON with the code of the accepted
INJECT_ON confirms it, whatever was held (R121); once the timer is stopped no record does (notes/assumptions/34.md). -/
def testConfirmed (c : CoilId) (r : StatusRecord) (s : State) : State :=
  match (s.coil c).confirmTimer with
  | some f =>
    if r.injection = some f.code then
      injectionConfirmed c.sec (s.modCoil c fun k => { k with heldInj := .on f.code, confirmTimer := none })
    else s
  | none => s

/-- Injection is lost: MEASURING or TRACKING returns to STARTING with INJECTION_LOST, the pending targets of the coils it
drives being cleared (R122, R135, R136). -/
def injectionLost (n : SecId) (s : State) : State :=
  if (s.sec n).state.measures then
    let s := raise .injectionLost (.busSection n) s
    enterStarting n (clearTargets (s.drives n) s)
  else s

/-- R124 step 6, second part: a held injection ON that the record contradicts is lost (R122). -/
def testLost (c : CoilId) (r : StatusRecord) (s : State) : State :=
  match (s.coil c).heldInj with
  | .on j =>
    if r.injection = some j then s else injectionLost c.sec (s.modCoil c fun k => { k with heldInj := .off })
  | .off => s
  | .sent _ => s

/-- R124 steps 5 to 7, for a coil that step 4 has not failed. -/
def finishStatus (c : CoilId) (r : StatusRecord) (s : State) : State :=
  if (s.coil c).failed then s
  else takePending c (testLost c r (testConfirmed c r (testArrival c r s)))

/-- A status record is treated whole (R124). For a FAILED coil the treatment ends after step 1, so that a window that counts the
coil goes on (notes/assumptions/39.md). -/
def treatStatus (c : CoilId) (r : StatusRecord) (s : State) : State :=
  let s := s.modCoil c fun k => k.report r s.ms
  if (s.coil c).failed then s
  else
    let s := engineSeesStatus .s2 c r (engineSeesStatus .s1 c r s)
    finishStatus c r (testFailure c r (testAcceptance c r.echo s))

/-! ### Drive expiries -/

/-- The acceptance timer runs out (R115). -/
def acceptanceExpires (c : CoilId) (s : State) : State :=
  match (s.coil c).inFlight, (s.coil c).acceptTimer with
  | some f, some _ =>
    if 3 ≤ f.sends then failCoil c .driveLost s
    else if recordMaySend c f.record.kind s then
      offerRecord c true f.record (s.modCoil c fun k => { k with acceptTimer := none })
    else withdraw c s
  | _, _ => s

/-- The confirmation timer runs out unconfirmed (R121). -/
def confirmationExpires (c : CoilId) (s : State) : State :=
  if (s.coil c).confirmTimer.isSome then failCoil c .injectFailed s else s

/-- The time limit of an accepted move runs out (R119). -/
def moveLimitExpires (c : CoilId) (s : State) : State :=
  if (s.coil c).moveTimer.isSome then failCoil c .moveOvertime s else s

/-- Silence supervision runs out (R123). -/
def silenceExpires (c : CoilId) (s : State) : State :=
  if (s.coil c).silenceTimer.isSome then failCoil c .driveSilent s else s

/-- The coupler's stale timer runs out (R142). -/
def staleExpires (s : State) : State :=
  if s.coupler.staleTimer.isSome then
    let s := { s with coupler := { s.coupler with staleTimer := none } }
    setUnsure { s.coupler.unsure with stale := true } s
  else s

/-- The 1 ms deassertion of ALARM ends (R165). -/
def alarmReasserts (s : State) : State :=
  match s.events.alarm with
  | .reassertAt _ => { s with events := { s.events with alarm := .asserted } }
  | .asserted => s
  | .deasserted => s

end Sys2Proof.Machine
end

