-- ==== Sys2Proof/Machine/Targets.lean ====
section
/-! DEFINITION. Machine/Targets.lean: the target calculator: decision counter, decision and hand-off (chapter 6). -/

namespace Sys2Proof.Machine

/-- The reported position of a coil; 0 before any status record, which no decision meets (R57, R99). -/
def Coil.position (k : Coil) : Nat := match k.reported with | some r => r.pos | none => 0

/-- The susceptance of a coil at its reported position; 0 for an empty table, which no decision meets (R99, R101). -/
def Coil.susceptance (k : Coil) : Int := (forwardLookup k.table k.position).getD 0

/-- The susceptance of the coils a section drives, at their reported positions (R99). -/
def drivenSusceptance (n : SecId) (s : State) : Int := (s.drives n).foldl (fun b c => b + (s.coil c).susceptance) 0

/-- The coil's present aim (R103, R127). -/
def Coil.aim (k : Coil) : Nat :=
  match k.pendMove, k.move with
  | some t, _ => t.target
  | none, some m => m.target
  | none, none => k.position

/-- What a decision outside the deadband forms: split, positions per coil, and whether it is limited (R100 to R102). -/
structure Aims where
  split   : Option (Int × Int × Int)
  pos1    : Option Nat
  pos2    : Option Nat
  limited : Bool
deriving DecidableEq, Repr

/-- The position per coil for a target susceptance (R93, R101, R102). -/
def aims (n : SecId) (bT : Int) (s : State) : Aims :=
  if s.joined then
    let r := splitTarget s.coil1.table s.coil2.table s.share bT
    { split := some r
      pos1 := (inverseLookup s.coil1.table r.1).map Prod.fst
      pos2 := (inverseLookup s.coil2.table r.2.1).map Prod.fst
      limited := r.2.2 != 0 }
  else
    let r := inverseLookup (s.coil n.coil).table bT
    let lim := match r with | some x => x.2 | none => false
    match n with
    | .s1 => { split := none, pos1 := r.map Prod.fst, pos2 := none, limited := lim }
    | .s2 => { split := none, pos1 := none, pos2 := r.map Prod.fst, limited := lim }

/-- A formed position calls for a move request: it differs from the coil's present aim (R103). -/
def wantsMove (c : CoilId) (p : Option Nat) (s : State) : Bool :=
  match p with
  | some q => q != (s.coil c).aim
  | none => false

/-- A move request of a decision, where it has one. -/
def handOn (c : CoilId) (want : Bool) (p : Option Nat) (s : State) : State :=
  match want, p with
  | true, some q => requestMove c q .automatic s
  | _, _ => s

/-- A decision of a section at an accepted window with estimate `e` (R99 to R105). -/
def takeDecision (n : SecId) (t : Trigger) (e : Int) (s : State) : State :=
  let x := (s.sec n).settings
  let bL := drivenSusceptance n s
  let v := presentDetuning e bL
  let base : Decision :=
    { time := s.ms, trigger := t, joined := s.joined, e := e, bLnow := bL, vNow := v, outcome := .inBand, bT := none,
      split := none, pos1 := none, pos2 := none, req1 := false, req2 := false, limited := false }
  if (v - x.detuningSet).natAbs ≤ x.deadband then s.modSec n fun y => { y with decision := some base }
  else
    let bT := targetSusceptance e x.detuningSet
    let a := aims n bT s
    let free := (s.sec n).inhibit.isEmpty
    let req1 := free && wantsMove .c1 a.pos1 s
    let req2 := free && wantsMove .c2 a.pos2 s
    let outcome : DecisionOutcome := if !free then .inhibited else if req1 || req2 then .move else .noChange
    let s := s.modSec n fun y => { y with
      decision := some { base with outcome := outcome, bT := some bT, split := a.split, pos1 := a.pos1, pos2 := a.pos2,
                                   req1 := req1, req2 := req2, limited := a.limited } }
    let s := if a.limited then raise .targetLimited (.busSection n) s else s
    handOn .c2 req2 a.pos2 (handOn .c1 req1 a.pos1 s)

/-- The target calculator receives an accepted window (R95, R96). -/
def targetTakes (n : SecId) (k : UpdateKind) (e : Int) (s : State) : State :=
  let c := (s.sec n).counter + 1
  match k with
  | .first => takeDecision n .first e (s.modSec n fun y => { y with counter := 0 })
  | .step => takeDecision n .step e (s.modSec n fun y => { y with counter := 0 })
  | .filtered =>
    if (s.sec n).settings.decisionInterval ≤ c then takeDecision n .count e (s.modSec n fun y => { y with counter := 0 })
    else s.modSec n fun y => { y with counter := c }

end Sys2Proof.Machine
end

