-- ==== Sys2Proof/Machine/Estimation.lean ====
section
/-! DEFINITION. Machine/Estimation.lean: the network estimator: admittance, susceptance, filter, rejected runs (chapter 5). -/

namespace Sys2Proof.Machine

/-- Re Y in µS (R72). -/
def reY (f : Phasors) : Int := roundDiv (100000 * (f.iRe * f.uRe + f.iIm * f.uIm)) f.d

/-- Im Y in µS (R72). -/
def imY (f : Phasors) : Int := roundDiv (100000 * (f.iIm * f.uRe - f.iRe * f.uIm)) f.d

/-- Coil susceptance of one counted coil at the position the window recorded; a coil that is not counted adds nothing. -/
def recordedSusceptance (t : List TablePoint) (p : Option Nat) : Option Int :=
  match p with
  | none => some 0
  | some q => forwardLookup t q

/-- B_L of a window (R73); none when a counted coil's table is empty. -/
def windowSusceptance (w : Window) (s : State) : Option Int :=
  match recordedSusceptance s.coil1.table w.pos1, recordedSusceptance s.coil2.table w.pos2 with
  | some a, some b => some (a + b)
  | _, _ => none

/-- Raw capacitive susceptance (R74). -/
def rawSusceptance (j : Nat) (im bL : Int) : Int := roundDiv (8 * (j : Int) * im + 64 * bL) ((j : Int) * j)

/-- The range check of R75. -/
def xInRange (x : Int) : Bool := 100 ≤ x && x ≤ 1000000

/-- Update kind of an accepted window (R76 to R78). -/
def updateKind (y : SectionSettings) (e : Option Int) (x : Int) : UpdateKind :=
  match e with
  | none => .first
  | some e => if 0 < y.stepThreshold ∧ y.stepThreshold ≤ (x - e).natAbs then .step else .filtered

/-- The new E of an accepted window (R76 to R78). -/
def nextEstimate (y : SectionSettings) (e : Option Int) (x : Int) : Int :=
  match updateKind y e x with
  | .first => x
  | .step => x
  | .filtered => e.getD x + roundDiv (x - e.getD x) (2 ^ y.filterDepth : Nat)

/-- The estimate record after an accepted window (R81, R79, R80 steps 1 and 2). -/
def Estimate.accept (r : Estimate) (y : SectionSettings) (now : Time) (re x : Int) : Estimate :=
  let k := updateKind y r.e x
  let e := nextEstimate y r.e x
  { r with
    e := some e, g := some re, d := some (roundDiv (1000 * re) e), kind := some k, time := now
    accepted := min (r.accepted + 1) 65535
    steps := if k = .step then min (r.steps + 1) 65535 else r.steps
    run := 0 }

/-- The window engine is told of a rejected window (R62). -/
def Engine.reject (g : Engine) (o : OutcomeRec) : Engine := { g with outcome := some o, rejected := satInc g.rejected }

/-- The window engine is told of an accepted window: counts, and the quick count (R55, R62). -/
def Engine.accept (g : Engine) (y : SectionSettings) (k : UpdateKind) (o : OutcomeRec) : Engine :=
  { g with
    outcome := some o
    accepted := satInc g.accepted
    quick := if k = .step then y.quickWindows else g.quick - 1 }

/-- A rejected window: run and reason, WINDOW_REJECTED, the engine's record, and MEASURE_LOST when the run reaches
REJECT_LIMIT (R75, R82, R83). -/
def rejectWindow (n : SecId) (w : Window) (f : Phasors) (why : RejectReason) (s : State) : State :=
  let s := s.modSec n fun x => { x with
    estimate := { x.estimate with run := min (x.estimate.run + 1) 255, reason := some why } }
  let s := raise .windowRejected (.busSection n) s
  let s := s.modSec n fun x => { x with engine := x.engine.reject (w.completed f (.rejected why)) }
  if (s.sec n).estimate.run = (s.sec n).settings.rejectLimit then
    let cause : HaltCause := { kind := .measureLost, obj := .busSection n, time := s.ms }
    haltSection n cause (raise .measureLost (.busSection n) s)
  else s

/-- An accepted window with raw susceptance `x` completes its treatment (R80). -/
def acceptWindow (n : SecId) (w : Window) (f : Phasors) (x : Int) (s : State) : State :=
  let y := (s.sec n).settings
  let k := updateKind y (s.sec n).estimate.e x
  let e := nextEstimate y (s.sec n).estimate.e x
  let s := s.modSec n fun z => { z with estimate := z.estimate.accept y s.ms (reY f) x }
  let s := if k = .step then raise .stepDetected (.busSection n) s else s
  let s := s.modSec n fun z => { z with engine := z.engine.accept y k (w.completed f .accepted) }
  let s := if k = .first then firstEstimate n s else s
  targetTakes n k e s

/-- A window that passed R61 is taken through R72 to R75. -/
def estimateWindow (n : SecId) (w : Window) (f : Phasors) (s : State) : State :=
  let bL := windowSusceptance w s
  let s := s.modSec n fun z => { z with
    estimate := { z.estimate with lastReY := some (reY f), lastImY := some (imY f), lastBL := bL } }
  match bL with
  | none => rejectWindow n w f .estimateRange s
  | some b =>
    let x := rawSusceptance w.j (imY f) b
    let s := s.modSec n fun z => { z with estimate := { z.estimate with lastX := some x } }
    if xInRange x then acceptWindow n w f x s else rejectWindow n w f .estimateRange s

/-- A window takes its last pair: phasors, grade, the checks of R61, and the estimator (R60, R61, R67, R68, R71). -/
def completeWindow (n : SecId) (w : Window) (s : State) : State :=
  let x := s.sec n
  let f := w.phasors x.settings x.engine.grade
  let s := s.modSec n fun z => { z with
    engine := { z.engine with state := .wait, firstPair := true, grade := f.grade,
                              worst := min z.engine.worst f.grade } }
  match validity x.settings w f with
  | some why => rejectWindow n w f why s
  | none => estimateWindow n w f s

/-! ### The window engine takes what its ring delivers -/

/-- A counted coil is at rest: reported STILL, no move in flight and no pending target (R57 condition 1). -/
def Coil.atRest (k : Coil) : Bool := k.still && k.move.isNone && k.pendMove.isNone

/-- Conditions 1 and 2 of R57. -/
def mayStart (n : SecId) (s : State) : Bool :=
  (s.drives n).all (fun c => (s.coil c).atRest)
    && match s.injector n with
      | some c =>
        (match (s.coil c).reported with
          | some r => r.injection == some (s.sec n).settings.injectionCode
          | none => false)
      | none => false

/-- The position a starting window records for a coil, where the section counts it (R57). -/
def countedPosition (n : SecId) (c : CoilId) (s : State) : Option Nat :=
  if (s.drives n).contains c then (s.coil c).reported.map Reported.pos else none

/-- A window starts at a pair, which it takes as its first (R57, R59). -/
def startWindow (n : SecId) (len : Nat) (p : Pair) (s : State) : Window :=
  Window.take
    { start := p.index, w := len, j := (s.sec n).settings.injectionCode, taken := 0, auRe := 0, auIm := 0, aiRe := 0,
      aiIm := 0, subst := 0, pos1 := countedPosition n .c1 s, pos2 := countedPosition n .c2 s } p

/-- The window engine of a section takes a delivered pair (R51, R56 to R60). -/
def engineTakes (n : SecId) (p : Pair) (s : State) : State :=
  let g := (s.sec n).engine
  match g.state with
  | .off => s
  | .wait =>
    if !g.firstPair then s.setEngine n { g with firstPair := true }
    else
      let len := windowLength (s.sec n).settings g.quick
      if p.index % (80 * len) = 0 ∧ mayStart n s then
        if g.settle = 0 then s.setEngine n { g with state := .run (startWindow n len p s) }
        else s.setEngine n { g with settle := g.settle - 1 }
      else s
  | .run w =>
    let w' := w.take p
    if w'.complete then completeWindow n w' s else s.setEngine n { g with state := .run w' }

/-- The window engine of a section takes a gap notice (R65). -/
def engineTakesGap (n : SecId) (s : State) : State := discardWindow n .gap s

end Sys2Proof.Machine
end

