-- ==== Sys2Proof/Machine/Supervision.lean ====
section
/-! DEFINITION. Machine/Supervision.lean: the fault supervisors on the pairs and gap notices of their rings (chapter 9), and
the delivery of both to the two consumers of a section (R41). -/

namespace Sys2Proof.Machine

/-- The mean square of a closed cycle: floor(Q / 80) (R151). -/
def meanSquare (q : Int) : Int := q / 80

/-- An onset cycle: Q at least 80 T_FAULT² (R153). -/
def isOnset (y : SectionSettings) (q : Int) : Bool := ((80 * (y.tFault * y.tFault) : Nat) : Int) ≤ q

/-- A clear cycle: Q below 80 T_CLEAR² (R155). -/
def isClear (y : SectionSettings) (q : Int) : Bool := q < ((80 * (y.tClear * y.tClear) : Nat) : Int)

/-- One blind cycle closes (R152). -/
def Supervisor.closeBlind (v : Supervisor) (m : Nat) : Supervisor :=
  { v with blind := satInc v.blind, last := some (m, none) }

/-- The onset capture after an onset cycle (R153). -/
def nextCapture (c : Option Capture) (now : Time) (m : Nat) (q : Int) : Capture :=
  match c with
  | none => { time := now, index := 80 * m, peak := meanSquare q }
  | some c => { c with peak := max c.peak (meanSquare q) }

/-- The fault record of a confirmation (R154 step 1). -/
def FaultRec.confirmed (r : FaultRec) (c : Capture) (now : Time) : FaultRec :=
  { status := some .standing, onset := some c.time, index := some c.index, confirm := some now, peak := some c.peak,
    clear := none, count := min (r.count + 1) 65535 }

/-- A confirmation (R154). -/
def confirmFault (n : SecId) (c : Capture) (s : State) : State :=
  let s := s.modSec n fun x => { x with sup := { x.sup with
    record := x.sup.record.confirmed c s.ms, confirm := 0, capture := none, clear := 0, phase := .standing,
    holdOff := none } }
  faultConfirmed n (raise .faultOnset (.busSection n) s)

/-- One more cycle of the hold-off, up to RECOVERY_CYCLES, at which it waits for its run-out (R156;
notes/assumptions/8.md). -/
def Supervisor.countHoldOff (v : Supervisor) (y : SectionSettings) : Supervisor :=
  { v with holdOff := v.holdOff.map fun h => min (h + 1) y.recoveryCycles }

/-- A judged cycle in phase WATCH (R153, R156). -/
def judgeWatch (n : SecId) (m : Nat) (q : Int) (s : State) : State :=
  let y := (s.sec n).settings
  let v := (s.sec n).sup
  if isOnset y q then
    let c := nextCapture v.capture s.ms m q
    if y.confirmCycles ≤ v.confirm + 1 then confirmFault n c s
    else s.setSup n ({ v with confirm := v.confirm + 1, capture := some c }.countHoldOff y)
  else s.setSup n ({ v with confirm := 0, capture := none }.countHoldOff y)

/-- A clearing (R155). -/
def clearFault (n : SecId) (s : State) : State :=
  let s := s.modSec n fun x => { x with sup := { x.sup with
    record := { x.sup.record with status := some .cleared, clear := some s.ms }, clear := 0, phase := .watch } }
  faultCleared n (raise .faultCleared (.busSection n) s)

/-- A judged cycle in phase STANDING (R155). -/
def judgeStanding (n : SecId) (q : Int) (s : State) : State :=
  let y := (s.sec n).settings
  let v := (s.sec n).sup
  let peak := match v.record.peak with | some p => max p (meanSquare q) | none => meanSquare q
  let v := { v with record := { v.record with peak := some peak } }
  if isClear y q then
    let s := s.setSup n { v with clear := v.clear + 1 }
    if y.clearCycles ≤ v.clear + 1 then clearFault n s else s
  else s.setSup n { v with clear := 0 }

/-- A cycle closes at its last pair: blind, or judged by the phase (R151, R152). The last cycle result is set before the
judgement (notes/assumptions/36.md). -/
def closeCycle (n : SecId) (a : CycleAcc) (s : State) : State :=
  let v := { (s.sec n).sup with acc := none }
  if a.blind then s.setSup n (v.closeBlind a.cycle)
  else
    let s := s.setSup n { v with last := some (a.cycle, some (meanSquare a.q)) }
    match v.phase with
    | .watch => judgeWatch n a.cycle a.q s
    | .standing => judgeStanding n a.q s
    | .idle => s

/-- The cycle under way with one pair more: a pair at a multiple of 80 begins a full cycle, and a pair that finds no cycle
of its own under way begins a blind one (R151, R152, R157). -/
def nextCycle (acc : Option CycleAcc) (index : Nat) (u : Int) : CycleAcc :=
  if index % 80 = 0 then { cycle := index / 80, q := u * u, blind := false }
  else
    match acc with
    | some a => if a.cycle = index / 80 then { a with q := a.q + u * u }
                else { cycle := index / 80, q := u * u, blind := true }
    | none => { cycle := index / 80, q := u * u, blind := true }

/-- The supervisor of a section takes a delivered pair (R151). -/
def supervisorTakes (n : SecId) (p : Pair) (s : State) : State :=
  let v := (s.sec n).sup
  if v.phase = .idle then s
  else
    let a := nextCycle v.acc p.index p.u
    if p.index % 80 = 79 then closeCycle n a s else s.setSup n { v with acc := some a }

/-- The supervisor of a section takes a gap notice: the cycles that end among the skipped indices close blind, and the one
that goes on is blind (R152). -/
def Supervisor.takeGap (v : Supervisor) (first count : Nat) : Supervisor :=
  match v.phase with
  | .idle => v
  | .watch | .standing =>
    let m0 := first / 80
    let after := first + count
    let closed := after / 80 - m0
    let v := (List.range closed).foldl (fun v k => v.closeBlind (m0 + k)) v
    { v with acc := if after % 80 = 0 then none else some { cycle := after / 80, q := 0, blind := true } }

/-- A delivery reaches the window engine and then the supervisor of its section (R41; notes/assumptions/9.md). -/
def handOver (n : SecId) (d : Delivery) (s : State) : State :=
  match d with
  | .pair p => supervisorTakes n p (engineTakes n p s)
  | .gap first count => (engineTakesGap n s).modSec n fun x => { x with sup := x.sup.takeGap first count }

/-- The deliveries of one value record are handed over in order. A start of the section on the way clears the ring, and
what the ring had still to deliver goes with it (R46). -/
def deliver (n : SecId) : List Delivery → State → State
  | [], s => s
  | d :: ds, s =>
    let s' := handOver n d s
    if (s'.sec n).ring.last = none then s' else deliver n ds s'

end Sys2Proof.Machine
end

