-- ==== Sys2Proof/Machine/Matcher.lean ====
section
/-! DEFINITION. Machine/Matcher.lean: the stream matcher: matching, form, sequence, slot state, distribution (chapter 2). -/

namespace Sys2Proof.Machine

/-! ### Matching (R17, R19) -/

/-- The kinds of consumed frames, as the filter compares them with a slot's frame kind (R17). -/
def SlotBody.kind : SlotBody → FrameClass
  | .sample _ => .sample
  | .state _ => .state
  | .drive _ => .drive

/-- The tag satisfies the compare mode (R17). -/
def tagMatches (maskA maskB : Word32) (d : SlotDef) (tag : Word32) : Bool :=
  match d.mode with
  | .exact => tag == d.tag
  | .maskA => tag &&& maskA == d.tag &&& maskA
  | .maskB => tag &&& maskB == d.tag &&& maskB
  | .any => true

/-- A slot's filter passes a frame (R17). -/
def Slot.passes (x : Slot) (maskA maskB : Word32) (k : FrameClass) (tag : Word32) : Bool :=
  match x.defn with
  | some d => d.body.kind == k && tagMatches maskA maskB d tag
  | none => false

/-- The slot numbers, lowest first. -/
def slotNumbers : List (Fin 24) := List.finRange 24

/-- The slot that takes a frame: the lowest-numbered valid slot whose filter passes it (R19). -/
def State.taker (s : State) (k : FrameClass) (tag : Word32) : Option (Fin 24) :=
  slotNumbers.find? fun i => (s.slot i).passes s.maskA s.maskB k tag

/-- A valid slot is shadowed (R20). -/
def State.shadowed (s : State) (i : Fin 24) : Bool :=
  match (s.slot i).defn with
  | some d => slotNumbers.any fun j => j < i && (s.slot j).passes s.maskA s.maskB d.body.kind d.tag
  | none => false

/-! ### Form and sequence (R21 to R24) -/

/-- Slot state from the error count (R24). -/
def slotBand (n : Nat) : SlotState :=
  if n < 96 then .active else if n < 128 then .warning else if n < 256 then .passive else .off

/-- What a judged frame does to its slot. -/
inductive Judgement where
  | malformed | inSequence | again | gap | late
deriving DecidableEq, Repr

/-- Judgement of a well-formed sample frame (R22). -/
def judgeSample (modulus : Nat) (last : Option Nat) (c : Nat) : Judgement :=
  match last with
  | none => .inSequence
  | some l => if c = (l + 1) % modulus then .inSequence else if c = l then .again else .gap

/-- Judgement of a well-formed state or drive status frame (R23). -/
def judgeSequence (last : Option Nat) (n : Nat) : Judgement :=
  match last with
  | none => .inSequence
  | some l =>
    let d := (n + 65536 - l % 65536) % 65536
    if d = 0 then .again else if d = 1 then .inSequence else if d ≤ 32768 then .gap else .late

/-- Whether a slot of this kind is a SAMPLE slot. -/
def SlotBody.isSample : SlotBody → Bool
  | .sample _ => true
  | .state _ => false
  | .drive _ => false

/-- Error count and slot state after a change of the count; OFF stays OFF (R24). -/
def Slot.count (x : Slot) (f : Nat → Nat) : Slot :=
  if x.state = .off then x else { x with errors := f x.errors, state := slotBand (f x.errors) }

def moreErrors (n : Nat) : Nat := min (n + 8) 256
def fewerErrors (n : Nat) : Nat := n - 1

/-- The slot after a frame it took, judged so, with count or sequence number `c` (R21 to R24, R32). A repeat of a sample
count is not counted; a duplicate sequence number is (R22, R23). -/
def Slot.judged (x : Slot) (sample : Bool) (c : Nat) (j : Judgement) : Slot :=
  match j with
  | .malformed => { x.count moreErrors with malformed := satInc x.malformed }
  | .inSequence => { x.count fewerErrors with good := satInc x.good, last := some c }
  | .again => if sample then x else { x with duplicates := satInc x.duplicates }
  | .gap => { x.count moreErrors with gaps := satInc x.gaps, last := some c }
  | .late => { x.count moreErrors with late := satInc x.late, last := some c }

/-- Whether the judgement hands the contents on (R22, R23). -/
def Judgement.handsOn (j : Judgement) (sample : Bool) : Bool :=
  match j with
  | .malformed => false
  | .inSequence => true
  | .again => sample
  | .gap => true
  | .late => false

/-- The judgement of a frame against the slot that takes it (R21, R22, R23). -/
def judge (b : SlotBody) (modulus : Nat) (last : Option Nat) (m : List Byte) : Judgement :=
  if malformedFor b modulus m then .malformed
  else if b.isSample then judgeSample modulus last (sampleCount m)
  else judgeSequence last (sequenceNumber m)

/-- A slot distributes in ACTIVE or WARNING (R27). -/
def SlotState.distributes : SlotState → Bool
  | .active => true
  | .warning => true
  | .passive => false
  | .off => false

/-- The slot holds a VOLTAGE binding for the section. -/
def SlotBody.voltageFor (b : SlotBody) (n : SecId) : Bool :=
  match b with
  | .sample bs => bs.any fun x => x.role == .voltage && x.sec == n
  | .state _ => false
  | .drive _ => false

/-- VOLTAGE_LOST for a section other than DISABLED whose voltage slot enters PASSIVE from WARNING (R25). -/
def voltageLost (n : SecId) (s : State) : State :=
  if (s.sec n).state = .disabled then s
  else haltSection n { kind := .voltageLost, obj := .busSection n, time := s.ms } (raise .voltageLost (.busSection n) s)

/-- What a change of slot state brings about: STREAM_STATE, then VOLTAGE_LOST, or a report of coupler availability
(R24, R25, R30). The order of STREAM_STATE and COUPLER_UNSURE is notes/assumptions/25.md's, and that section 1's halt, with
its JOIN_UNTUNED, stands before section 2's VOLTAGE_LOST is notes/assumptions/32.md's. -/
def slotStateChanged (i : Fin 24) (b : SlotBody) (was now : SlotState) (s : State) : State :=
  if was = now then s
  else
    let s := raise .streamState (.slot i) s
    let lost := was == .warning && now == .passive
    let s := if lost && b.voltageFor .s1 then voltageLost .s1 s else s
    let s := if lost && b.voltageFor .s2 then voltageLost .s2 s else s
    match b with
    | .state _ => if now.distributes = was.distributes then s else reportAvailability now.distributes s
    | .sample _ => s
    | .drive _ => s

/-! ### Distribution (R28 to R31) -/

/-- A value clamped to what the part takes (R28). -/
def clampSample (v : Int) : Int := max (-8388607) (min v 8388607)

/-- The section's alignment ring takes a value record, and the slot counts a LATE or DUPLICATE value (R29, R37). The ring files
the record whole before its deliveries are handed over, so that a start which one of them causes clears it
(notes/assumptions/38.md). -/
def ringTakes (n : SecId) (x : ValueRecord) (s : State) : State :=
  let f := (s.sec n).ring.file s.nominal.modulus x
  let s := s.modSec n fun y => { y with ring := f.ring }
  let s := match f.report with
    | .none => s
    | .late => if (s.slot x.slot).defn.isSome then s.modSlot x.slot fun y => { y with late := satInc y.late } else s
    | .duplicate =>
      if (s.slot x.slot).defn.isSome then s.modSlot x.slot fun y => { y with duplicates := satInc y.duplicates } else s
  deliver n f.out s

/-- One binding of a SAMPLE slot distributes its value (R28). -/
def distributeBinding (i : Fin 24) (m : List Byte) (b : Binding) (s : State) : State :=
  let raw := channelValue m b.channel
  let rec0 : ValueRecord := { role := b.role, count := sampleCount m, slot := i, value := none }
  if channelValid m b.channel then
    let v := clampSample raw
    let s := if v = raw then s else s.modSlot i fun y => { y with saturated := satInc y.saturated }
    ringTakes b.sec { rec0 with value := some v } s
  else ringTakes b.sec rec0 s

/-- The status record of a drive status message (R31). -/
def statusOf (m : List Byte) (p : Port) : StatusRecord :=
  { pos := fieldNat m 10 2
    motion := (motionOf (fieldNat m 12 1)).getD .still
    lower := fieldNat m 13 1 % 2 == 1
    upper := fieldNat m 13 1 / 2 % 2 == 1
    injection := (injectionOf (fieldNat m 14 1)).getD none
    echo := fieldNat m 15 1 % 2 == 1
    port := p }

/-- A slot distributes the contents of a frame (R28, R30, R31). -/
def distribute (i : Fin 24) (b : SlotBody) (p : Port) (m : List Byte) (s : State) : State :=
  match b with
  | .sample bs => bs.foldl (fun s x => distributeBinding i m x s) s
  | .state k =>
    match couplerOf (pointValue m k) with
    | some v => couplerValue v s
    | none => s
  | .drive c => treatStatus c (statusOf m p) s

/-- A slot takes a frame: form, sequence, slot state, distribution (R21 to R31). -/
def slotTakes (i : Fin 24) (b : SlotBody) (p : Port) (m : List Byte) (s : State) : State :=
  let x := s.slot i
  let j := judge b s.nominal.modulus x.last m
  let x' := x.judged b.isSample (if b.isSample then sampleCount m else sequenceNumber m) j
  let s := slotStateChanged i b x.state x'.state (s.setSlot i x')
  if j.handsOn b.isSample && x'.state.distributes then distribute i b p m s else s

/-- One frame counts as unmatched at its arrival port (R2, R4). -/
def countUnmatched (p : Port) (s : State) : State :=
  s.modPort p fun x => { x with unmatched := satInc x.unmatched }

/-- A consumed frame is offered to the stream matcher; a message too short for its stream tag is taken by no slot (R4, R19,
R180). -/
def offerToMatcher (k : FrameClass) (p : Port) (m : List Byte) (s : State) : State :=
  if msgLength m < 8 then countUnmatched p s
  else
    match s.taker k (streamTag m) with
    | none => countUnmatched p s
    | some i =>
      match (s.slot i).defn with
      | some d => slotTakes i d.body p m s
      | none => s

end Sys2Proof.Machine
end

