-- ==== Sys2Proof/Machine/Requests.lean ====
section
/-! DEFINITION. Machine/Requests.lean: the management responder: taking the request at the head of the queue, the checks of
R172, the fields of R182, and the response. -/

namespace Sys2Proof.Machine

/-! ### The request at the head (R171, R172, 12.4) -/

/-- Request kind of a request message. -/
def Request.kind (r : Request) : Nat := fieldNat r.msg 7 1

/-- The message is long enough to hold the request header (R172 check 1). -/
def Request.holdsHeader (r : Request) : Bool := 8 ≤ msgLength r.msg

/-- The body of a request: none when the message length runs past the frame, so that the frame does not hold it. -/
def Request.body (r : Request) : Option (List Byte) :=
  if msgLength r.msg ≤ r.msg.length then some (field r.msg 8 (msgLength r.msg - 8)) else none

/-- What a request is answered. -/
inductive Reply where
  | ok (answer : List Byte)
  | length
  | kind
  | range (field : Nat) (point : Option Nat)
  | state
deriving DecidableEq, Repr

/-- The response to a request: tag and kind copied, status, field and point numbers, and the answer (12.4). -/
def Reply.response (x : Reply) (r : Request) : Response :=
  let base : Response :=
    { tag := field r.msg 4 2, kind := BitVec.ofNat 8 r.kind, status := .ok, field := 0, point := none, answer := [] }
  match x with
  | .ok a => { base with answer := a }
  | .length => { base with status := .refusedLength }
  | .kind => { base with status := .refusedKind }
  | .range f p => { base with status := .refusedRange, field := f, point := p }
  | .state => { base with status := .refusedState }

/-- What the execution of a request makes of the state, its reply, and a notice to offer after the response (R167). -/
structure Served where
  state : State
  reply : Reply
  after : Option Source

/-- A request that changes nothing but what its response does. -/
def unchanged (s : State) (x : Reply) : Served := { state := s, reply := x, after := none }

/-- A request that is accepted and answered OK with no fields. -/
def done (s : State) : Served := { state := s, reply := .ok [], after := none }

/-- The responder answers the request at the head: the response is offered, a notice of READ_EVENTS follows it, and the
request leaves the queue (R171, R172). -/
def answer (r : Request) (x : Served) : State :=
  let s := offerResponse (x.reply.response r) r.port x.state
  let s := match x.after with
    | some src => offerNotice src .b (offerNotice src .a s)
    | none => s
  { s with requests := s.requests.drop 1 }

/-- The responder executes the request at the head of the queue, if it is of kind `k`; otherwise this step does not take
place (notes/assumptions/3.md). -/
def serve (k : Nat) (f : List Byte → State → Served) (s : State) : State :=
  match s.requests with
  | [] => s
  | r :: _ =>
    if r.holdsHeader && r.kind == k then
      match r.body with
      | none => answer r (unchanged s .length)
      | some b => answer r (f b s)
    else s

/-- A request without fields (R172 check 3). -/
def noFields (f : State → Served) (b : List Byte) (s : State) : Served :=
  if b.length = 0 then f s else unchanged s .length

/-! ### Fields of a body (R182) -/

/-- The 4-byte field that begins at word `k` of a body. -/
def word (b : List Byte) (k : Nat) : Nat := fieldNat b (4 * k) 4

/-- A section number. -/
def secOf (n : Nat) : Option SecId :=
  match n with
  | 1 => some .s1
  | 2 => some .s2
  | _ => none

/-- A coil number. -/
def coilOf (n : Nat) : Option CoilId :=
  match n with
  | 1 => some .c1
  | 2 => some .c2
  | _ => none

/-- A slot number. -/
def slotOf (n : Nat) : Option (Fin 24) := if h : n < 24 then some ⟨n, h⟩ else none

/-- A port number (R177). -/
def portOf (n : Nat) : Option Port :=
  match n with
  | 0 => some .a
  | 1 => some .b
  | _ => none

/-- A request whose one field is a section. -/
def withSection (f : SecId → State → Served) (b : List Byte) (s : State) : Served :=
  if b.length = 4 then
    match secOf (word b 0) with
    | some n => f n s
    | none => unchanged s (.range 0 none)
  else unchanged s .length

/-- A request whose one field is a coil. -/
def withCoil (f : CoilId → State → Served) (b : List Byte) (s : State) : Served :=
  if b.length = 4 then
    match coilOf (word b 0) with
    | some c => f c s
    | none => unchanged s (.range 0 none)
  else unchanged s .length

/-- A request whose one field is a slot. -/
def withSlot (f : Fin 24 → State → Served) (b : List Byte) (s : State) : Served :=
  if b.length = 4 then
    match slotOf (word b 0) with
    | some i => f i s
    | none => unchanged s (.range 0 none)
  else unchanged s .length

/-- The first field of a list of checks that fails, if any (R172 check 4). -/
def firstFailing (checks : List (Nat × Bool)) : Option Nat := (checks.find? fun x => !x.2).map Prod.fst

/-- `lo ≤ n ≤ hi`. -/
def within (lo hi n : Nat) : Bool := lo ≤ n && n ≤ hi

/-! ### Fields of an answer (R182; notes/assumptions/13.md) -/

def num (n : Nat) : List Byte := word32 n

def yesNo (b : Bool) : List Byte := word32 (if b then 1 else 0)

def time (t : Time) : List Byte := beBytes 4 t.toNat

/-- A field or record that may be absent: a presence byte, then its bytes, or as many zeros; `zero` is any value, whose
size is the size of them all. -/
def optional {α : Type} (enc : α → List Byte) (zero : α) : Option α → List Byte
  | some x => 1 :: enc x
  | none => 0 :: List.replicate (enc zero).length 0

/-- A set as a 4-byte mask: bit n set when the nth element of its defining list is present. -/
def mask (bits : List Bool) : List Byte :=
  beBytes 4 (bits.foldr (fun b n => 2 * n + if b then 1 else 0) 0)

def kindMask (ks : List EventKind) : List Byte := mask (allKinds.map fun k => ks.contains k)

def source (e : Source) : List Byte :=
  num e.kind.code.val ++ num e.obj.typeNumber.1 ++ num e.obj.typeNumber.2 ++ time e.time

def zeroSource : Source := { kind := .driveLost, obj := .port .a, time := 0 }

/-! ### Requests too short or of an unknown kind (R172 checks 1 and 2) -/

/-- The request has no header, or a kind outside 1..24. -/
def Request.unknown (r : Request) : Bool := !r.holdsHeader || !within 1 24 r.kind

def serveUnknown (s : State) : State :=
  match s.requests with
  | [] => s
  | r :: _ =>
    if r.unknown then answer r (unchanged s (if r.holdsHeader then .kind else .length)) else s

end Sys2Proof.Machine
end

