-- ==== Sys2Proof/Machine/Resets.lean ====
section
/-! DEFINITION. Machine/Resets.lean: power-on, the RESET line and the supply (R14, R165, R183), and the reset part of
RESET_PART (R178). -/

namespace Sys2Proof.Machine

/-- POWER_ON (R183): every state takes its power-on value; the commands still waiting for the part are the outside's. -/
def execPowerOn (straps : BitVec 4) (linkA linkB : Link) (s : State) : Host.Outcome State Fault Refusal :=
  .next { State.initial straps linkA linkB with pending := s.pending }

/-- While RESET is held a transmitter is idle and the forward queues stay empty (R14). -/
def PortState.hold (x : PortState) : PortState := { x with tx := .idle, forward := [] }

/-- RESET_HELD (R14, R165): transmitters idle, forward queues empty, ALARM deasserted. -/
def execResetHeld (s : State) : Host.Outcome State Fault Refusal :=
  .next (if s.supplyOk then
      { s with held := true, portA := s.portA.hold, portB := s.portB.hold,
               events := { s.events with alarm := .deasserted } }
    else s)

/-- RESET_RELEASE (R183): at the release of a held RESET every state takes its power-on value. A release that ends a pulse
too short to be taken as held is ignored. -/
def execResetRelease (straps : BitVec 4) (linkA linkB : Link) (s : State) : Host.Outcome State Fault Refusal :=
  .next (if s.supplyOk && s.held then { State.initial straps linkA linkB with pending := s.pending } else s)

/-- SUPPLY_OUT_OF_RANGE (R183): the ALARM output is high-impedance while the supply is out of range. -/
def execSupplyOutOfRange (s : State) : Host.Outcome State Fault Refusal := .next { s with supplyOk := false }

/-! ### RESET_PART (R178) -/

/-- RESET_PART forms an INJECT_OFF for the coil: its held injection is SENT or ON (R130). -/
def Coil.resetSends (k : Coil) : Bool := k.heldInj != .off

/-- The record is the tracked record in flight of its coil: a copy of it that waits unsent is kept ahead of the INJECT_OFF
(R14, R130). -/
def Coil.isInFlight (k : Coil) (r : DriveRecord) : Bool :=
  match k.inFlight with
  | some f => f.record == r
  | none => false

/-- A waiting origin frame stays through RESET_PART: an unsent copy of the tracked record in flight of a coil for which an
INJECT_OFF is formed. It is no longer followed (R14, R130; notes/assumptions/7.md). -/
def keepOrigin (k1 k2 : Coil) (m : OriginMsg) : Option OriginMsg :=
  match m with
  | .record c true r =>
    let k := match c with | .c1 => k1 | .c2 => k2
    if k.resetSends && k.isInFlight r then some (.record c false r) else none
  | .record _ false _ => none
  | .response _ => none
  | .notice _ => none

/-- A kept record is routed as the arrival port stood before the reset (R14). Without an arrival port it keeps the ports it was
offered to, but for a copy that it has lost (R8, R11; notes/assumptions/37.md). -/
def Coil.keptRoute (k : Coil) (r : Route) : Route :=
  match k.arrival with
  | some p => .one p
  | none => r

/-- A record waiting for a place stays through RESET_PART under the same rule. -/
def Coil.keepWaiting (k : Coil) : List Waiting :=
  (k.waiting.filter fun w => w.tracked && k.resetSends && k.isInFlight w.record).map fun w =>
    { w with tracked := false, route := k.keptRoute w.route }

/-- A transmitter through RESET_PART: the frame being sent completes, and no longer occupies a place (R14). -/
def Tx.released : Tx → Tx
  | .idle => .idle
  | .forward f _ => .forward f false
  | .origin m _ => .origin m false

/-- A port through RESET_PART (R14). -/
def PortState.resetPart (k1 k2 : Coil) (x : PortState) : PortState :=
  { PortState.initial x.link with tx := x.tx.released, origin := x.origin.filterMap (keepOrigin k1 k2) }

/-- A slot through RESET_PART (R33). -/
def Slot.resetPart (x : Slot) : Slot := Slot.fresh x.defn

/-- A coil through RESET_PART, before its INJECT_OFF is formed: the toggle and the arrival port stay until then (R130). -/
def Coil.resetPart (k : Coil) : Coil :=
  { Coil.initial k.table k.settings k.binding (if k.resetSends then k.toggle else none) k.keepWaiting with
    arrival := k.arrival }

/-- The coupler record through RESET_PART (R149, R33). -/
def Coupler.resetPart (x : Coupler) : Coupler :=
  { Coupler.initial with
    configured := x.configured, available := x.configured
    unsure := { noValue := x.configured, unavailable := false, value := false, stale := false } }

/-- The INJECT_OFF of a coil (R130): formed with the next toggle and offered, behind the kept records. -/
def sendResetOff (c : CoilId) (sends : Bool) (s : State) : State := if sends then formUntracked c .injectOff s else s

/-- Every block takes its RESET_PART values, and the INJECT_OFF records are formed into the queues that this leaves (R14,
R130, R178 steps 1 to 3; notes/assumptions/12.md). The request at the head stays until its response is offered. -/
def resetPart (s : State) : State :=
  let s1 := s.coil1.resetSends
  let s2 := s.coil2.resetSends
  let h : Inhibit := { frozen := false, unsure := s.coupler.configured }
  let t : State :=
    { s with
      ms := 0
      portA := s.portA.resetPart s.coil1 s.coil2, portB := s.portB.resetPart s.coil1 s.coil2
      slots := s.slots.map Slot.resetPart
      sec1 := Section.initial s.sec1.settings h, sec2 := Section.initial s.sec2.settings h, ret2 := .disabled
      coil1 := s.coil1.resetPart, coil2 := s.coil2.resetPart
      coupler := s.coupler.resetPart
      events := EventUnit.initial s.events.enables
      requests := s.requests.take 1, requestDrops := 0 }
  let t := sendResetOff .c2 s2 (sendResetOff .c1 s1 t)
  let t := admitRecords t
  let t := t.modPort .a fun x => { x with originDrops := 0 }
  let t := t.modPort .b fun x => { x with originDrops := 0 }
  (t.modCoil .c1 fun k => { k with arrival := none }).modCoil .c2 fun k => { k with arrival := none }

end Sys2Proof.Machine
end

