-- ==== Sys2Proof/Machine/CommandRequests.lean ====
section
/-! DEFINITION. Machine/CommandRequests.lean: the commands on sections and coils, RESET_PART, and requests that are too
short or of an unknown kind (chapters 7, 8 and 11). -/

namespace Sys2Proof.Machine

/-! ### Sections (R134, R138, R139, R144) -/

/-- A slot distributes and holds the binding (R134 checks 4 and 6). -/
def Slot.binds (x : Slot) (r : Role) (n : SecId) : Bool :=
  x.state.distributes &&
  match x.defn with
  | some { tag := _, mode := _, body := .sample bs } => bs.any fun y => y.role == r && y.sec == n
  | _ => false

/-- A slot distributes and names the coil (R134 checks 5 and 6). -/
def Slot.drivesCoil (x : Slot) (c : CoilId) : Bool :=
  x.state.distributes &&
  match x.defn with
  | some { tag := _, mode := _, body := .drive c' } => c' == c
  | _ => false

/-- No coil the section drives is FAILED (R134 check 7, R138). -/
def State.coilsSound (s : State) (n : SecId) : Bool := (s.drives n).all fun c => !(s.coil c).failed

/-- Checks 2 to 7 of R134. A table holds no point or is valid (R89), and at most one slot holds each binding (R15). -/
def mayEnable (n : SecId) (s : State) : Bool :=
  (s.sec n).state == .disabled
    && !(s.coil n.coil).table.isEmpty
    && slotNumbers.any (fun i => (s.slot i).binds .voltage n)
    && slotNumbers.any (fun i => (s.slot i).binds .current n)
    && slotNumbers.any (fun i => (s.slot i).drivesCoil n.coil)
    && s.coilsSound n

def serveEnableSection (n : SecId) (s : State) : Served :=
  if mayEnable n s then done (enterStarting n s) else unchanged s .state

/-- ENABLE_SECTION (R133, R134). -/
def execEnableSection (s : State) : Host.Outcome State Fault Refusal :=
  .next (act (serve 17 (withSection serveEnableSection)) s)

def serveDisableSection (n : SecId) (s : State) : Served := done (disableSection n s)

/-- DISABLE_SECTION (R139). -/
def execDisableSection (s : State) : Host.Outcome State Fault Refusal :=
  .next (act (serve 18 (withSection serveDisableSection)) s)

def serveRestartSection (n : SecId) (s : State) : Served :=
  if (s.sec n).state = .halted ∧ s.coilsSound n then done (enterStarting n s) else unchanged s .state

/-- RESTART_SECTION (R138). -/
def execRestartSection (s : State) : Host.Outcome State Fault Refusal :=
  .next (act (serve 19 (withSection serveRestartSection)) s)

/-- FROZEN enters or leaves a section's inhibit set (R144). -/
def setFrozen (z : Bool) (n : SecId) (s : State) : State := setInhibit n { (s.sec n).inhibit with frozen := z } s

def serveFreeze (n : SecId) (s : State) : Served := done (setFrozen true n s)

/-- FREEZE (R144). -/
def execFreeze (s : State) : Host.Outcome State Fault Refusal := .next (act (serve 20 (withSection serveFreeze)) s)

def serveUnfreeze (n : SecId) (s : State) : Served := done (setFrozen false n s)

/-- UNFREEZE (R144). -/
def execUnfreeze (s : State) : Host.Outcome State Fault Refusal := .next (act (serve 21 (withSection serveUnfreeze)) s)

/-! ### Coils (R126, R127) -/

/-- A released coil (R126): its record, move, pending work and held injection were cleared when it failed. -/
def Coil.released (k : Coil) : Coil := { k with failed := false, toggle := none }

def serveReleaseCoil (c : CoilId) (s : State) : Served :=
  if (s.coil c).failed then done (s.modCoil c Coil.released) else unchanged s .state

/-- RELEASE_COIL (R126). -/
def execReleaseCoil (s : State) : Host.Outcome State Fault Refusal :=
  .next (act (serve 22 (withCoil serveReleaseCoil)) s)

/-- The present aim of a coil for a MANUAL_MOVE; a coil that has reported nothing has none (R127). -/
def Coil.presentAim (k : Coil) : Option Nat :=
  match k.pendMove, k.move with
  | some t, _ => some t.target
  | none, some m => some m.target
  | none, none => k.reported.map Reported.pos

def manualMove (c : CoilId) (p : Nat) (s : State) : State :=
  if (s.coil c).presentAim = some p then s else requestMove c p .manual s

def serveManualMove (b : List Byte) (s : State) : Served :=
  if b.length ≠ 8 then unchanged s .length
  else
    match coilOf (word b 0) with
    | none => unchanged s (.range 0 none)
    | some c =>
      if !inTableRange (s.coil c).table (word b 1) then unchanged s (.range 1 none)
      else if (s.sec (s.driver c)).state = .disabled ∧ (s.coil c).takesRequests then
        done (manualMove c (word b 1) s)
      else unchanged s .state

/-- MANUAL_MOVE (R127). -/
def execManualMove (s : State) : Host.Outcome State Fault Refusal := .next (act (serve 23 serveManualMove) s)

/-! ### The part (R178) and unknown requests (R172) -/

def serveResetPart (s : State) : Served := done (resetPart s)

/-- RESET_PART (R178). -/
def execResetPart (s : State) : Host.Outcome State Fault Refusal := .next (act (serve 24 (noFields serveResetPart)) s)

/-- UNKNOWN_REQUEST (R172 checks 1 and 2). -/
def execUnknownRequest (s : State) : Host.Outcome State Fault Refusal := .next (act serveUnknown s)

end Sys2Proof.Machine
end

