-- ==== Sys2Proof/Machine/Relay.lean ====
section
/-! DEFINITION. Machine/Relay.lean: the port pair's steps: a reception, the end of a transmission, link loss and link
restoration (chapter 1). -/

namespace Sys2Proof.Machine

/-- A relayed frame is placed in the forward queue toward the other port, or dropped (R5, R11). -/
def relay (p : Port) (f : Frame) (s : State) : State :=
  let out := p.other
  if (s.port out).link = .down then s.modPort out PortState.dropForward
  else if (s.port out).forwardOccupancy < Config.forwardPlaces then
    s.modPort out fun x => { x with forward := x.forward ++ [f] }
  else raise .forwardDrop (.port out) (s.modPort out PortState.dropForward)

/-- The target station of a request equals the station number (R3); a value above 15 never matches (12.4). -/
def State.addressed (s : State) (m : List Byte) : Bool := fieldNat m 6 1 == s.station.toNat

/-- A request addressed to this unit enters the request queue, or is dropped and counted (R171). -/
def enqueueRequest (p : Port) (m : List Byte) (s : State) : State :=
  if s.requests.length < Config.requestPlaces then { s with requests := s.requests ++ [{ port := p, msg := m }] }
  else { s with requestDrops := satInc s.requestDrops }

/-- A good frame is classified, queued and consumed (R2 to R4). -/
def handleGood (p : Port) (f : Frame) (s : State) : State :=
  let m := messageOf f
  match classify f with
  | .unrecognised => relay p f s
  | .own => relay p f s
  | .unknown => countUnmatched p (relay p f s)
  | .sample => offerToMatcher .sample p m (relay p f s)
  | .state => offerToMatcher .state p m (relay p f s)
  | .drive => offerToMatcher .drive p m (relay p f s)
  | .request => if s.addressed m then enqueueRequest p m s else relay p f s

/-- A port's receiver has completed a frame (R1). -/
def receive (p : Port) (f : Frame) (linkLost : Bool) (s : State) : State :=
  let s := s.modPort p fun x => { x with framesIn := satInc x.framesIn }
  if linkLost || (s.port p).link == .down || frameBad f then
    s.modPort p fun x => { x with framesInError := satInc x.framesInError }
  else handleGood p f s

/-- A transmitter completes its frame, which leaves its queue and counts in frames out (R9); nothing completes while the
transmitter is idle. -/
def PortState.complete (x : PortState) : PortState :=
  match x.tx with
  | .idle => x
  | .forward _ _ => { x with tx := .idle, framesOut := satInc x.framesOut }
  | .origin _ _ => { x with tx := .idle, framesOut := satInc x.framesOut }

/-- Forwarded frames lost with the link: the one being sent and those waiting (R10 steps 1 and 2). -/
def PortState.forwardLost (x : PortState) : Nat :=
  x.forward.length + match x.tx with | .forward _ _ => 1 | .origin _ _ => 0 | .idle => 0

/-- Originated frames lost with the link (R10 steps 1 and 3). -/
def PortState.originLost (x : PortState) : Nat :=
  x.origin.length + match x.tx with | .origin _ _ => 1 | .forward _ _ => 0 | .idle => 0

/-- A port after the loss of its link (R10 steps 1 to 3 and 5). -/
def PortState.lose (x : PortState) : PortState :=
  { x with link := .down, tx := .idle, forward := [], origin := [], latch := true,
           forwardDrops := satAdd x.forwardDrops x.forwardLost, originDrops := satAdd x.originDrops x.originLost }

/-- A port's link goes from UP to DOWN (R10). -/
def loseLink (p : Port) (s : State) : State :=
  if (s.port p).link = .up then raise .linkDown (.port p) (s.modPort p PortState.lose) else s

/-- FRAME_RECEPTION_COMPLETE. -/
def execFrameReceptionComplete (p : Port) (f : Frame) (linkLost : Bool) (s : State) :
    Host.Outcome State Fault Refusal :=
  .next (act (receive p f linkLost) s)

/-- TRANSMIT_COMPLETE (R9). -/
def execTransmitComplete (p : Port) (s : State) : Host.Outcome State Fault Refusal :=
  .next (act (fun s => s.modPort p PortState.complete) s)

/-- LINK_LOSS (R10). While RESET is held the link state alone follows the physical layer (R14). -/
def execLinkLoss (p : Port) (s : State) : Host.Outcome State Fault Refusal :=
  .next (if s.live then act (loseLink p) s else s.modPort p fun x => { x with link := .down })

/-- LINK_RESTORATION (R11): the link is UP and its transmitter stands before empty queues; the latch is not changed. -/
def execLinkRestoration (p : Port) (s : State) : Host.Outcome State Fault Refusal :=
  .next (if s.live then act (fun s => s.modPort p fun x => { x with link := .up }) s
         else s.modPort p fun x => { x with link := .up })

end Sys2Proof.Machine
end

