-- ==== Sys2Proof/Machine/Expiries.lean ====
section
/-! DEFINITION. Machine/Expiries.lean: the timer expiries and the end of the recovery hold-off. An expiry that finds its
timer stopped, and a run-out that finds no hold-off run out, change nothing (notes/assumptions/11.md). -/

namespace Sys2Proof.Machine

/-- The hold-off of a section has run out: it counts, it stands at RECOVERY_CYCLES, and the section is in RECOVERY (R156). -/
def holdOffDue (n : SecId) (s : State) : Bool :=
  (s.sec n).state == .recovery
    && match (s.sec n).sup.holdOff with
      | some h => (s.sec n).settings.recoveryCycles ≤ h
      | none => false

/-- The hold-off has run out: the counter stops and the section enters STARTING (R140, R141, R156). -/
def holdOffRunsOut (n : SecId) (s : State) : State :=
  if holdOffDue n s then enterStarting n (setHoldOff n none s) else s

/-- HOLD_OFF_RUN_OUT (R156). -/
def execHoldOffRunOut (n : SecId) (s : State) : Host.Outcome State Fault Refusal := .next (act (holdOffRunsOut n) s)

/-- ACCEPT_TIMEOUT_EXPIRY (R115). -/
def execAcceptTimeoutExpiry (c : CoilId) (s : State) : Host.Outcome State Fault Refusal :=
  .next (act (acceptanceExpires c) s)

/-- CONFIRMATION_TIMER_EXPIRY (R121). -/
def execConfirmationTimerExpiry (c : CoilId) (s : State) : Host.Outcome State Fault Refusal :=
  .next (act (confirmationExpires c) s)

/-- MOVE_TIME_LIMIT_EXPIRY (R119). -/
def execMoveTimeLimitExpiry (c : CoilId) (s : State) : Host.Outcome State Fault Refusal :=
  .next (act (moveLimitExpires c) s)

/-- SILENCE_EXPIRY (R123). -/
def execSilenceExpiry (c : CoilId) (s : State) : Host.Outcome State Fault Refusal := .next (act (silenceExpires c) s)

/-- STALE_TIMER_EXPIRY (R142). -/
def execStaleTimerExpiry (s : State) : Host.Outcome State Fault Refusal := .next (act staleExpires s)

/-- ALARM_REASSERTION (R165). -/
def execAlarmReassertion (s : State) : Host.Outcome State Fault Refusal := .next (act alarmReasserts s)

end Sys2Proof.Machine
end

