-- ==== Sys2Proof/Machine/Readout.lean ====
section
/-! DEFINITION. Machine/Readout.lean: the answer of READ_STATE, part by part, in the order of R174. The form of every field is
that of R182 (notes/assumptions/13.md, notes/assumptions/24.md). -/

namespace Sys2Proof.Machine

/-! ### Positions of list values (R182) -/

/-- Position of a section state in the table of R131. -/
def SecState.code : SecState → Nat
  | .disabled => 0 | .starting => 1 | .measuring => 2 | .tracking => 3 | .fault => 4 | .recovery => 5 | .halted => 6
  | .joined => 7

/-- A return state, as the section state it stands for. -/
def ReturnState.code : ReturnState → Nat
  | .disabled => 0 | .starting => 1 | .halted => 6

def CouplerValue.code : CouplerValue → Nat
  | .open => 0 | .closed => 1 | .intermediate => 2 | .bad => 3

def Held.code : Held → Nat
  | .open => 0 | .closed => 1

def EngineState.code : EngineState → Nat
  | .off => 0 | .wait => 1 | .run _ => 2

def RejectReason.code : RejectReason → Nat
  | .noResponse => 0 | .noInjection => 1 | .lowGrade => 2 | .substituted => 3 | .estimateRange => 4

def DiscardCause.code : DiscardCause → Nat
  | .motion => 0 | .coupler => 1 | .injection => 2 | .state => 3 | .gap => 4

/-- Position of an outcome, and of its reason or cause where it has one (R62). -/
def WindowResult.code : WindowResult → Nat × Option Nat
  | .accepted => (0, none)
  | .rejected r => (1, some r.code)
  | .discarded c => (2, some c.code)

def UpdateKind.code : UpdateKind → Nat
  | .first => 0 | .step => 1 | .filtered => 2

def Trigger.code : Trigger → Nat
  | .count => 0 | .first => 1 | .step => 2

def DecisionOutcome.code : DecisionOutcome → Nat
  | .inBand => 0 | .move => 1 | .noChange => 2 | .inhibited => 3

def SupPhase.code : SupPhase → Nat
  | .idle => 0 | .watch => 1 | .standing => 2

def FaultStatus.code : FaultStatus → Nat
  | .standing => 0 | .cleared => 1 | .abandoned => 2

/-- Coil states take the order of the list of R129, not that of R108 (R174, R182; notes/assumptions/13.md). -/
def CoilState.code : CoilState → Nat
  | .unbound => 0 | .idle => 1 | .awaitEcho => 2 | .moving => 3 | .failed => 4

def Motion.code : Motion → Nat
  | .still => 0 | .moving => 1 | .haltedFault => 2

def MoveOrigin.code : MoveOrigin → Nat
  | .automatic => 0 | .manual => 1

/-- A field that may be absent, of 4 bytes. -/
def optNum (x : Option Nat) : List Byte := optional num 0 x

def optInt (x : Option Int) : List Byte := optional word32 0 x

def optWide (x : Option Int) : List Byte := optional word64 0 x

def optTime (x : Option Time) : List Byte := optional time 0 x

def wide (n : Nat) : List Byte := word64 n

/-! ### Section context and coupler record (R148) -/

def contextAnswer (n : SecId) (s : State) : List Byte :=
  let x := s.sec n
  num x.state.code ++ time x.entryTime ++ mask [x.inhibit.frozen, x.inhibit.unsure]
    ++ (match n with | .s1 => [] | .s2 => num s.ret2.code)
    ++ optional source zeroSource x.lastHalt ++ yesNo (s.supervised n)

def valueTime (x : CouplerValue × Time) : List Byte := num x.1.code ++ time x.2

def couplerAnswer (x : Coupler) : List Byte :=
  yesNo x.configured ++ yesNo x.available ++ optional valueTime (.open, 0) x.last ++ num x.held.code
    ++ mask [x.unsure.noValue, x.unsure.unavailable, x.unsure.value, x.unsure.stale]

/-! ### Ring, window engine, estimate (R49, R69, R87) -/

def ringAnswer (r : Ring) : List Byte :=
  wide r.index ++ optNum r.last ++ num r.entries.length ++ word32 r.heldU ++ word32 r.heldI

def outcomeAnswer (o : OutcomeRec) : List Byte :=
  num o.result.code.1 ++ optNum o.result.code.2 ++ wide o.start ++ num o.w ++ num o.taken ++ num o.subst
    ++ optInt (o.phasors.map Phasors.uRe) ++ optInt (o.phasors.map Phasors.uIm)
    ++ optInt (o.phasors.map Phasors.iRe) ++ optInt (o.phasors.map Phasors.iIm)
    ++ optWide (o.phasors.map Phasors.d) ++ optNum (o.phasors.map Phasors.grade)

def zeroOutcome : OutcomeRec := { result := .accepted, start := 0, w := 0, taken := 0, subst := 0, phasors := none }

/-- Start index, W and pairs taken of a window in flight. -/
def windowAnswer (w : Window) : List Byte := wide w.start ++ num w.w ++ num w.taken

def zeroWindow : Window :=
  { start := 0, w := 0, j := 0, taken := 0, auRe := 0, auIm := 0, aiRe := 0, aiIm := 0, subst := 0, pos1 := none,
    pos2 := none }

def engineAnswer (g : Engine) : List Byte :=
  num g.state.code ++ num g.quick ++ num g.settle ++ num g.grade ++ num g.worst
    ++ optional outcomeAnswer zeroOutcome g.outcome ++ num g.accepted ++ num g.rejected ++ num g.discarded
    ++ optional windowAnswer zeroWindow g.window

/-- The estimate record. Its time and its counts are always held and are sent without a presence byte
(notes/assumptions/24.md). -/
def estimateAnswer (x : Estimate) : List Byte :=
  yesNo x.e.isSome ++ optInt x.e ++ optInt x.lastX ++ optInt x.lastReY ++ optInt x.lastImY ++ optInt x.lastBL
    ++ optInt x.g ++ optInt x.d ++ optNum (x.kind.map UpdateKind.code) ++ time x.time ++ num x.accepted ++ num x.steps
    ++ num x.run ++ optNum (x.reason.map RejectReason.code)

/-! ### Decision counter and record (R105) -/

def decisionAnswer (x : Decision) : List Byte :=
  time x.time ++ num x.trigger.code ++ num (if x.joined then 1 else 0) ++ word32 x.e ++ word32 x.bLnow ++ word32 x.vNow
    ++ num x.outcome.code ++ optInt x.bT ++ optInt (x.split.map fun y => y.1) ++ optInt (x.split.map fun y => y.2.1)
    ++ optInt (x.split.map fun y => y.2.2) ++ optNum x.pos1 ++ optNum x.pos2 ++ yesNo x.req1 ++ yesNo x.req2
    ++ yesNo x.limited

def zeroDecision : Decision :=
  { time := 0, trigger := .count, joined := false, e := 0, bLnow := 0, vNow := 0, outcome := .inBand, bT := none,
    split := none, pos1 := none, pos2 := none, req1 := false, req2 := false, limited := false }

def decisionPart (x : Section) : List Byte := num x.counter ++ optional decisionAnswer zeroDecision x.decision

/-! ### Fault supervisor and fault record (R159) -/

def captureAnswer (c : Capture) : List Byte := time c.time ++ wide c.index ++ word64 c.peak

def zeroCapture : Capture := { time := 0, index := 0, peak := 0 }

/-- The last cycle result: its number, and its mean square as a field that is absent for BLIND (notes/assumptions/24.md). -/
def cycleAnswer (x : Nat × Option Int) : List Byte := wide x.1 ++ optWide x.2

/-- The fault record. The fault count is always held and is sent without a presence byte (notes/assumptions/24.md). -/
def faultAnswer (r : FaultRec) : List Byte :=
  optNum (r.status.map FaultStatus.code) ++ optTime r.onset ++ optional wide 0 r.index ++ optTime r.confirm
    ++ optWide r.peak ++ optTime r.clear ++ num r.count

/-- A section's supervisor and its fault record. A stopped hold-off counter, and a cycle under way that is none, are sent as
absent fields (notes/assumptions/24.md). -/
def supervisorAnswer (v : Supervisor) : List Byte :=
  num v.phase.code ++ optional wide 0 (v.acc.map CycleAcc.cycle) ++ num v.confirm ++ num v.clear
    ++ optional captureAnswer zeroCapture v.capture ++ optNum v.holdOff ++ optional cycleAnswer (0, none) v.last
    ++ num v.blind ++ faultAnswer v.record

/-! ### Coil command context (R129) -/

/-- The record in flight: kind, toggle, target or code, and send count. The target or code of a STOP or INJECT_OFF is sent as 0,
without a presence byte (notes/assumptions/24.md). -/
def inFlightAnswer (f : InFlight) : List Byte :=
  num f.record.kind.code ++ num (if f.record.toggle then 1 else 0) ++ num f.record.kind.parameter ++ num f.sends

def zeroInFlight : InFlight := { record := { kind := .stop, toggle := false }, sends := 0, lastSend := none }

def pendMoveAnswer (t : PendMove) : List Byte := num t.target ++ num t.origin.code

/-- A pending injection change: 0 for OFF, or the code (notes/assumptions/24.md). -/
def InjReq.code : InjReq → Nat
  | .off => 0
  | .on j => j

def moveAnswer (m : Move) : List Byte :=
  num m.target ++ num m.origin.code ++ num (if m.accepted.isSome then 1 else 0) ++ num m.start ++ yesNo m.movingSeen

def zeroMove : Move := { target := 0, origin := .automatic, accepted := none, start := 0, movingSeen := false }

/-- A held injection: 0 OFF, 1 SENT, 2 ON, then the code, 0 for OFF (notes/assumptions/24.md). -/
def heldAnswer : HeldInj → List Byte
  | .off => num 0 ++ num 0
  | .sent j => num 1 ++ num j
  | .on j => num 2 ++ num j

/-- The reported state; its injection is 0 for OFF, or the code (notes/assumptions/24.md). -/
def reportedAnswer (r : Reported) : List Byte :=
  num r.pos ++ num r.motion.code ++ yesNo r.lower ++ yesNo r.upper ++ num (r.injection.getD 0)
    ++ num (if r.echo then 1 else 0) ++ time r.time

def zeroReported : Reported :=
  { pos := 0, motion := .still, lower := false, upper := false, injection := none, echo := false, time := 0 }

def coilAnswer (k : Coil) : List Byte :=
  num k.state.code ++ optNum (k.toggle.map fun t => if t then 1 else 0)
    ++ optional inFlightAnswer zeroInFlight k.inFlight
    ++ optional pendMoveAnswer { target := 0, origin := .automatic } k.pendMove
    ++ optNum (k.pendInj.map InjReq.code) ++ yesNo k.pendStop
    ++ optional moveAnswer zeroMove k.move ++ heldAnswer k.heldInj
    ++ optional reportedAnswer zeroReported k.reported ++ optNum (k.arrival.map Port.number)

/-! ### The whole response (R174) -/

def readStateAnswer (s : State) : List Byte :=
  time s.ms ++ contextAnswer .s1 s ++ contextAnswer .s2 s ++ couplerAnswer s.coupler
    ++ ringAnswer s.sec1.ring ++ ringAnswer s.sec2.ring ++ engineAnswer s.sec1.engine ++ engineAnswer s.sec2.engine
    ++ estimateAnswer s.sec1.estimate ++ estimateAnswer s.sec2.estimate ++ decisionPart s.sec1 ++ decisionPart s.sec2
    ++ supervisorAnswer s.sec1.sup ++ supervisorAnswer s.sec2.sup ++ coilAnswer s.coil1 ++ coilAnswer s.coil2

/-- READ_STATE sets the worst grade since read to the current grade (R68). -/
def Section.worstRead (x : Section) : Section := { x with engine := { x.engine with worst := x.engine.grade } }

end Sys2Proof.Machine
end

