-- ==== Sys2Proof/Machine/ReadRequests.lean ====
section
/-! DEFINITION. Machine/ReadRequests.lean: READ_STATE and the reads that clear: READ_EVENTS, READ_SUMMARY, READ_COUNTERS
(10.6, 11.3, 11.5). -/

namespace Sys2Proof.Machine

/-! ### READ_STATE (R68, R174) -/

def serveReadState (s : State) : Served :=
  { state := { s with sec1 := s.sec1.worstRead, sec2 := s.sec2.worstRead }, reply := .ok (readStateAnswer s),
    after := none }

/-- READ_STATE (R174). -/
def execReadState (s : State) : Host.Outcome State Fault Refusal := .next (act (serve 13 (noFields serveReadState)) s)

/-! ### READ_EVENTS (R167) -/

/-- R167 step 1: level 1 as it stands. -/
def eventsAnswer (u : EventUnit) : List Byte :=
  let kinds := match u.level1 with | some (r, _) => r.kinds | none => []
  let mark := match u.level1 with | some (_, m) => m | none => false
  kindMask kinds ++ optional source zeroSource (u.level1.map fun x => x.1.first)
    ++ optional source zeroSource (u.level1.map fun x => x.1.latest) ++ yesNo mark ++ yesNo u.level2.isSome

def serveReadEvents (s : State) : Served :=
  { state := { s with events := s.events.moveUp s.ms }, reply := .ok (eventsAnswer s.events),
    after := if s.events.level1.isSome then s.events.level2.map Report.first else none }

/-- READ_EVENTS (R167). -/
def execReadEvents (s : State) : Host.Outcome State Fault Refusal :=
  .next (act (serve 14 (noFields serveReadEvents)) s)

/-! ### READ_SUMMARY (R168) -/

def serveReadSummary (s : State) : Served :=
  { state := { s with events := { s.events with summary := [] } }, reply := .ok (kindMask s.events.summary),
    after := none }

/-- READ_SUMMARY (R168). -/
def execReadSummary (s : State) : Host.Outcome State Fault Refusal :=
  .next (act (serve 15 (noFields serveReadSummary)) s)

/-! ### READ_COUNTERS (R13, R32, R177) -/

/-- The snapshot of a port (R13); that a set latch is sent as 1 and a clear one as 0 is notes/assumptions/13.md's. -/
def portAnswer (x : PortState) : List Byte :=
  num x.framesIn ++ num x.framesInError ++ num x.framesOut ++ num x.forwardDrops ++ num x.originDrops ++ num x.unmatched
    ++ yesNo x.latch ++ num (if x.link = .down then 1 else 0)

/-- A port after its snapshot: the counters clear and the latch takes the link state (R13). -/
def PortState.cleared (x : PortState) : PortState :=
  { x with framesIn := 0, framesInError := 0, framesOut := 0, forwardDrops := 0, originDrops := 0, unmatched := 0,
           latch := x.link == .down }

/-- The snapshot of a slot (R32). -/
def slotAnswer (x : Slot) : List Byte :=
  num x.good ++ num x.gaps ++ num x.malformed ++ num x.late ++ num x.duplicates ++ num x.saturated

/-- A slot after its snapshot (R32). -/
def Slot.cleared (x : Slot) : Slot :=
  { x with good := 0, gaps := 0, malformed := 0, late := 0, duplicates := 0, saturated := 0 }

def readPortCounters (p : Port) (s : State) : Served :=
  { state := s.modPort p PortState.cleared, reply := .ok (portAnswer (s.port p)), after := none }

def readSlotCounters (i : Fin 24) (s : State) : Served :=
  { state := s.modSlot i Slot.cleared, reply := .ok (slotAnswer (s.slot i)), after := none }

def serveReadCounters (b : List Byte) (s : State) : Served :=
  if b.length ≠ 8 then unchanged s .length
  else
    match word b 0 with
    | 2 =>
      match slotOf (word b 1) with
      | some i => readSlotCounters i s
      | none => unchanged s (.range 1 none)
    | 3 =>
      match portOf (word b 1) with
      | some p => readPortCounters p s
      | none => unchanged s (.range 1 none)
    | _ => unchanged s (.range 0 none)

/-- READ_COUNTERS (R13, R32, R177). -/
def execReadCounters (s : State) : Host.Outcome State Fault Refusal := .next (act (serve 16 serveReadCounters) s)

end Sys2Proof.Machine
end

