-- ==== Sys2Proof/Machine/SettingsRequests.lean ====
section
/-! DEFINITION. Machine/SettingsRequests.lean: the requests on settings: READ_INFO, READ_ and WRITE_SECTION_SETTINGS, READ_
and WRITE_COIL_SETTINGS, WRITE_GLOBAL (11.3, 11.4). -/

namespace Sys2Proof.Machine

/-! ### READ_INFO (R173) -/

/-- NOMINAL_FREQUENCY as a request carries it. -/
def Nominal.hertz : Nominal → Nat
  | .hz50 => 50
  | .hz60 => 60

def nominalOf (n : Nat) : Option Nominal :=
  match n with
  | 50 => some .hz50
  | 60 => some .hz60
  | _ => none

def readInfoAnswer (s : State) : List Byte :=
  num Config.productCode.toNat ++ num Config.revision.toNat ++ num s.station.toNat ++ time s.ms ++ num s.requestDrops
    ++ num s.nominal.hertz ++ num s.share ++ num s.couplerTimeout ++ num s.maskA.toNat ++ num s.maskB.toNat
    ++ s.events.enables.toList.flatMap yesNo

def serveReadInfo (s : State) : Served := unchanged s (.ok (readInfoAnswer s))

/-- READ_INFO (R173). -/
def execReadInfo (s : State) : Host.Outcome State Fault Refusal := .next (act (serve 1 (noFields serveReadInfo)) s)

/-! ### Section settings (R50, R150, R173, R175) -/

/-- The settings of a section in the order of R175. -/
def SectionSettings.values (x : SectionSettings) : List Int :=
  [x.injectionCode, x.windowCycles, x.quickWindows, x.settleBoundaries, x.iMin, x.minGrade, x.substLimit,
   x.t1, x.t2, x.t3, x.t4, x.t5, x.t6, x.t7, x.hysteresis, x.stepThreshold, x.filterDepth, x.rejectLimit,
   x.detuningSet, x.deadband, x.decisionInterval, x.tFault, x.tClear, x.confirmCycles, x.clearCycles, x.recoveryCycles]

/-- The settings a WRITE_SECTION_SETTINGS carries: setting n of R175 is word n of the body; DETUNING_SET alone is
signed (R182). -/
def sectionSettingsOf (b : List Byte) : SectionSettings :=
  { injectionCode := word b 1, windowCycles := word b 2, quickWindows := word b 3, settleBoundaries := word b 4,
    iMin := word b 5, minGrade := word b 6, substLimit := word b 7, t1 := word b 8, t2 := word b 9, t3 := word b 10,
    t4 := word b 11, t5 := word b 12, t6 := word b 13, t7 := word b 14, hysteresis := word b 15,
    stepThreshold := word b 16, filterDepth := word b 17, rejectLimit := word b 18,
    detuningSet := signed32 (word b 19), deadband := word b 20, decisionInterval := word b 21, tFault := word b 22,
    tClear := word b 23, confirmCycles := word b 24, clearCycles := word b 25, recoveryCycles := word b 26 }

/-- The rule of each setting, with its field number: the ranges of chapters 4, 5, 6 and 9, R50 and R150. -/
def SectionSettings.checks (x : SectionSettings) : List (Nat × Bool) :=
  let level := within 1 1000000
  [(1, within 2 15 x.injectionCode && x.injectionCode != 8), (2, within 1 64 x.windowCycles),
   (3, within 0 15 x.quickWindows), (4, within 0 4 x.settleBoundaries), (5, within 10 5000 x.iMin),
   (6, within 0 7 x.minGrade), (7, within 0 64 x.substLimit), (8, level x.t1), (9, level x.t2 && x.t1 < x.t2),
   (10, level x.t3 && x.t2 < x.t3), (11, level x.t4 && x.t3 < x.t4), (12, level x.t5 && x.t4 < x.t5),
   (13, level x.t6 && x.t5 < x.t6), (14, level x.t7 && x.t6 < x.t7), (15, within 0 1000 x.hysteresis),
   (16, within 0 100000 x.stepThreshold), (17, within 0 4 x.filterDepth), (18, within 1 255 x.rejectLimit),
   (19, -300 ≤ x.detuningSet && x.detuningSet ≤ 300), (20, within 0 100 x.deadband),
   (21, within 1 16 x.decisionInterval), (22, within 1000 8000000 x.tFault),
   (23, within 1 7999999 x.tClear && x.tClear < x.tFault), (24, within 1 50 x.confirmCycles),
   (25, within 1 500 x.clearCycles), (26, within 0 3000 x.recoveryCycles)]

/-- The live settings of `y` beside the locked ones of `x` (11.4). -/
def SectionSettings.withLive (x y : SectionSettings) : SectionSettings :=
  { x with detuningSet := y.detuningSet, deadband := y.deadband, decisionInterval := y.decisionInterval }

def serveReadSectionSettings (n : SecId) (s : State) : Served :=
  unchanged s (.ok ((s.sec n).settings.values.flatMap word32))

/-- READ_SECTION_SETTINGS (R173). -/
def execReadSectionSettings (s : State) : Host.Outcome State Fault Refusal :=
  .next (act (serve 8 (withSection serveReadSectionSettings)) s)

def serveWriteSectionSettings (b : List Byte) (s : State) : Served :=
  if b.length ≠ 108 then unchanged s .length
  else
    match secOf (word b 0) with
    | none => unchanged s (.range 0 none)
    | some n =>
      let x := sectionSettingsOf b
      let y := (s.sec n).settings
      match firstFailing x.checks with
      | some f => unchanged s (.range f none)
      | none =>
        if (s.sec n).state = .disabled ∨ y.withLive x = x then done (s.modSec n fun z => { z with settings := x })
        else unchanged s .state

/-- WRITE_SECTION_SETTINGS (R50, R150, R175). -/
def execWriteSectionSettings (s : State) : Host.Outcome State Fault Refusal :=
  .next (act (serve 9 serveWriteSectionSettings) s)

/-! ### Coil settings (R128, R175) -/

/-- READ_COIL_SETTINGS: the five settings, and the binding slot or none (R128). -/
def readCoilSettingsAnswer (c : CoilId) (s : State) : List Byte :=
  let x := (s.coil c).settings
  num x.acceptTimeout ++ num x.silenceTimeout ++ num x.arrivalTolerance ++ num x.moveBase ++ num x.stepTime
    ++ optional num 0 ((s.coil c).binding.map Fin.val)

def serveReadCoilSettings (c : CoilId) (s : State) : Served := unchanged s (.ok (readCoilSettingsAnswer c s))

/-- READ_COIL_SETTINGS (R128). -/
def execReadCoilSettings (s : State) : Host.Outcome State Fault Refusal :=
  .next (act (serve 10 (withCoil serveReadCoilSettings)) s)

def coilSettingsOf (b : List Byte) : CoilSettings :=
  { acceptTimeout := word b 1, silenceTimeout := word b 2, arrivalTolerance := word b 3, moveBase := word b 4,
    stepTime := word b 5 }

/-- The ranges of 7.11. -/
def CoilSettings.checks (x : CoilSettings) : List (Nat × Bool) :=
  [(1, within 20 500 x.acceptTimeout), (2, within 30 1000 x.silenceTimeout), (3, within 0 255 x.arrivalTolerance),
   (4, within 100 60000 x.moveBase), (5, within 0 10000 x.stepTime)]

def serveWriteCoilSettings (b : List Byte) (s : State) : Served :=
  if b.length ≠ 24 then unchanged s .length
  else
    match coilOf (word b 0) with
    | none => unchanged s (.range 0 none)
    | some c =>
      let x := coilSettingsOf b
      match firstFailing x.checks with
      | some f => unchanged s (.range f none)
      | none =>
        if (s.sec c.sec).state = .disabled ∨ (s.coil c).settings = x then
          done (s.modCoil c fun k => { k with settings := x })
        else unchanged s .state

/-- WRITE_COIL_SETTINGS (R128, R175). -/
def execWriteCoilSettings (s : State) : Host.Outcome State Fault Refusal :=
  .next (act (serve 11 serveWriteCoilSettings) s)

/-! ### WRITE_GLOBAL (R176) -/

/-- What a WRITE_GLOBAL carries. -/
structure Globals where
  nominal        : Nominal
  share          : Nat
  couplerTimeout : Nat
  enables        : Vector Bool 22
deriving DecidableEq, Repr

/-- Enable `k` of the 22, from word 3 on (R182). -/
def enablesOf (b : List Byte) : Vector Bool 22 := Vector.ofFn fun k => word b (3 + k.val) == 1

/-- The rules of the fields of WRITE_GLOBAL, which names no object (R176, R182). -/
def globalChecks (b : List Byte) : List (Nat × Bool) :=
  (1, (nominalOf (word b 0)).isSome) :: (2, within 0 256 (word b 1)) :: (3, within 50 60000 (word b 2)) ::
    (List.range 22).map fun k => (4 + k, word b (3 + k) ≤ 1)

def globalsOf (b : List Byte) : Globals :=
  { nominal := (nominalOf (word b 0)).getD .hz50, share := word b 1, couplerTimeout := word b 2, enables := enablesOf b }

/-- The last count of a valid SAMPLE slot becomes absent (R22). -/
def Slot.forgetCount (x : Slot) : Slot :=
  match x.defn with
  | some { tag := _, mode := _, body := .sample _ } => { x with last := none }
  | _ => x

/-- A write of NOMINAL_FREQUENCY takes effect (R22, R47, R85, R176). -/
def writeNominal (f : Nominal) (s : State) : State :=
  let s := { s with nominal := f, slots := s.slots.map Slot.forgetCount }
  let clear (n : SecId) (s : State) := resetEstimate n (s.modSec n fun x => { x with ring := Ring.cleared })
  clear .s2 (clear .s1 s)

/-- SHARE and the enables, the live settings of the part (R94, R163). -/
def writeLive (g : Globals) (s : State) : State :=
  { s with share := g.share, events := { s.events with enables := g.enables } }

def serveWriteGlobal (b : List Byte) (s : State) : Served :=
  if b.length ≠ 100 then unchanged s .length
  else
    match firstFailing (globalChecks b) with
    | some f => unchanged s (.range f none)
    | none =>
      let g := globalsOf b
      if s.sec1.state = .disabled ∧ s.sec2.state = .disabled then
        done (writeLive g { writeNominal g.nominal s with couplerTimeout := g.couplerTimeout })
      else if g.nominal = s.nominal ∧ g.couplerTimeout = s.couplerTimeout then done (writeLive g s)
      else unchanged s .state

/-- WRITE_GLOBAL (R163, R176). -/
def execWriteGlobal (s : State) : Host.Outcome State Fault Refusal := .next (act (serve 12 serveWriteGlobal) s)

end Sys2Proof.Machine
end

