-- ==== Sys2Proof/Machine/StreamRequests.lean ====
section
/-! DEFINITION. Machine/StreamRequests.lean: the requests on the stream table: READ_SLOT, WRITE_SLOT, WRITE_MASKS,
ENABLE_SLOT (chapter 2). -/

namespace Sys2Proof.Machine

/-! ### Positions of list values (R182) -/

def CompareMode.code : CompareMode → Nat
  | .exact => 0 | .maskA => 1 | .maskB => 2 | .any => 3

def compareModeOf (n : Nat) : Option CompareMode :=
  match n with
  | 0 => some .exact
  | 1 => some .maskA
  | 2 => some .maskB
  | 3 => some .any
  | _ => none

def Role.code : Role → Nat
  | .voltage => 0 | .current => 1

def roleOf (n : Nat) : Option Role :=
  match n with
  | 0 => some .voltage
  | 1 => some .current
  | _ => none

def SlotState.code : SlotState → Nat
  | .active => 0 | .warning => 1 | .passive => 2 | .off => 3

/-! ### READ_SLOT (R20, R32) -/

def bindingBytes (b : Binding) : List Byte := num b.role.code ++ num (SecId.number b.sec) ++ num b.channel

/-- A definition as WRITE_SLOT carries it, without the slot number (R182). -/
def definitionBytes (d : Option SlotDef) : List Byte :=
  match d with
  | none => num 0
  | some d =>
    num 1 ++
    match d.body with
    | .sample bs => num 0 ++ num d.tag.toNat ++ num d.mode.code ++ num bs.length ++ bs.flatMap bindingBytes
    | .state p => num 1 ++ num d.tag.toNat ++ num d.mode.code ++ num p
    | .drive c => num 2 ++ num d.tag.toNat ++ num d.mode.code ++ num (CoilId.number c)

def readSlotAnswer (i : Fin 24) (s : State) : List Byte :=
  let x := s.slot i
  definitionBytes x.defn ++ optional num 0 x.last ++ num x.errors ++ num x.state.code ++ yesNo (s.shadowed i)

def serveReadSlot (i : Fin 24) (s : State) : Served := unchanged s (.ok (readSlotAnswer i s))

/-- READ_SLOT (R32). -/
def execReadSlot (s : State) : Host.Outcome State Fault Refusal := .next (act (serve 2 (withSlot serveReadSlot)) s)

/-! ### WRITE_SLOT (R15, R16) -/

/-- The body of WRITE_SLOT holds exactly the fields its valid flag, frame kind and binding count call for (R172 check 3). A
valid flag or frame kind outside its list announces nothing more (notes/assumptions/14.md). -/
def writeSlotLength (b : List Byte) : Bool :=
  if b.length < 8 then false
  else
    match word b 1 with
    | 0 => b.length == 8
    | 1 =>
      if b.length < 20 then false
      else
        match word b 2 with
        | 0 => 24 ≤ b.length && b.length == 24 + 12 * word b 5
        | 1 => b.length == 24
        | 2 => b.length == 24
        | _ => true
    | _ => true

/-- A binding from its three fields, when each is in range (R15). -/
def bindingOf (b : List Byte) (k : Nat) : Option Binding :=
  match roleOf (word b (6 + 3 * k)), secOf (word b (7 + 3 * k)) with
  | some r, some n => if word b (8 + 3 * k) ≤ 7 then some { role := r, sec := n, channel := word b (8 + 3 * k) } else none
  | _, _ => none

/-- Some other valid slot holds a binding of the same role and section. -/
def bindingTaken (i : Fin 24) (x : Binding) (s : State) : Bool :=
  slotNumbers.any fun j => j != i &&
    match (s.slot j).defn with
    | some { tag := _, mode := _, body := .sample bs } => bs.any fun y => y.role == x.role && y.sec == x.sec
    | _ => false

/-- Some other valid slot is a STATE slot. -/
def stateTaken (i : Fin 24) (s : State) : Bool :=
  slotNumbers.any fun j => j != i &&
    match (s.slot j).defn with
    | some { tag := _, mode := _, body := .state _ } => true
    | _ => false

/-- Some other valid DRIVE slot names the coil. -/
def driveTaken (i : Fin 24) (c : CoilId) (s : State) : Bool :=
  slotNumbers.any fun j => j != i &&
    match (s.slot j).defn with
    | some { tag := _, mode := _, body := .drive c' } => c' == c
    | _ => false

/-- The bindings of a SAMPLE definition, or the index of the first that fails (R15). -/
def bindingsOf (b : List Byte) (i : Fin 24) (s : State) : Nat → List Binding → Except Nat (List Binding)
  | 0, acc => .ok acc
  | n + 1, acc =>
    let k := acc.length
    match bindingOf b k with
    | some x =>
      if bindingTaken i x s || acc.any (fun y => y.role == x.role && y.sec == x.sec) then .error k
      else bindingsOf b i s n (acc ++ [x])
    | none => .error k

/-- R15: the definition a WRITE_SLOT carries, or the field at fault. -/
def slotDefOf (b : List Byte) (i : Fin 24) (s : State) : Except (Nat × Option Nat) (Option SlotDef) :=
  match word b 1 with
  | 0 => .ok none
  | 1 =>
    let tag : Word32 := BitVec.ofNat 32 (word b 3)
    if 2 < word b 2 ∨ (word b 2 = 1 ∧ stateTaken i s) then .error (2, none)
    else
      match compareModeOf (word b 4) with
      | none => .error (4, none)
      | some mode =>
        match word b 2 with
        | 0 =>
          if word b 5 < 1 ∨ 2 < word b 5 then .error (5, none)
          else
            match bindingsOf b i s (word b 5) [] with
            | .ok bs => .ok (some { tag := tag, mode := mode, body := .sample bs })
            | .error k => .error (5, some k)
        | 1 =>
          if word b 5 ≤ 7 then .ok (some { tag := tag, mode := mode, body := .state (word b 5) }) else .error (6, none)
        | _ =>
          match coilOf (word b 5) with
          | some c =>
            if driveTaken i c s then .error (6, none) else .ok (some { tag := tag, mode := mode, body := .drive c })
          | none => .error (6, none)
  | _ => .error (1, none)

/-- The definition ties its slot to a section (2.1). -/
def SlotDef.ties (d : SlotDef) (n : SecId) : Bool :=
  match d.body with
  | .sample bs => bs.any fun x => x.sec == n
  | .state _ => true
  | .drive c => c.sec == n

def tiesTo (d : Option SlotDef) (n : SecId) : Bool :=
  match d with
  | some d => d.ties n
  | none => false

/-- A definition is tied to a section whose state is other than DISABLED (R16, R18). -/
def tiedToEnabled (d : Option SlotDef) (s : State) : Bool :=
  (tiesTo d .s1 && s.sec1.state != .disabled) || (tiesTo d .s2 && s.sec2.state != .disabled)

/-- The definition names the coil in a DRIVE slot. -/
def namesCoil (d : Option SlotDef) (c : CoilId) : Bool :=
  match d with
  | some { tag := _, mode := _, body := .drive c' } => c' == c
  | _ => false

/-- The definition is a STATE slot's. -/
def isStateSlot (d : Option SlotDef) : Bool :=
  match d with
  | some { tag := _, mode := _, body := .state _ } => true
  | _ => false

/-- The binding of a coil after slot `i` takes the definition `d` (R109, R110; notes/assumptions/15.md). The arrival port is kept
(notes/assumptions/40.md). -/
def Coil.rebind (k : Coil) (c : CoilId) (i : Fin 24) (d : Option SlotDef) : Coil :=
  if namesCoil d c then
    if k.binding = some i then k else { k with binding := some i, reported := none, toggle := none }
  else if k.binding = some i then { k with binding := none, pendMove := none, pendInj := none, pendStop := false }
  else k

/-- The coupler record after a STATE slot is created, removed or rewritten (R142, R30). -/
def rewriteCoupler (was now : Bool) (s : State) : State :=
  let none4 : Unsure := { noValue := false, unavailable := false, value := false, stale := false }
  match was, now with
  | false, false => s
  | false, true =>
    setUnsure { none4 with noValue := true }
      { s with coupler := { s.coupler with configured := true, available := true, last := none } }
  | true, false =>
    setUnsure none4
      { s with coupler := { s.coupler with configured := false, available := false, last := none, staleTimer := none } }
  | true, true => reportAvailability true s

/-- An accepted WRITE_SLOT (R16, R109, R142). STREAM_STATE is filed before the coupler is told
(notes/assumptions/25.md). -/
def writeSlot (i : Fin 24) (d : Option SlotDef) (s : State) : State :=
  let x := s.slot i
  let s := s.setSlot i (Slot.fresh d)
  let s := if x.state = .active then s else raise .streamState (.slot i) s
  let s := (s.modCoil .c1 fun k => k.rebind .c1 i d).modCoil .c2 fun k => k.rebind .c2 i d
  rewriteCoupler (isStateSlot x.defn) (isStateSlot d) s

def serveWriteSlot (b : List Byte) (s : State) : Served :=
  if !writeSlotLength b then unchanged s .length
  else
    match slotOf (word b 0) with
    | none => unchanged s (.range 0 none)
    | some i =>
      match slotDefOf b i s with
      | .error e => unchanged s (.range e.1 e.2)
      | .ok d =>
        if tiedToEnabled (s.slot i).defn s || tiedToEnabled d s then unchanged s .state else done (writeSlot i d s)

/-- WRITE_SLOT (R15, R16). -/
def execWriteSlot (s : State) : Host.Outcome State Fault Refusal := .next (act (serve 3 serveWriteSlot) s)

/-! ### WRITE_MASKS (R18) and ENABLE_SLOT (R26) -/

/-- The definition uses one of the mask words. -/
def usesMask (d : Option SlotDef) : Bool :=
  match d with
  | some d => d.mode == .maskA || d.mode == .maskB
  | none => false

def serveWriteMasks (b : List Byte) (s : State) : Served :=
  if b.length ≠ 8 then unchanged s .length
  else if slotNumbers.any fun i => usesMask (s.slot i).defn && tiedToEnabled (s.slot i).defn s then unchanged s .state
  else done { s with maskA := BitVec.ofNat 32 (word b 0), maskB := BitVec.ofNat 32 (word b 1) }

/-- WRITE_MASKS (R18). -/
def execWriteMasks (s : State) : Host.Outcome State Fault Refusal := .next (act (serve 4 serveWriteMasks) s)

/-- An accepted ENABLE_SLOT (R26, R30). STREAM_STATE is filed before the coupler is told (notes/assumptions/25.md). -/
def enableSlot (i : Fin 24) (s : State) : State :=
  let x := s.slot i
  let s := s.setSlot i { x with errors := 0, state := .active, last := none }
  let s := if x.state = .active then s else raise .streamState (.slot i) s
  if isStateSlot x.defn && !x.state.distributes then reportAvailability true s else s

def serveEnableSlot (i : Fin 24) (s : State) : Served :=
  if (s.slot i).defn.isSome then done (enableSlot i s) else unchanged s .state

/-- ENABLE_SLOT (R26). -/
def execEnableSlot (s : State) : Host.Outcome State Fault Refusal := .next (act (serve 5 (withSlot serveEnableSlot)) s)

end Sys2Proof.Machine
end

