-- ==== Sys2Proof/Machine/TableRequests.lean ====
section
/-! DEFINITION. Machine/TableRequests.lean: the requests on coil tables: READ_COIL_TABLE, WRITE_COIL_TABLE (chapter 6). -/

namespace Sys2Proof.Machine

/-! ### READ_COIL_TABLE (R91) -/

def pointBytes (p : TablePoint) : List Byte := num p.pos ++ num p.b

def readTableAnswer (c : CoilId) (s : State) : List Byte :=
  num (s.coil c).table.length ++ (s.coil c).table.flatMap pointBytes

def serveReadCoilTable (c : CoilId) (s : State) : Served := unchanged s (.ok (readTableAnswer c s))

/-- READ_COIL_TABLE (R91). -/
def execReadCoilTable (s : State) : Host.Outcome State Fault Refusal :=
  .next (act (serve 6 (withCoil serveReadCoilTable)) s)

/-! ### WRITE_COIL_TABLE (R90, R91) -/

/-- Point `k` of a table body: coil and count take words 0 and 1, and a point takes two words, of whose position the low 16
bits are read (R90; notes/assumptions/20.md). -/
def tablePoint (b : List Byte) (k : Nat) : TablePoint :=
  { pos := word b (2 + 2 * k) % 65536, b := word b (3 + 2 * k) }

/-- R90 step 3 for one point after the one before it, if any. -/
def pointAllowed (before : Option TablePoint) (p : TablePoint) : Bool :=
  within 1 1000000 p.b &&
  match before with
  | none => true
  | some q => q.pos < p.pos && q.b < p.b

/-- R90 step 3: the index of the first point that fails, counted from `k`. -/
def badPoint (k : Nat) (before : Option TablePoint) : List TablePoint → Option Nat
  | [] => none
  | p :: rest => if pointAllowed before p then badPoint (k + 1) (some p) rest else some k

def tablePoints (b : List Byte) (n : Nat) : List TablePoint := (List.range n).map (tablePoint b)

/-- An accepted WRITE_COIL_TABLE: the table is taken whole and a pending move target is discarded (R91). -/
def writeTable (c : CoilId) (t : List TablePoint) (s : State) : State :=
  s.modCoil c fun k => { k with table := t, pendMove := none }

/-- The body of WRITE_COIL_TABLE holds exactly the points its count announces (R172 check 3). -/
def tableLength (b : List Byte) : Bool := 8 ≤ b.length && b.length == 8 + 8 * word b 1

def serveWriteCoilTable (b : List Byte) (s : State) : Served :=
  if !tableLength b then unchanged s .length
  else
    match coilOf (word b 0) with
    | none => unchanged s (.range 0 none)
    | some c =>
      if !within 2 32 (word b 1) then unchanged s (.range 1 none)
      else
        let t := tablePoints b (word b 1)
        match badPoint 0 none t with
        | some k => unchanged s (.range 2 (some k))
        | none => if (s.sec c.sec).state = .disabled then done (writeTable c t s) else unchanged s .state

/-- WRITE_COIL_TABLE (R90, R91). -/
def execWriteCoilTable (s : State) : Host.Outcome State Fault Refusal := .next (act (serve 7 serveWriteCoilTable) s)

end Sys2Proof.Machine
end

