-- ==== Sys2Proof/Machine/Dispatch.lean ====
section
/-! DEFINITION. Machine/Dispatch.lean: each command's one direct call of its meaning. -/

namespace Sys2Proof.Machine

def exec (i : Instr) (s : State) : Host.Outcome State Fault Refusal :=
  match i with
  | .frameReceptionComplete p f linkLost => Sys2Proof.Machine.execFrameReceptionComplete p f linkLost s
  | .holdOffRunOut n => Sys2Proof.Machine.execHoldOffRunOut n s
  | .transmitComplete p => Sys2Proof.Machine.execTransmitComplete p s
  | .linkLoss p => Sys2Proof.Machine.execLinkLoss p s
  | .linkRestoration p => Sys2Proof.Machine.execLinkRestoration p s
  | .powerOn straps linkA linkB => Sys2Proof.Machine.execPowerOn straps linkA linkB s
  | .resetHeld => Sys2Proof.Machine.execResetHeld s
  | .resetRelease straps linkA linkB => Sys2Proof.Machine.execResetRelease straps linkA linkB s
  | .acceptTimeoutExpiry c => Sys2Proof.Machine.execAcceptTimeoutExpiry c s
  | .confirmationTimerExpiry c => Sys2Proof.Machine.execConfirmationTimerExpiry c s
  | .moveTimeLimitExpiry c => Sys2Proof.Machine.execMoveTimeLimitExpiry c s
  | .silenceExpiry c => Sys2Proof.Machine.execSilenceExpiry c s
  | .staleTimerExpiry => Sys2Proof.Machine.execStaleTimerExpiry s
  | .alarmReassertion => Sys2Proof.Machine.execAlarmReassertion s
  | .readInfo => Sys2Proof.Machine.execReadInfo s
  | .readSlot => Sys2Proof.Machine.execReadSlot s
  | .writeSlot => Sys2Proof.Machine.execWriteSlot s
  | .writeMasks => Sys2Proof.Machine.execWriteMasks s
  | .enableSlot => Sys2Proof.Machine.execEnableSlot s
  | .readCoilTable => Sys2Proof.Machine.execReadCoilTable s
  | .writeCoilTable => Sys2Proof.Machine.execWriteCoilTable s
  | .readSectionSettings => Sys2Proof.Machine.execReadSectionSettings s
  | .writeSectionSettings => Sys2Proof.Machine.execWriteSectionSettings s
  | .readCoilSettings => Sys2Proof.Machine.execReadCoilSettings s
  | .writeCoilSettings => Sys2Proof.Machine.execWriteCoilSettings s
  | .writeGlobal => Sys2Proof.Machine.execWriteGlobal s
  | .readState => Sys2Proof.Machine.execReadState s
  | .readEvents => Sys2Proof.Machine.execReadEvents s
  | .readSummary => Sys2Proof.Machine.execReadSummary s
  | .readCounters => Sys2Proof.Machine.execReadCounters s
  | .enableSection => Sys2Proof.Machine.execEnableSection s
  | .disableSection => Sys2Proof.Machine.execDisableSection s
  | .restartSection => Sys2Proof.Machine.execRestartSection s
  | .freeze => Sys2Proof.Machine.execFreeze s
  | .unfreeze => Sys2Proof.Machine.execUnfreeze s
  | .releaseCoil => Sys2Proof.Machine.execReleaseCoil s
  | .manualMove => Sys2Proof.Machine.execManualMove s
  | .resetPart => Sys2Proof.Machine.execResetPart s
  | .unknownRequest => Sys2Proof.Machine.execUnknownRequest s
  | .supplyOutOfRange => Sys2Proof.Machine.execSupplyOutOfRange s

end Sys2Proof.Machine
end

