-- ==== Sys2Proof/Machine/Idle.lean ====
section
/-! DEFINITION. Machine/Idle.lean: what the part does of itself while no command waits: the command that its own counters,
timers and request queue make due, and the tick of the millisecond counter (notes/assumptions/17.md). -/

namespace Sys2Proof.Machine

/-- A timer that runs out at the present time. -/
def State.due (s : State) (t : Option Time) : Bool := t == some s.ms

/-- The command of a request kind, numbered as 12.4 numbers them. -/
def requestCommand (k : Nat) : Instr :=
  match k with
  | 1 => .readInfo
  | 2 => .readSlot
  | 3 => .writeSlot
  | 4 => .writeMasks
  | 5 => .enableSlot
  | 6 => .readCoilTable
  | 7 => .writeCoilTable
  | 8 => .readSectionSettings
  | 9 => .writeSectionSettings
  | 10 => .readCoilSettings
  | 11 => .writeCoilSettings
  | 12 => .writeGlobal
  | 13 => .readState
  | 14 => .readEvents
  | 15 => .readSummary
  | 16 => .readCounters
  | 17 => .enableSection
  | 18 => .disableSection
  | 19 => .restartSection
  | 20 => .freeze
  | 21 => .unfreeze
  | 22 => .releaseCoil
  | 23 => .manualMove
  | 24 => .resetPart
  | _ => .unknownRequest

/-- The command by which the responder executes the request at the head of its queue (R171). -/
def State.headCommand (s : State) : Option Instr :=
  match s.requests with
  | [] => none
  | r :: _ => some (if r.unknown then .unknownRequest else requestCommand r.kind)

/-- The commands that the part's own counters and timers make due now. -/
def State.dueCommands (s : State) : List Instr :=
  [(holdOffDue .s1 s, Instr.holdOffRunOut .s1), (holdOffDue .s2 s, .holdOffRunOut .s2),
   (s.due s.coil1.acceptTimer, .acceptTimeoutExpiry .c1), (s.due s.coil2.acceptTimer, .acceptTimeoutExpiry .c2),
   (s.due (s.coil1.confirmTimer.map Confirmation.due), .confirmationTimerExpiry .c1),
   (s.due (s.coil2.confirmTimer.map Confirmation.due), .confirmationTimerExpiry .c2),
   (s.due s.coil1.moveTimer, .moveTimeLimitExpiry .c1), (s.due s.coil2.moveTimer, .moveTimeLimitExpiry .c2),
   (s.due s.coil1.silenceTimer, .silenceExpiry .c1), (s.due s.coil2.silenceTimer, .silenceExpiry .c2),
   (s.due s.coupler.staleTimer, .staleTimerExpiry),
   (s.events.alarm == .reassertAt s.ms, .alarmReassertion)].filterMap fun x => if x.1 then some x.2 else none

/-- The command the part raises of itself, if any: what its timers make due first, then the request at the head. -/
def State.ownCommand (s : State) : Option Instr := if s.live then s.dueCommands.head? <|> s.headCommand else none

/-- One millisecond passes; the counter stands while the part does not act (notes/assumptions/17.md). -/
def tick (s : State) : State := if s.live then { s with ms := s.ms + 1 } else s

end Sys2Proof.Machine
end

