-- ==== Sys2Proof/Machine/Step.lean ====
section
/-! DEFINITION. Machine/Step.lean: one step of the part: the command at the front of the queue, or, while none waits, what
the part does of itself. -/

namespace Sys2Proof.Machine

/-- The command at the front of the queue is executed with the queue's rest. On an empty queue the part executes the command
that is due of itself, or lets one millisecond pass (notes/assumptions/17.md). -/
def step (s : State) : Host.Outcome State Fault Refusal :=
  match s.pending with
  | i :: rest => exec i { s with pending := rest }
  | [] =>
    match s.ownCommand with
    | some i => exec i s
    | none => .next (tick s)

/-- The command that a word spells, put at the front of the queue; nothing where it spells none
(notes/assumptions/16.md). -/
def State.withFetchWord (s : State) (nbits w : Nat) : State :=
  match decodeTableWord nbits w with
  | some i => { s with pending := i :: s.pending }
  | none => s

end Sys2Proof.Machine
end

