-- ==== Sys2Proof/Safety.lean ====
section
/-! DEFINITION. Safety.lean: what a good state of the part is, in the terms the statements use: the invariants the spec
states of the whole part, and the situations in which a request is executed. -/

namespace Sys2Proof.Machine

/-! ### Invariants -/

/-- The queues of a port hold no more frames than they have places, and the origin queue stands in the order of R6. -/
def PortState.inBounds (x : PortState) : Prop :=
  x.forwardOccupancy ≤ Config.forwardPlaces ∧ x.originOccupancy ≤ Config.originPlaces
    ∧ x.origin.Pairwise fun a b => a.rank ≤ b.rank

/-- No queue of the part holds more than its places (R5, R6, R171). -/
def QueuesBounded (s : State) : Prop :=
  s.portA.inBounds ∧ s.portB.inBounds ∧ s.requests.length ≤ Config.requestPlaces

/-- While the part acts, a port whose link is DOWN has an idle transmitter and empty queues (R10, R11). -/
def DownPortsEmpty (s : State) : Prop :=
  s.live = true → ∀ p, (s.port p).link = .down → (s.port p).tx = .idle ∧ (s.port p).forward = [] ∧ (s.port p).origin = []

/-- Every slot stands in the band of its error count (R24). -/
def BandsHold (s : State) : Prop := ∀ i, (s.slot i).errors ≤ 256 ∧ (s.slot i).state = slotBand (s.slot i).errors

/-- A ring in the form of R34, R35, R36 and R39, at modulus `m`: at most 16 entries, each with a value; every count ahead of
the last one delivered, in strictly rising order of lead; an incomplete head; and none at all before the first value. -/
def Ring.wf (m : Nat) (r : Ring) : Prop :=
  r.entries.length ≤ Config.ringPlaces
    ∧ (∀ e ∈ r.entries, e.count < m ∧ (e.u.isSome = true ∨ e.i.isSome = true))
    ∧ (∀ e ∈ r.entries.head?, e.complete = false)
    ∧ match r.last with
      | none => r.entries = []
      | some l => l < m ∧ (∀ e ∈ r.entries, isAhead m l e.count = true)
          ∧ r.entries.Pairwise fun a b => lead m l a.count < lead m l b.count

def RingsWellFormed (s : State) : Prop := ∀ n, (s.sec n).ring.wf s.nominal.modulus

/-- An estimate that is present lies within the range of R75 (R78). -/
def EstimatesInRange (s : State) : Prop := ∀ n, ∀ e ∈ (s.sec n).estimate.e, 100 ≤ e ∧ e ≤ 1000000

/-- Level 2 is occupied only while level 1 is (R164), and the ALARM line follows level 1's alarm mark while RESET is not
held (R165). -/
def LevelsInOrder (s : State) : Prop :=
  (s.events.level2.isSome = true → s.events.level1.isSome = true)
    ∧ (s.held = false → (s.events.alarm ≠ .deasserted ↔ ∃ r, s.events.level1 = some (r, true)))

/-- Section 2 is JOINED exactly while the held coupler position is CLOSED, and section 1 never is (R131). -/
def JoinFollowsCoupler (s : State) : Prop :=
  (s.sec2.state = .joined ↔ s.coupler.held = .closed) ∧ s.sec1.state ≠ .joined

/-- A window engine is OFF exactly while its section is not measuring or its coupler is unsure (R51). -/
def EnginesFollow (s : State) : Prop :=
  ∀ n, (s.sec n).engine.state = .off ↔ ((s.sec n).state.measures = false ∨ (s.sec n).inhibit.unsure = true)

/-- A fault supervisor is IDLE exactly while R131 makes it idle (R131, R157, R158). -/
def SupervisorsFollow (s : State) : Prop := ∀ n, (s.sec n).sup.phase = .idle ↔ s.supervised n = false

/-- A FAILED coil holds no record, no move, no pending work, no injection and no running timer (R125, R126). -/
def Coil.rests (k : Coil) : Prop :=
  k.inFlight = none ∧ k.move = none ∧ k.pendMove = none ∧ k.pendInj = none ∧ k.pendStop = false ∧ k.heldInj = .off
    ∧ k.acceptTimer = none ∧ k.confirmTimer = none ∧ k.moveTimer = none ∧ k.silenceTimer = none

def FailedCoilsRest (s : State) : Prop := ∀ c, (s.coil c).failed = true → (s.coil c).rests

/-- A coil table that may stand in the part: empty, or 2 to 32 points whose positions and susceptances both strictly rise
(R89). -/
def tableLegal (t : List TablePoint) : Prop :=
  t = [] ∨ (2 ≤ t.length ∧ t.length ≤ 32 ∧ (∀ p ∈ t, p.pos ≤ 65535 ∧ 1 ≤ p.b ∧ p.b ≤ 1000000)
    ∧ t.Pairwise fun p q => p.pos < q.pos ∧ p.b < q.b)

/-- Every setting in force passes the rule of its write, and every coil table is legal (R50, R89, R150, R172, R176). -/
def SettingsLegal (s : State) : Prop :=
  (∀ n, ∀ k ∈ (s.sec n).settings.checks, k.2 = true) ∧ (∀ c, ∀ k ∈ (s.coil c).settings.checks, k.2 = true)
    ∧ (∀ c, tableLegal (s.coil c).table) ∧ s.share ≤ 256 ∧ 50 ≤ s.couplerTimeout ∧ s.couplerTimeout ≤ 60000

/-- The stream table has the form R15 asks for: no two bindings, in one slot or in two, are of the same role and section; the
coupler record knows whether a STATE slot exists and there is at most one (R142); and a coil is bound exactly to the DRIVE slot
that names it (R109). -/
def StreamTableLegal (s : State) : Prop :=
  (∀ i j d e bs cs (k l : Nat) (x y : Binding), (s.slot i).defn = some d → (s.slot j).defn = some e →
      d.body = .sample bs → e.body = .sample cs → bs[k]? = some x → cs[l]? = some y → x.role = y.role → x.sec = y.sec →
      i = j ∧ k = l)
    ∧ (∀ c i, (s.coil c).binding = some i ↔ namesCoil (s.slot i).defn c = true)
    ∧ (∀ i j, isStateSlot (s.slot i).defn = true → isStateSlot (s.slot j).defn = true → i = j)
    ∧ (s.coupler.configured = true ↔ ∃ i, isStateSlot (s.slot i).defn = true)

/-! ### Situations -/

/-- The part acts, and the request at the head of its queue is `r`, of kind `k` and with the body `b`. -/
def Serving (s : State) (k : Nat) (r : Request) (b : List Byte) : Prop :=
  s.live = true ∧ s.requests.head? = some r ∧ r.holdsHeader = true ∧ r.kind = k ∧ r.body = some b

/-- What the responder does for each request kind (11.3). -/
def served (k : Nat) : List Byte → State → Served :=
  match k with
  | 1 => noFields serveReadInfo
  | 2 => withSlot serveReadSlot
  | 3 => serveWriteSlot
  | 4 => serveWriteMasks
  | 5 => withSlot serveEnableSlot
  | 6 => withCoil serveReadCoilTable
  | 7 => serveWriteCoilTable
  | 8 => withSection serveReadSectionSettings
  | 9 => serveWriteSectionSettings
  | 10 => withCoil serveReadCoilSettings
  | 11 => serveWriteCoilSettings
  | 12 => serveWriteGlobal
  | 13 => noFields serveReadState
  | 14 => noFields serveReadEvents
  | 15 => noFields serveReadSummary
  | 16 => serveReadCounters
  | 17 => withSection serveEnableSection
  | 18 => withSection serveDisableSection
  | 19 => withSection serveRestartSection
  | 20 => withSection serveFreeze
  | 21 => withSection serveUnfreeze
  | 22 => withCoil serveReleaseCoil
  | 23 => serveManualMove
  | 24 => noFields serveResetPart
  | _ => fun _ s => unchanged s .kind

/-- The body holds exactly the fields of a request of kind `k`, by its length (R172 check 3). -/
def bodyFits (k : Nat) (b : List Byte) : Bool :=
  match k with
  | 1 | 13 | 14 | 15 | 24 => b.length == 0
  | 2 | 5 | 6 | 8 | 10 | 17 | 18 | 19 | 20 | 21 | 22 => b.length == 4
  | 3 => writeSlotLength b
  | 4 | 16 | 23 => b.length == 8
  | 7 => tableLength b
  | 9 => b.length == 108
  | 11 => b.length == 24
  | 12 => b.length == 100
  | _ => false

/-- The body of a WRITE_SLOT spells the definition `d` (R15, R182). -/
def Spells (b : List Byte) (d : Option SlotDef) : Prop :=
  match d with
  | none => word b 1 = 0
  | some x =>
    word b 1 = 1 ∧ x.tag = BitVec.ofNat 32 (word b 3) ∧ word b 4 = x.mode.code
    ∧ match x.body with
      | .sample bs => word b 2 = 0 ∧ word b 5 = bs.length ∧ 1 ≤ bs.length ∧ bs.length ≤ 2
          ∧ ∀ k y, bs[k]? = some y → word b (6 + 3 * k) = y.role.code ∧ word b (7 + 3 * k) = SecId.number y.sec
              ∧ word b (8 + 3 * k) = y.channel ∧ y.channel ≤ 7
      | .state p => word b 2 = 1 ∧ word b 5 = p ∧ p ≤ 7
      | .drive c => word b 2 = 2 ∧ word b 5 = CoilId.number c

/-- The definition `d` may stand in slot `i` beside the other valid slots: no binding of a role and section twice, no second
STATE slot, and no second DRIVE slot of a coil (R15). -/
def FitsTable (i : Fin 24) (d : Option SlotDef) (s : State) : Prop :=
  ∀ x, d = some x →
    match x.body with
    | .sample bs =>
      (∀ (k l : Nat) (y z : Binding), bs[k]? = some y → bs[l]? = some z → y.role = z.role → y.sec = z.sec → k = l)
        ∧ ∀ j, j ≠ i → ∀ e cs, (s.slot j).defn = some e → e.body = .sample cs → ∀ y ∈ bs, ∀ z ∈ cs,
            ¬ (y.role = z.role ∧ y.sec = z.sec)
    | .state _ => ∀ j, j ≠ i → isStateSlot (s.slot j).defn = false
    | .drive c => ∀ j, j ≠ i → namesCoil (s.slot j).defn c = false

/-- A good frame arrives at port `p` of the part in action, and slot `i`, with the definition `d`, takes it (R2, R4, R19). -/
def Taking (p : Port) (f : Frame) (s : State) (i : Fin 24) (d : SlotDef) : Prop :=
  s.live = true ∧ (s.port p).link = .up ∧ frameBad f = false ∧ classify f = d.body.kind ∧ 8 ≤ msgLength (messageOf f)
    ∧ s.taker (classify f) (streamTag (messageOf f)) = some i ∧ (s.slot i).defn = some d

/-- The state after the frame is counted in and a copy of it relayed (R1, R4, R5). -/
def State.relayed (s : State) (p : Port) (f : Frame) : State :=
  relay p f (s.modPort p fun x => { x with framesIn := satInc x.framesIn })

/-- A slot with a new error count: the state is that of the count's band, and an OFF slot stays as it is (R24). -/
def Slot.withErrors (x : Slot) (e : Nat) : Slot := if x.state = .off then x else { x with errors := e, state := slotBand e }

/-- A slot after a frame in sequence (R22, R23, R24). -/
def Slot.inSequence (x : Slot) (c : Nat) : Slot :=
  { x.withErrors (x.errors - 1) with good := satInc x.good, last := some c }

/-- A slot after a frame that leaves a gap (R22, R23, R24). -/
def Slot.afterGap (x : Slot) (c : Nat) : Slot :=
  { x.withErrors (min (x.errors + 8) 256) with gaps := satInc x.gaps, last := some c }

/-- Slot `i` takes the runtime part of `x`, and a change of slot state raises STREAM_STATE (R24). -/
def State.countSlot (s : State) (i : Fin 24) (x : Slot) : State :=
  if x.state = (s.slot i).state then s.setSlot i x else raise .streamState (.slot i) (s.setSlot i x)

/-! ### Frames -/

/-- All that the origin queues and the coils' records can change is set aside: two states agree on everything but the two
ports and the two coil command contexts. -/
def AgreeBeyondLinks (s t : State) : Prop :=
  t = { s with portA := t.portA, portB := t.portB, coil1 := t.coil1, coil2 := t.coil2 }

/-- What of a coil the sending of its records leaves alone: table, settings, binding, failed mark, reported state and
arrival port. -/
def Coil.agrees (k k' : Coil) : Prop :=
  k'.table = k.table ∧ k'.settings = k.settings ∧ k'.binding = k.binding ∧ k'.failed = k.failed
    ∧ k'.reported = k.reported ∧ k'.arrival = k.arrival

/-- The items of a port that no end of a step changes: link, latch, every counter but the origin drops, and the places taken
in the forward queue. -/
def PortState.agrees (x y : PortState) : Prop :=
  y.link = x.link ∧ y.latch = x.latch ∧ y.framesIn = x.framesIn ∧ y.framesInError = x.framesInError
    ∧ y.framesOut = x.framesOut ∧ y.forwardDrops = x.forwardDrops ∧ y.unmatched = x.unmatched
    ∧ y.forwardOccupancy = x.forwardOccupancy

/-- A section that another section's change leaves alone, its supervisor apart, which may follow section 1 (R131). -/
def Section.agreesButSup (x y : Section) : Prop := y = { x with sup := y.sup }

/-- Section `n` has just started (R133): what the start resets, what it keeps, and the injection it asks for. -/
def Started (n : SecId) (s u : State) : Prop :=
  u.sec n = { (s.sec n) with
      state := .starting, entryTime := s.ms, ring := Ring.cleared, estimate := Estimate.cleared, counter := 0,
      decision := none, engine := Engine.started (s.sec n).settings, sup := (u.sec n).sup }
    ∧ (u.sec n).sup = { (s.sec n).sup with
      phase := if (s.sec n).sup.phase = .idle then .watch else (s.sec n).sup.phase
      acc := none, confirm := 0, clear := 0, capture := none, holdOff := none, last := none, blind := 0 }
    ∧ (∀ m, m ≠ n → (s.sec m).agreesButSup (u.sec m))
    ∧ AgreeBeyondLinks { s with sec1 := u.sec1, sec2 := u.sec2 } u
    ∧ ∀ c, s.injector n = some c → (s.coil c).takesRequests = true →
      (u.coil c).pendInj = some (.on (s.sec n).settings.injectionCode)
        ∨ (u.coil c).heldInj = .sent (s.sec n).settings.injectionCode

/-- An untracked record of coil `c`, formed in `s`, has been offered: it waits for a place, or it stands in the origin queue of
every port of the coil's route whose link is UP (R7, R8, R11). -/
def Offered (c : CoilId) (r : DriveRecord) (s u : State) : Prop :=
  (∃ w ∈ (u.coil c).waiting, w.tracked = false ∧ w.record = r)
    ∨ ∀ p ∈ (s.coil c).route.ports, (s.port p).link = .up → .record c false r ∈ (u.port p).origin

/-- The drive of a section is being silenced: its INJECT_OFF is pending or in flight, unless the coil takes no requests (R112,
R136). -/
def Silenced (n : SecId) (s u : State) : Prop :=
  ∀ c, s.injector n = some c → (s.coil c).takesRequests = true →
    (u.coil c).pendInj = some .off ∨ ∃ f, (u.coil c).inFlight = some f ∧ f.record.kind = .injectOff

/-- A move of coil `c` to position `q` is pending, or is in flight with its MOVE_TO record (R111, R113). -/
def MovePlaced (c : CoilId) (q : Nat) (o : MoveOrigin) (u : State) : Prop :=
  (u.coil c).pendMove = some { target := q, origin := o }
    ∨ (u.coil c).pendMove = none ∧ ∃ m f, (u.coil c).move = some m ∧ m.target = q ∧ m.origin = o
        ∧ (u.coil c).inFlight = some f ∧ f.record.kind = .moveTo q

/-- The contents of a frame went nowhere: rings, estimates, coupler value, reported states and arrival ports are as they were
(R21, R23, R27, R31). -/
def HandsNothingOn (s u : State) : Prop :=
  (∀ n, (u.sec n).ring = (s.sec n).ring ∧ (u.sec n).estimate = (s.sec n).estimate) ∧ u.coupler.last = s.coupler.last
    ∧ ∀ c, (u.coil c).reported = (s.coil c).reported ∧ (u.coil c).arrival = (s.coil c).arrival

/-- The coupler's unsure causes have changed from those of `s` to those of `u` (R143, R144). Where they were empty and no longer
are, COUPLER_UNSURE is raised, both sections are inhibited by it, both window engines go to OFF with cause COUPLER, and the
pending targets of a section whose inhibit set was empty are cleared. Where they have become empty, both sections are sure again
and the engine of a measuring one waits, ready afresh. In every other case nothing but the coupler record changes. -/
def UnsureFollows (s u : State) : Prop :=
  (s.coupler.unsure.isEmpty = true → u.coupler.unsure.isEmpty = false →
    .couplerUnsure ∈ u.events.summary
    ∧ (∀ n,
      let g := (s.sec n).engine
      u.sec n = { (s.sec n) with
        inhibit := { (s.sec n).inhibit with unsure := true }
        engine := match g.state with
          | .run w => { g with
              state := .off, firstPair := false, discarded := satInc g.discarded
              outcome := some { result := .discarded .coupler, start := w.start, w := w.w, taken := w.taken,
                                subst := w.subst, phasors := none } }
          | .wait => { g with state := .off, firstPair := false }
          | .off => { g with firstPair := false } })
    ∧ (∀ n, (s.sec n).inhibit.isEmpty = true → ∀ c ∈ s.drives n, u.coil c = { s.coil c with pendMove := none })
    ∧ (∀ c, (∀ n, (s.sec n).inhibit.isEmpty = true → c ∉ s.drives n) → u.coil c = s.coil c)
    ∧ AgreeBeyondLinks { s with sec1 := u.sec1, sec2 := u.sec2, coupler := u.coupler, events := u.events } u)
  ∧ (s.coupler.unsure.isEmpty = false → u.coupler.unsure.isEmpty = true →
    (∀ n, u.sec n = { (s.sec n) with
        inhibit := { (s.sec n).inhibit with unsure := false }
        engine := if (s.sec n).state.measures then { (s.sec n).engine with state := .wait, firstPair := false }
                  else (s.sec n).engine })
    ∧ u = { s with sec1 := u.sec1, sec2 := u.sec2, coupler := u.coupler })
  ∧ (s.coupler.unsure.isEmpty = u.coupler.unsure.isEmpty → u = { s with coupler := u.coupler })

/-- Coil `c` has just entered FAILED with the halting event `k`: an untracked STOP for a move in flight and an untracked
INJECT_OFF for an injection held are offered, the coil is at rest, and the section that drives it has been told (R110, R125,
R137). -/
def FailedWith (k : EventKind) (c : CoilId) (s u : State) : Prop :=
  (u.coil c).failed = true ∧ (u.coil c).rests ∧ k ∈ u.events.summary
    ∧ ((s.coil c).move.isSome = true →
        match (s.coil c).toggle with
        | some t => Offered c { kind := .stop, toggle := !t } s u
        | none => Offered c { kind := .stop, toggle := false } s u ∧ Offered c { kind := .stop, toggle := true } s u)
    ∧ ((s.coil c).heldInj ≠ .off →
        match (s.coil c).toggle with
        | some t => Offered c { kind := .injectOff, toggle := if (s.coil c).move.isSome then t else !t } s u
        | none =>
          Offered c { kind := .injectOff, toggle := false } s u ∧ Offered c { kind := .injectOff, toggle := true } s u)
    ∧ ((s.sec (s.driver c)).state.active = true →
        (u.sec (s.driver c)).state = .halted ∧ (u.sec (s.driver c)).entryTime = s.ms
          ∧ (u.sec (s.driver c)).lastHalt = some { kind := k, obj := .coil c, time := s.ms }
          ∧ (u.sec (s.driver c)).engine.state = .off)
    ∧ ((s.sec (s.driver c)).state = .disabled ∨ (s.sec (s.driver c)).state = .halted →
        (u.sec (s.driver c)).state = (s.sec (s.driver c)).state)
    ∧ (∀ n, (u.sec n).ring = (s.sec n).ring ∧ (u.sec n).estimate = (s.sec n).estimate
        ∧ (u.sec n).settings = (s.sec n).settings)
    ∧ u.slots = s.slots ∧ u.coupler = s.coupler ∧ u.requests = s.requests ∧ u.ms = s.ms

/-- The ring after the entries `d` have departed from its head: the last of them gives the last count delivered, each value an
entry holds becomes the held one, and each count passed moves the index (R40, R44). -/
def Ring.afterDepartures (m : Nat) (r : Ring) (d rest : List RingEntry) : Ring :=
  d.foldl (fun r h =>
    { r with
      last := some h.count, heldU := (h.u.map RingValue.value).getD r.heldU, heldI := (h.i.map RingValue.value).getD r.heldI
      index := r.index + (h.count + m - r.last.getD 0 % m) % m }) { r with entries := rest }

/-- What the departure of one head entry delivers: fill pairs with the held values for a gap of 1 to 4 counts, the notice of a
longer gap, and then its pair, with the held value and a substitution mark for a value it lacks (R40 to R43). -/
def Ring.departureOf (m : Nat) (r : Ring) (h : RingEntry) : List Delivery :=
  let last := r.last.getD 0
  let g := (h.count + m - last % m) % m - 1
  let fill (k : Nat) : Delivery :=
    .pair { index := r.index + k, count := (last + 1 + k) % m, u := r.heldU, i := r.heldI, substU := true, substI := true }
  (if 4 < g then [.gap r.index g] else (List.range g).map fill)
    ++ [.pair { index := r.index + g, count := h.count, u := (h.u.map RingValue.value).getD r.heldU
                i := (h.i.map RingValue.value).getD r.heldI, substU := h.u.isNone, substI := h.i.isNone }]

/-- What the departures of the entries `d`, one after the other, deliver (R39, R40). -/
def Ring.departures (m : Nat) (r : Ring) : List RingEntry → List Delivery
  | [] => []
  | h :: d => r.departureOf m h ++ Ring.departures m (r.afterDepartures m [h] d) d

/-- Section sample indices that a delivery moves past (R44). -/
def Delivery.span : Delivery → Nat
  | .pair _ => 1
  | .gap _ g => g

/-- Grade threshold k of R67. -/
def SectionSettings.level (x : SectionSettings) (k : Nat) : Nat :=
  match k with
  | 1 => x.t1
  | 2 => x.t2
  | 3 => x.t3
  | 4 => x.t4
  | 5 => x.t5
  | 6 => x.t6
  | 7 => x.t7
  | _ => 0

end Sys2Proof.Machine
end

