-- ==== Sys2Proof/Certificates/Slice0/Obligations.lean ====
section
/-! DEFINITION. Certificates/Slice0/Obligations.lean: the statements about the part. Each docstring names the rules it
formalises. Where a statement says `conclude u`, the step's own effect is `u`, and `ConcludeFrame` says what the end of every
step adds; where it says `answer r x`, `ResponseOffered` says how the response leaves. A command of a request acts on the
request at the head of the request queue (notes/assumptions/3.md). -/

open Sys2Proof Sys2Proof.Machine

/-! ### Steps -/

/-- One step executes the command at the front of the queue with the queue's rest. -/
def Obligations.StepRunsFrontCommand : Prop :=
  ∀ (c : Instr) (rest : List Instr) (s : State),
    step { s with pending := c :: rest } = exec c { s with pending := rest }

/-- On an empty queue the part does what is due of itself, or lets a millisecond pass: the model's choice
(notes/assumptions/17.md). A request at the head is executed by the command of its kind (R171). -/
def Obligations.EmptyQueueStep : Prop :=
  ∀ s : State, s.pending = [] →
    (∀ i, s.ownCommand = some i → step s = exec i s)
    ∧ (s.ownCommand = none → s.live = true → step s = .next { s with ms := s.ms + 1 })
    ∧ (s.live = false → step s = .next s)
    ∧ (s.live = true → s.dueCommands = [] → ∀ r rest, s.requests = r :: rest →
        s.ownCommand = some (if r.unknown then .unknownRequest else requestCommand r.kind))

/-- Every command answers a next state in every state, and leaves the queue of waiting commands as it was. -/
def Obligations.EveryCommandCompletes : Prop :=
  ∀ (i : Instr) (s : State), ∃ t, exec i s = .next t ∧ t.pending = s.pending

/-- While RESET is held or the supply is out of range no frame, expiry or request changes anything, and a link report changes
the link state alone. R14 and R179 say that no frame is relayed or consumed and no request executed while RESET is held; that no
expiry acts and no received frame counts then, and the whole of the supply's case, are the model's choice
(notes/assumptions/5.md). -/
def Obligations.PartOutOfActionIsInert : Prop :=
  ∀ (i : Instr) (s : State), s.live = false →
    match i with
    | .linkLoss p => exec i s = .next (s.modPort p fun x => { x with link := .down })
    | .linkRestoration p => exec i s = .next (s.modPort p fun x => { x with link := .up })
    | .powerOn _ _ _ | .resetHeld | .resetRelease _ _ _ | .supplyOutOfRange => True
    | _ => exec i s = .next s

/-! ### Power, RESET and supply (R14, R33, R48, R70, R88, R106, R130, R149, R160, R170, R179, R183) -/

/-- What power-on and the release of a held RESET leave. That the fault records hold no onset index and no peak is the model's
choice (notes/assumptions/43.md). -/
def Obligations.PowerOnLeaves : Prop :=
  ∀ (straps : BitVec 4) (la lb : Link) (s : State), ∃ t,
    exec (.powerOn straps la lb) s = .next t
    ∧ (s.supplyOk = true → s.held = true → exec (.resetRelease straps la lb) s = .next t)
    ∧ t.pending = s.pending ∧ t.live = true ∧ t.station = straps ∧ t.ms = 0 ∧ t.requests = [] ∧ t.requestDrops = 0
    ∧ t.portA.link = la ∧ t.portB.link = lb
    ∧ (∀ p, (t.port p).tx = .idle ∧ (t.port p).forward = [] ∧ (t.port p).origin = []
        ∧ (t.port p).latch = ((t.port p).link == .down) ∧ (t.port p).framesIn = 0 ∧ (t.port p).framesInError = 0
        ∧ (t.port p).framesOut = 0 ∧ (t.port p).forwardDrops = 0 ∧ (t.port p).originDrops = 0
        ∧ (t.port p).unmatched = 0)
    ∧ (∀ i, t.slot i = Slot.fresh none) ∧ t.maskA = 0 ∧ t.maskB = 0
    ∧ t.nominal = .hz50 ∧ t.share = 128 ∧ t.couplerTimeout = 2000
    ∧ (∀ n, (t.sec n).state = .disabled ∧ (t.sec n).entryTime = 0 ∧ (t.sec n).inhibit.isEmpty = true
        ∧ (t.sec n).lastHalt = none ∧ (t.sec n).ring = Ring.cleared ∧ (t.sec n).engine = Engine.initial
        ∧ (t.sec n).estimate = Estimate.cleared ∧ (t.sec n).counter = 0 ∧ (t.sec n).decision = none
        ∧ (t.sec n).sup = Supervisor.initial ∧ (t.sec n).settings = SectionSettings.default)
    ∧ t.ret2 = .disabled
    ∧ (∀ c, t.coil c = Coil.initial [] CoilSettings.default none none [])
    ∧ t.coupler = Coupler.initial
    ∧ t.events.summary = [] ∧ t.events.level1 = none ∧ t.events.level2 = none ∧ t.events.alarm = .deasserted
    ∧ ∀ k, t.events.enabled k = (k != .windowRejected && k != .moveDone)

/-- While RESET is held the transmitters are idle, the forward queues empty and ALARM deasserted (R14, R165); a supply out of
range leaves ALARM without current (R183). That RESET_HELD changes nothing else, origin queues and counters included, is the
model's choice (notes/assumptions/22.md), and so is that SUPPLY_OUT_OF_RANGE keeps everything else (notes/assumptions/5.md). -/
def Obligations.ResetHeldAndSupplyLost : Prop :=
  ∀ s : State,
    (s.supplyOk = true →
      exec .resetHeld s = .next { s with
        held := true
        portA := { s.portA with tx := .idle, forward := [] }, portB := { s.portB with tx := .idle, forward := [] }
        events := { s.events with alarm := .deasserted } })
    ∧ exec .supplyOutOfRange s = .next { s with supplyOk := false }
    ∧ { s with supplyOk := false }.alarmSinks = false

/-! ### The port pair (chapter 1) -/

/-- The loss of a link: queues discarded and counted, latch set, LINK_DOWN raised (R10). -/
def Obligations.LinkLossDiscards : Prop :=
  ∀ (p : Port) (s : State), s.live = true → (s.port p).link = .up →
    ∃ u, exec (.linkLoss p) s = .next (conclude u)
      ∧ (u.port p).link = .down ∧ (u.port p).tx = .idle ∧ (u.port p).forward = [] ∧ (u.port p).origin = []
      ∧ (u.port p).latch = true
      ∧ (u.port p).forwardDrops = satAdd (s.port p).forwardDrops (s.port p).forwardLost
      ∧ satAdd (s.port p).originDrops (s.port p).originLost ≤ (u.port p).originDrops
      ∧ (u.port p).framesOut = (s.port p).framesOut
      ∧ .linkDown ∈ u.events.summary
      ∧ AgreeBeyondLinks { s with events := u.events } u ∧ u.coil1 = s.coil1 ∧ u.coil2 = s.coil2

/-- A completed transmission leaves its queue and counts in frames out (R9), and a drive record that waited for the place enters
(R7; that it enters at the end of the step is the model's choice, notes/assumptions/6.md); the return of a link changes the link
state alone, so that the latch stays and no event is raised (R11). -/
def Obligations.TransmissionCompletesAndLinkReturns : Prop :=
  ∀ (p : Port) (s : State), s.live = true →
    ((s.port p).tx ≠ .idle →
      let u := s.modPort p fun x => { x with tx := .idle, framesOut := satInc x.framesOut }
      exec (.transmitComplete p) s = .next (conclude u)
      ∧ ∀ c w rest, (s.coil c).waiting = w :: rest → c = .c1 ∨ s.coil1.waiting = [] → w.route = .one p →
          (s.port p).link = .up → (u.port p).originOccupancy < 8 →
          (w.tracked = true → recordMaySend c w.record.kind s = true) → (∀ y ∈ rest, y.tracked = false) →
          .record c w.tracked w.record ∈ ((conclude u).port p).origin
            ∨ ((conclude u).port p).tx = .origin (.record c w.tracked w.record) true)
    ∧ exec (.linkRestoration p) s = .next (conclude (s.modPort p fun x => { x with link := .up }))

/-- A received frame in error counts in two counters and is neither relayed nor consumed (R1). A request addressed to this unit
enters the request queue and is not relayed; at a full queue it is dropped and counted (R3, R171). -/
def Obligations.FramesNotRelayed : Prop :=
  ∀ (p : Port) (f : Frame) (s : State), s.live = true →
    (∀ lost : Bool, (lost = true ∨ (s.port p).link = .down ∨ frameBad f = true) →
      exec (.frameReceptionComplete p f lost) s = .next (conclude (s.modPort p fun x =>
        { x with framesIn := satInc x.framesIn, framesInError := satInc x.framesInError })))
    ∧ ((s.port p).link = .up → frameBad f = false → classify f = .request → s.addressed (messageOf f) = true →
      let s₁ := s.modPort p fun x => { x with framesIn := satInc x.framesIn }
      (s.requests.length < 4 →
        exec (.frameReceptionComplete p f false) s
          = .next (conclude { s₁ with requests := s.requests ++ [{ port := p, msg := messageOf f }] }))
      ∧ (4 ≤ s.requests.length →
        exec (.frameReceptionComplete p f false) s
          = .next (conclude { s₁ with requestDrops := satInc s.requestDrops })))

/-- Every good frame but a request addressed to this unit is relayed toward the other port: discarded and counted at a DOWN
link, placed at the tail of the forward queue with room, or dropped at a full one with FORWARD_DROP (R2, R3, R5, R11). Whatever
becomes of that copy, a frame of unknown kind counts as unmatched and a sample, state or drive status frame is offered to the
stream matcher (R2, R4); no other class does more. -/
def Obligations.OtherFramesRelayed : Prop :=
  ∀ (p : Port) (f : Frame) (s : State), s.live = true → (s.port p).link = .up → frameBad f = false →
    let s₁ := s.modPort p fun x => { x with framesIn := satInc x.framesIn }
    let u := s.relayed p f
    ((s.port p.other).link = .down →
      u = s₁.modPort p.other fun x => { x with forwardDrops := satInc x.forwardDrops })
    ∧ ((s.port p.other).link = .up → (s.port p.other).forwardOccupancy < 32 →
      u = s₁.modPort p.other fun x => { x with forward := x.forward ++ [f] })
    ∧ ((s.port p.other).link = .up → 32 ≤ (s.port p.other).forwardOccupancy →
      (u.port p.other).forwardDrops = satInc (s.port p.other).forwardDrops
        ∧ (u.port p.other).forward = (s.port p.other).forward ∧ (u.port p).forward = (s.port p).forward
        ∧ (u.port p).framesIn = satInc (s.port p).framesIn ∧ (u.port p).unmatched = (s.port p).unmatched
        ∧ .forwardDrop ∈ u.events.summary
        ∧ AgreeBeyondLinks { s with events := u.events } u ∧ u.coil1 = s.coil1 ∧ u.coil2 = s.coil2)
    ∧ (classify f = .unrecognised ∨ classify f = .own ∨ classify f = .request ∧ s.addressed (messageOf f) = false →
      exec (.frameReceptionComplete p f false) s = .next (conclude u))
    ∧ (classify f = .unknown →
      exec (.frameReceptionComplete p f false) s
        = .next (conclude (u.modPort p fun x => { x with unmatched := satInc x.unmatched })))
    ∧ (classify f = .sample ∨ classify f = .state ∨ classify f = .drive →
      exec (.frameReceptionComplete p f false) s
        = .next (conclude (offerToMatcher (classify f) p (messageOf f) u)))

/-- A frame of a consumed kind that no slot takes, or that ends before its stream tag, counts once in the unmatched counter
of its port and changes no slot (R4, R19, R180). -/
def Obligations.UntakenFrameCountsUnmatched : Prop :=
  ∀ (p : Port) (f : Frame) (s : State), s.live = true → (s.port p).link = .up → frameBad f = false →
    (classify f = .sample ∨ classify f = .state ∨ classify f = .drive) →
    (msgLength (messageOf f) < 8 ∨ s.taker (classify f) (streamTag (messageOf f)) = none) →
    ∃ u, exec (.frameReceptionComplete p f false) s = .next (conclude u)
      ∧ (u.port p).framesIn = satInc (s.port p).framesIn ∧ (u.port p).unmatched = satInc (s.port p).unmatched
      ∧ AgreeBeyondLinks { s with events := u.events } u ∧ u.coil1 = s.coil1 ∧ u.coil2 = s.coil2

/-! ### Stream table and rings (chapters 2 and 3) -/

/-- A frame that a slot takes is judged: malformed, or by its sample count or sequence number in sequence, repeated or
duplicate, a gap, or late, each with its counter, its error count and band, and its last count (R21, R22, R23, R24). A malformed,
duplicate or late frame hands nothing on, and neither does any frame that leaves its slot PASSIVE or OFF, whose values are neither
clamped nor counted (R27). A change of slot state raises STREAM_STATE, the passage of a slot from WARNING to PASSIVE raises
VOLTAGE_LOST for the section of each voltage binding, which halts, and a STATE slot that leaves ACTIVE and WARNING is reported
unavailable to the section controller (R24, R25, R30, R137; STREAM_STATE first, by notes/assumptions/25.md). -/
def Obligations.TakenFrameIsJudged : Prop :=
  ∀ (p : Port) (f : Frame) (s : State) (i : Fin 24) (d : SlotDef), Taking p f s i d →
    let m := messageOf f
    let x := s.slot i
    let worse := x.withErrors (min (x.errors + 8) 256)
    ∃ u, exec (.frameReceptionComplete p f false) s = .next (conclude u) ∧ (∀ j, j ≠ i → u.slot j = s.slot j)
      ∧ ((u.slot i).state ≠ x.state → .streamState ∈ u.events.summary)
      ∧ (malformedFor d.body s.nominal.modulus m = true →
          u.slot i = { worse with malformed := satInc x.malformed } ∧ HandsNothingOn s u)
      ∧ (malformedFor d.body s.nominal.modulus m = false → (∃ bs, d.body = .sample bs) →
          let c := sampleCount m
          let butFiled (y : Slot) : Slot := { y with
            late := (u.slot i).late, duplicates := (u.slot i).duplicates, saturated := (u.slot i).saturated }
          (x.last = none → u.slot i = butFiled (x.inSequence c))
          ∧ ∀ l, x.last = some l →
            (c = (l + 1) % s.nominal.modulus → u.slot i = butFiled (x.inSequence c))
            ∧ (c = l → u.slot i = butFiled x)
            ∧ (c ≠ l → c ≠ (l + 1) % s.nominal.modulus → u.slot i = butFiled (x.afterGap c)))
      ∧ (malformedFor d.body s.nominal.modulus m = false → (∀ bs, d.body ≠ .sample bs) →
          let c := sequenceNumber m
          (x.last = none → u.slot i = x.inSequence c)
          ∧ ∀ l, x.last = some l →
            let ahead := (c + 65536 - l % 65536) % 65536
            (ahead = 1 → u.slot i = x.inSequence c)
            ∧ (ahead = 0 → u.slot i = { x with duplicates := satInc x.duplicates } ∧ HandsNothingOn s u)
            ∧ (2 ≤ ahead → ahead ≤ 32768 → u.slot i = x.afterGap c)
            ∧ (32768 < ahead →
                u.slot i = { worse with late := satInc x.late, last := some c } ∧ HandsNothingOn s u))
      ∧ ((u.slot i).state = .passive ∨ (u.slot i).state = .off →
          HandsNothingOn s u
            ∧ ((∃ bs, d.body = .sample bs) → (u.slot i).late = x.late ∧ (u.slot i).duplicates = x.duplicates
                ∧ (u.slot i).saturated = x.saturated))
      ∧ (∀ k, d.body = .state k → x.state = .active ∨ x.state = .warning →
          (u.slot i).state = .passive ∨ (u.slot i).state = .off →
          u = reportAvailability false ((s.relayed p f).countSlot i (u.slot i)))
      ∧ (x.state = .warning → (u.slot i).state = .passive → ∀ bs, d.body = .sample bs → ∀ b ∈ bs, b.role = .voltage →
          (s.sec b.sec).state ≠ .disabled →
          .voltageLost ∈ u.events.summary
            ∧ ((s.sec b.sec).state.active = true →
                (u.sec b.sec).state = .halted ∧ (u.sec b.sec).entryTime = s.ms
                  ∧ (u.sec b.sec).lastHalt = some { kind := .voltageLost, obj := .busSection b.sec, time := s.ms }))

/-- A sample that its slot, ACTIVE or WARNING after it, judges in sequence, a repeat or a gap is filed, binding by binding, in
the rings of the bindings' sections: a valid value clamped, an absent one as none (R22, R24, R27, R28, R37). While no section
passes RECOVERY in no time, no section starts on the way and the rings hold what was filed: a hold-off that reaches
RECOVERY_CYCLES within the frame waits for HOLD_OFF_RUN_OUT, which is the model's choice, notes/assumptions/8.md. A single
binding's value counts as LATE, DUPLICATE or saturated in its slot, and what its ring lets go is delivered to its section (R29,
R41; that the record is filed before a start which its own delivery causes is the model's choice, notes/assumptions/38.md);
while the section's consumers are idle nothing else of the section changes (R48). -/
def Obligations.SampleReachesItsRing : Prop :=
  ∀ (p : Port) (f : Frame) (s : State) (i : Fin 24) (d : SlotDef) (bs : List Binding) (x : Slot), Taking p f s i d →
    d.body = .sample bs → malformedFor d.body s.nominal.modulus (messageOf f) = false →
    (x.state = .active ∨ x.state = .warning) →
    let m := messageOf f
    let c := sampleCount m
    (((s.slot i).last = none ∨ ∃ l, (s.slot i).last = some l ∧ c = (l + 1) % s.nominal.modulus)
        ∧ x = (s.slot i).inSequence c
      ∨ (s.slot i).last = some c ∧ x = s.slot i
      ∨ (∃ l, (s.slot i).last = some l ∧ c ≠ l ∧ c ≠ (l + 1) % s.nominal.modulus) ∧ x = (s.slot i).afterGap c) →
    let clamped (b : Binding) := max (-8388607) (min (channelValue m b.channel) 8388607)
    let record (b : Binding) : ValueRecord :=
      { role := b.role, count := c, slot := i,
        value := if channelValid m b.channel = true then some (clamped b) else none }
    let filed (r : Ring) (b : Binding) := Ring.file s.nominal.modulus r (record b)
    ((∀ n, (s.sec n).settings.recoveryCycles ≠ 0) →
      ∃ u, exec (.frameReceptionComplete p f false) s = .next (conclude u)
        ∧ ∀ n, (u.sec n).ring = (bs.filter fun b => b.sec == n).foldl (fun r b => (filed r b).ring) (s.sec n).ring)
    ∧ ∀ b, bs = [b] →
      let g := filed (s.sec b.sec).ring b
      let y : Slot := { x with
        late := if g.report = .late then satInc x.late else x.late
        duplicates := if g.report = .duplicate then satInc x.duplicates else x.duplicates
        saturated := if channelValid m b.channel = true ∧ clamped b ≠ channelValue m b.channel then satInc x.saturated
                     else x.saturated }
      exec (.frameReceptionComplete p f false) s = .next (conclude (deliver b.sec g.out
        (((((s.relayed p f).countSlot i x).setSlot i y).modSec b.sec) fun z => { z with ring := g.ring })))
      ∧ ((s.sec b.sec).engine.state = .off → (s.sec b.sec).sup.phase = .idle →
        ∃ u, exec (.frameReceptionComplete p f false) s = .next (conclude u)
          ∧ u.slot i = y ∧ u.sec b.sec = { (s.sec b.sec) with ring := g.ring }
          ∧ (∀ n, n ≠ b.sec → u.sec n = s.sec n) ∧ ∀ j, j ≠ i → u.slot j = s.slot j)

/-- A well-formed state or drive status frame that its slot, ACTIVE or WARNING after it, judges in sequence or a gap is
distributed: its coupler point to the section controller, its status record to the drive link of its coil. A STATE slot that the
frame brings back to ACTIVE or WARNING is reported available first (R23, R27, R30, R31). -/
def Obligations.StatusFramesReachTheirUsers : Prop :=
  ∀ (p : Port) (f : Frame) (s : State) (i : Fin 24) (d : SlotDef) (x : Slot), Taking p f s i d →
    malformedFor d.body s.nominal.modulus (messageOf f) = false →
    (x.state = .active ∨ x.state = .warning) →
    let m := messageOf f
    let c := sequenceNumber m
    (((s.slot i).last = none ∨ ∃ l, (s.slot i).last = some l ∧ c = (l + 1) % 65536) ∧ x = (s.slot i).inSequence c
      ∨ (∃ l, (s.slot i).last = some l ∧ 2 ≤ (c + 65536 - l % 65536) % 65536 ∧ (c + 65536 - l % 65536) % 65536 ≤ 32768)
        ∧ x = (s.slot i).afterGap c) →
    let v := (s.relayed p f).countSlot i x
    (∀ k w, d.body = .state k → couplerOf (pointValue m k) = some w →
      ((s.slot i).state = .active ∨ (s.slot i).state = .warning →
        exec (.frameReceptionComplete p f false) s = .next (conclude (couplerValue w v)))
      ∧ ((s.slot i).state = .passive ∨ (s.slot i).state = .off →
        exec (.frameReceptionComplete p f false) s = .next (conclude (couplerValue w (reportAvailability true v)))))
    ∧ ∀ k, d.body = .drive k →
      ∃ r : StatusRecord, r.pos = fieldNat m 10 2 ∧ motionOf (fieldNat m 12 1) = some r.motion
        ∧ r.lower = (fieldNat m 13 1).testBit 0 ∧ r.upper = (fieldNat m 13 1).testBit 1
        ∧ injectionOf (fieldNat m 14 1) = some r.injection ∧ r.echo = (fieldNat m 15 1).testBit 0 ∧ r.port = p
        ∧ exec (.frameReceptionComplete p f false) s = .next (conclude (treatStatus k r v))

/-- A value record keeps the form of its ring, and the section sample index moves on by what is delivered (R34 to R44). An absent
value changes nothing; a value at or before the last count delivered is LATE and one whose role its entry holds is DUPLICATE, and
neither changes the ring; a value for an entry that lacks it is placed there, and every complete entry at the head departs; a
value for a new count takes its place in a ring with room; and in a full one the head first departs incomplete, with every
complete entry behind it, and the value is filed again (R36 to R40, R42, R43). -/
def Obligations.RingFilesAndDelivers : Prop :=
  ∀ (q : Nominal) (r : Ring) (x : ValueRecord), r.wf q.modulus → x.count < q.modulus →
    let m := q.modulus
    let f := r.file m x
    let last := r.last.getD ((x.count + m - 1) % m)
    let ahead := (x.count + m - last) % m
    let holds (e : RingEntry) : Bool := match x.role with | .voltage => e.u.isSome | .current => e.i.isSome
    let r₁ : Ring := { r with last := some last }
    let heads (d rest es : List RingEntry) : Prop :=
      es = d ++ rest ∧ (∀ e ∈ rest.head?, e.u = none ∨ e.i = none)
    f.ring.wf m ∧ f.ring.index = r.index + (f.out.map Delivery.span).sum
    ∧ (x.value = none → f = { ring := r, out := [], report := .none })
    ∧ ∀ v, x.value = some v →
      let w : RingValue := { value := v, slot := x.slot }
      let placed (e : RingEntry) : RingEntry := match x.role with
        | .voltage => { e with u := some w }
        | .current => { e with i := some w }
      (ahead = 0 ∨ m / 2 < ahead → f = { ring := r, out := [], report := .late })
      ∧ (∀ e ∈ r.entries, e.count = x.count → holds e = true → f = { ring := r, out := [], report := .duplicate })
      ∧ (∀ e ∈ r.entries, e.count = x.count → holds e = false →
          ∃ d rest, heads d rest (r.entries.map fun y => if y.count = x.count then placed y else y)
            ∧ (∀ y ∈ d, y.u.isSome = true ∧ y.i.isSome = true)
            ∧ f = { ring := r.afterDepartures m d rest, out := r.departures m d, report := .none })
      ∧ (1 ≤ ahead → ahead ≤ m / 2 → (∀ e ∈ r.entries, e.count ≠ x.count) →
          (r.entries.length < 16 →
            f.out = [] ∧ f.report = .none ∧ f.ring = { r₁ with entries := f.ring.entries }
              ∧ ∀ e, e ∈ f.ring.entries ↔ e ∈ r.entries ∨ e = placed { count := x.count, u := none, i := none })
          ∧ (r.entries.length = 16 →
            ∃ h d rest, heads (h :: d) rest r.entries ∧ (∀ y ∈ d, y.u.isSome = true ∧ y.i.isSome = true)
              ∧ f = { (r.afterDepartures m (h :: d) rest).file m x with
                  out := r.departures m (h :: d) ++ ((r.afterDepartures m (h :: d) rest).file m x).out }))

/-! ### Windows, estimates and targets (chapters 4 to 6) -/

/-- What a section's window engine does with what its ring delivers: OFF takes nothing; the first pair once the engine is ready
starts nothing; a boundary at which the counted coils rest and the injecting drive reports the code starts a window, or counts
one off the settle count; every other pair in WAIT is passed over; a pair in RUN adds to the four sums; the last one completes
the window; and a gap discards it (R51, R54, R56 to R60, R62, R65). A pair reaches the window engine and then the supervisor, and
deliveries follow in order, but for those of a ring that a start has cleared on the way (R41, R46; that the engine comes first,
and that a start ends the deliveries, are the model's choices, notes/assumptions/9.md and 21.md). -/
def Obligations.WindowEngineTakesPairs : Prop :=
  ∀ (n : SecId) (p : Pair) (s : State),
    let x := s.sec n
    let g := x.engine
    let t := engineTakes n p s
    let len := if 0 < g.quick ∨ x.settings.windowCycles < 16 then 8 else if x.settings.windowCycles < 32 then 16 else 32
    let boundary := p.index % (80 * len) = 0
    let atRest := ∀ c ∈ s.drives n, ∃ r, (s.coil c).reported = some r ∧ r.motion = .still ∧ (s.coil c).move = none
      ∧ (s.coil c).pendMove = none
    let injected := ∃ c r, s.injector n = some c ∧ (s.coil c).reported = some r
      ∧ r.injection = some x.settings.injectionCode
    let counted (c : CoilId) : Option Nat := if c ∈ s.drives n then (s.coil c).reported.map Reported.pos else none
    let started : Window :=
      { start := p.index, w := len, j := x.settings.injectionCode, taken := 1, auRe := p.u * 32767, auIm := 0,
        aiRe := p.i * 32767, aiIm := 0, subst := if p.substU = true ∨ p.substI = true then 1 else 0, pos1 := counted .c1,
        pos2 := counted .c2 }
    (g.state = .off → t = s)
    ∧ (g.state = .wait → g.firstPair = false → t = s.setEngine n { g with firstPair := true })
    ∧ (g.state = .wait → g.firstPair = true →
      (¬ (boundary ∧ atRest ∧ injected) → t = s)
      ∧ (boundary → atRest → injected → 0 < g.settle → t = s.setEngine n { g with settle := g.settle - 1 })
      ∧ (boundary → atRest → injected → g.settle = 0 → t = s.setEngine n { g with state := .run started }))
    ∧ (∀ w, g.state = .run w →
      let k := w.j * w.taken % 640
      let w' : Window := { w with
        taken := w.taken + 1, auRe := w.auRe + p.u * cosRef k, auIm := w.auIm - p.u * cosRef ((k + 480) % 640)
        aiRe := w.aiRe + p.i * cosRef k, aiIm := w.aiIm - p.i * cosRef ((k + 480) % 640)
        subst := w.subst + if p.substU = true ∨ p.substI = true then 1 else 0 }
      (w.taken + 1 ≠ 80 * w.w → t = s.setEngine n { g with state := .run w' })
      ∧ (w.taken + 1 = 80 * w.w → t = completeWindow n w' s))
    ∧ (∀ first count, ((deliver n [.gap first count] s).sec n).engine = match g.state with
        | .off => g
        | .wait => g
        | .run w => { g with
            state := .wait, firstPair := false, discarded := satInc g.discarded
            outcome := some { result := .discarded .gap, start := w.start, w := w.w, taken := w.taken, subst := w.subst,
                              phasors := none } })
    ∧ deliver n [.pair p] s = supervisorTakes n p t
    ∧ ∀ q ds, deliver n (q :: ds) s =
        if ((deliver n [q] s).sec n).ring.last = none then deliver n [q] s else deliver n ds (deliver n [q] s)

/-- The grade of a window (R67), with (Tk - H) taken as 0 when it is below 0. -/
def Obligations.GradeRule : Prop :=
  ∀ (x : SectionSettings) (g : Nat) (d : Int), g ≤ 7 →
    let reaches (k : Nat) := ((x.level k * x.level k : Nat) : Int) ≤ d
    let holds (k : Nat) := (((x.level k - x.hysteresis) * (x.level k - x.hysteresis) : Nat) : Int) ≤ d
    ∃ up, up ≤ 7 ∧ (up = 0 ∨ reaches up) ∧ (∀ k, 1 ≤ k → k ≤ 7 → reaches k → k ≤ up)
      ∧ (g ≤ up → gradeOf x g d = up)
      ∧ (up < g → gradeOf x g d ≤ g ∧ (gradeOf x g d = 0 ∨ holds (gradeOf x g d))
          ∧ ∀ k, 1 ≤ k → k ≤ g → holds k → k ≤ gradeOf x g d)

/-- A window with its last pair: phasors, D and grade are formed, the engine waits, and the first check of R61 that fails, or a
raw susceptance outside its range, rejects the window with WINDOW_REJECTED and its reason; the run of rejections that reaches
REJECT_LIMIT raises MEASURE_LOST, which halts an active section. Otherwise the window is accepted into the estimate and counts,
a first estimate takes MEASURING to TRACKING, and the target calculator takes the window (R60, R61, R62, R72 to R75, R80 to
R83). -/
def Obligations.WindowCompletes : Prop :=
  ∀ (n : SecId) (w : Window) (s : State),
    let x := s.sec n
    let y := x.settings
    let part (a : Int) := roundDiv (2 * a) (80 * w.w * 32767)
    let uRe := part w.auRe
    let uIm := part w.auIm
    let iRe := part w.aiRe
    let iIm := part w.aiIm
    let d := uRe * uRe + uIm * uIm
    let grade := gradeOf y x.engine.grade d
    let why : Option RejectReason :=
      if d = 0 then some .noResponse
      else if iRe * iRe + iIm * iIm < (y.iMin * y.iMin : Nat) then some .noInjection
      else if grade < y.minGrade then some .lowGrade
      else if y.substLimit < w.subst then some .substituted
      else none
    let ended (r : WindowResult) : Engine := { x.engine with
      state := .wait, firstPair := true, grade := grade, worst := min x.engine.worst grade
      outcome := some { result := r, start := w.start, w := w.w, taken := w.taken, subst := w.subst,
                        phasors := some { uRe := uRe, uIm := uIm, iRe := iRe, iIm := iIm, d := d, grade := grade } } }
    let t := completeWindow n w s
    let rejected (q : RejectReason) (r : Estimate) : Prop :=
      let r' : Estimate := { r with run := min (r.run + 1) 255, reason := some q }
      .windowRejected ∈ t.events.summary
      ∧ (min (r.run + 1) 255 ≠ y.rejectLimit →
        t.sec n = { x with estimate := r'
                           engine := { ended (.rejected q) with rejected := satInc x.engine.rejected } }
        ∧ (∀ m, m ≠ n → t.sec m = s.sec m) ∧ t.coil1 = s.coil1 ∧ t.coil2 = s.coil2
        ∧ AgreeBeyondLinks { s with sec1 := t.sec1, sec2 := t.sec2, events := t.events } t)
      ∧ (min (r.run + 1) 255 = y.rejectLimit →
        .measureLost ∈ t.events.summary ∧ (t.sec n).estimate = r'
        ∧ (x.state.active = true →
          (t.sec n).state = .halted ∧ (t.sec n).entryTime = s.ms ∧ (t.sec n).engine.state = .off
            ∧ (t.sec n).lastHalt = some { kind := .measureLost, obj := .busSection n, time := s.ms } ∧ Silenced n s t))
    (∀ q, why = some q → rejected q x.estimate)
    ∧ (why = none →
      let re := roundDiv (100000 * (iRe * uRe + iIm * uIm)) d
      let im := roundDiv (100000 * (iIm * uRe - iRe * uIm)) d
      let r : Estimate := { x.estimate with lastReY := some re, lastImY := some im }
      let b₁ := recordedSusceptance s.coil1.table w.pos1
      let b₂ := recordedSusceptance s.coil2.table w.pos2
      (b₁ = none ∨ b₂ = none → rejected .estimateRange { r with lastBL := none })
      ∧ ∀ a b, b₁ = some a → b₂ = some b →
        let v := roundDiv (8 * (w.j : Int) * im + 64 * (a + b)) ((w.j : Int) * w.j)
        let r := { r with lastBL := some (a + b), lastX := some v }
        (v < 100 ∨ 1000000 < v → rejected .estimateRange r)
        ∧ (100 ≤ v → v ≤ 1000000 →
          let r' := r.accept y s.ms re v
          ∃ u e k, r'.e = some e ∧ r'.kind = some k ∧ t = targetTakes n k e u
            ∧ u.sec n = { x with
                estimate := r'
                engine := { ended .accepted with
                  accepted := satInc x.engine.accepted
                  quick := if k = .step then y.quickWindows else x.engine.quick - 1 }
                state := if k = .first ∧ x.state = .measuring then .tracking else x.state
                entryTime := if k = .first ∧ x.state = .measuring then s.ms else x.entryTime
                sup := (u.sec n).sup }
            ∧ (∀ m, m ≠ n → (s.sec m).agreesButSup (u.sec m)) ∧ u.coil1 = s.coil1 ∧ u.coil2 = s.coil2
            ∧ (k = .step → .stepDetected ∈ u.events.summary) ∧ (k ≠ .step → u.events = s.events)
            ∧ AgreeBeyondLinks { s with sec1 := u.sec1, sec2 := u.sec2, events := u.events } u))

/-- The estimate an accepted window leaves lies in the range of R75: FIRST and STEP take the raw value itself, and any other
moves by the rounded filter step; damping, run and counts follow (R76 to R79, R81). -/
def Obligations.AcceptedEstimate : Prop :=
  ∀ (y : SectionSettings) (r : Estimate) (now : Time) (re x : Int), 100 ≤ x → x ≤ 1000000 →
    (∀ e ∈ r.e, 100 ≤ e ∧ e ≤ 1000000) →
    let t := r.accept y now re x
    ∃ e, t.e = some e ∧ 100 ≤ e ∧ e ≤ 1000000 ∧ t.run = 0 ∧ t.time = now ∧ t.g = some re
      ∧ t.d = some (roundDiv (1000 * re) e) ∧ t.accepted = min (r.accepted + 1) 65535
      ∧ t.steps = (if t.kind = some .step then min (r.steps + 1) 65535 else r.steps)
      ∧ t.lastX = r.lastX ∧ t.lastReY = r.lastReY ∧ t.lastImY = r.lastImY ∧ t.lastBL = r.lastBL ∧ t.reason = r.reason
      ∧ (r.e = none → e = x ∧ t.kind = some .first)
      ∧ ∀ e₀, r.e = some e₀ →
        (0 < y.stepThreshold → y.stepThreshold ≤ (x - e₀).natAbs → e = x ∧ t.kind = some .step)
        ∧ (y.stepThreshold = 0 ∨ (x - e₀).natAbs < y.stepThreshold →
          t.kind = some .filtered ∧ e = e₀ + roundDiv (x - e₀) (2 ^ y.filterDepth : Nat)
            ∧ min e₀ x ≤ e ∧ e ≤ max e₀ x)

/-- The forward lookup (R92), over every table that holds points in the order of R89 and over the empty one; the inverse lookup
(R93): position and limit, the position within the table range; and the split of a target susceptance: SHARE parts it where both
parts lie within their spans, both shares lie within their spans, the sum is kept, and a residue is left only where the coils
together cannot present the target, with the sign of the shortfall (R101). -/
def Obligations.TableLookupsAndSplit : Prop :=
  forwardLookup [] = (fun _ => none)
  ∧ (∀ (t : List TablePoint) (x y : TablePoint), tableLegal t → t.head? = some x → t.getLast? = some y →
    (∀ p : Nat,
      (p ≤ x.pos → forwardLookup t p = some (x.b : Int))
      ∧ (y.pos ≤ p → forwardLookup t p = some (y.b : Int))
      ∧ (∀ k a b, t[k]? = some a → t[k + 1]? = some b → a.pos ≤ p → p < b.pos →
          forwardLookup t p
            = some (a.b + roundDiv (((p : Int) - a.pos) * ((b.b : Int) - a.b)) ((b.pos : Int) - a.pos)))
      ∧ ∃ v, forwardLookup t p = some v ∧ (x.b : Int) ≤ v ∧ v ≤ y.b)
    ∧ ∀ v : Int,
      (v ≤ x.b → inverseLookup t v = some (x.pos, true))
      ∧ (y.b ≤ v → inverseLookup t v = some (y.pos, true))
      ∧ (∀ k a b, t[k]? = some a → t[k + 1]? = some b → (x.b : Int) < v → (a.b : Int) ≤ v → v < b.b →
          ∃ q, inverseLookup t v = some (q, false) ∧ a.pos ≤ q ∧ q ≤ b.pos
            ∧ (q : Int) = a.pos + roundDiv ((v - a.b) * ((b.pos : Int) - a.pos)) ((b.b : Int) - a.b)))
  ∧ ∀ (t₁ t₂ : List TablePoint) (a₁ z₁ a₂ z₂ : TablePoint) (share : Nat) (v : Int),
    tableEnds t₁ = some (a₁, z₁) → tableEnds t₂ = some (a₂, z₂) → a₁.b ≤ z₁.b → a₂.b ≤ z₂.b →
    let r := splitTarget t₁ t₂ share v
    let b := roundDiv (v * share) 256
    (a₁.b : Int) ≤ r.1 ∧ r.1 ≤ z₁.b ∧ (a₂.b : Int) ≤ r.2.1 ∧ r.2.1 ≤ z₂.b ∧ r.1 + r.2.1 = v - r.2.2
      ∧ ((a₁.b : Int) ≤ b → b ≤ z₁.b → (a₂.b : Int) ≤ v - b → v - b ≤ z₂.b → r = (b, v - b, 0))
      ∧ ((a₁.b : Int) + a₂.b ≤ v → v ≤ (z₁.b : Int) + z₂.b → r.2.2 = 0)
      ∧ ((z₁.b : Int) + z₂.b < v → 0 < r.2.2) ∧ (v < (a₁.b : Int) + a₂.b → r.2.2 < 0)

/-- The decision counter and the decision: a FILTERED window short of DECISION_INTERVAL only counts; any other takes a decision
and clears the counter. Inside the deadband nothing is formed; outside it the target susceptance, the split, the positions and
the limit are formed, TARGET_LIMITED is raised where limited, and an uninhibited decision asks for a move of each coil whose
position differs from its present aim (R95, R96, R99 to R105). That a coil without a reported position or a table point counts
with position 0 and susceptance 0 is the model's choice (notes/assumptions/29.md). -/
def Obligations.DecisionsAreTaken : Prop :=
  ∀ (n : SecId) (k : UpdateKind) (e : Int) (s : State), n = .s1 ∨ s.joined = false →
    let x := s.sec n
    let t := targetTakes n k e s
    (k = .filtered → x.counter + 1 < x.settings.decisionInterval →
      t = s.modSec n fun y => { y with counter := x.counter + 1 })
    ∧ (k ≠ .filtered ∨ x.settings.decisionInterval ≤ x.counter + 1 →
      let now (c : CoilId) : Int :=
        (forwardLookup (s.coil c).table (match (s.coil c).reported with | some r => r.pos | none => 0)).getD 0
      let bL := ((s.drives n).map now).sum
      let v := roundDiv (1000 * (e - bL)) e
      let base : Decision :=
        { time := s.ms, trigger := match k with | .first => .first | .step => .step | .filtered => .count
          joined := s.joined, e := e, bLnow := bL, vNow := v, outcome := .inBand, bT := none, split := none, pos1 := none,
          pos2 := none, req1 := false, req2 := false, limited := false }
      ((v - x.settings.detuningSet).natAbs ≤ x.settings.deadband →
        t = s.modSec n fun y => { y with counter := 0, decision := some base })
      ∧ (x.settings.deadband < (v - x.settings.detuningSet).natAbs →
        let bT := roundDiv (e * (1000 - x.settings.detuningSet)) 1000
        let q := inverseLookup (s.coil n.coil).table bT
        let r := splitTarget s.coil1.table s.coil2.table s.share bT
        ∃ z : Decision, t.sec n = { x with counter := 0, decision := some z }
          ∧ z = { base with outcome := z.outcome, bT := some bT, split := z.split, pos1 := z.pos1, pos2 := z.pos2,
                            req1 := z.req1, req2 := z.req2, limited := z.limited }
          ∧ (s.joined = false → z.split = none ∧ (z.limited = true ↔ ∃ p, q = some (p, true))
              ∧ z.pos1 = (if n = .s1 then q.map Prod.fst else none)
              ∧ z.pos2 = (if n = .s2 then q.map Prod.fst else none))
          ∧ (s.joined = true → z.split = some r ∧ (z.limited = true ↔ r.2.2 ≠ 0)
              ∧ z.pos1 = (inverseLookup s.coil1.table r.1).map Prod.fst
              ∧ z.pos2 = (inverseLookup s.coil2.table r.2.1).map Prod.fst)
          ∧ (z.limited = true → .targetLimited ∈ t.events.summary) ∧ (z.limited = false → t.events = s.events)
          ∧ AgreeBeyondLinks { s with sec1 := t.sec1, sec2 := t.sec2, events := t.events } t
          ∧ (∀ m, m ≠ n → t.sec m = s.sec m)
          ∧ (x.inhibit.isEmpty = false → z.outcome = .inhibited ∧ z.req1 = false ∧ z.req2 = false)
          ∧ (x.inhibit.isEmpty = true →
              (z.req1 = true ↔ ∃ p, z.pos1 = some p ∧ p ≠ s.coil1.aim)
              ∧ (z.req2 = true ↔ ∃ p, z.pos2 = some p ∧ p ≠ s.coil2.aim)
              ∧ z.outcome = (if z.req1 = true ∨ z.req2 = true then .move else .noChange))
          ∧ (z.req1 = false → t.coil1 = s.coil1) ∧ (z.req2 = false → t.coil2 = s.coil2)
          ∧ (∀ p, z.req1 = true → z.pos1 = some p → s.coil1.takesRequests = true → x.state = .tracking →
              inTableRange s.coil1.table p = true → MovePlaced .c1 p .automatic t)
          ∧ (∀ p, z.req2 = true → z.pos2 = some p → s.coil2.takesRequests = true → x.state = .tracking →
              inTableRange s.coil2.table p = true → MovePlaced .c2 p .automatic t)))

/-! ### The coil drive link (chapter 7) -/

/-- A pending item becomes the record in flight only under its send condition (R113). -/
def Obligations.SendConditionGuardsRecords : Prop :=
  ∀ (c : CoilId) (s : State) (f : InFlight), (s.coil c).inFlight = none → ((takePending c s).coil c).inFlight = some f →
    (s.coil c).failed = false ∧ (s.coil c).toggle.isSome = true
    ∧ (f.record.kind = .stop → (s.coil c).pendStop = true)
    ∧ (f.record.kind = .injectOff → (s.coil c).pendInj = some .off)
    ∧ (∀ j, f.record.kind = .injectOn j →
        (s.coil c).pendInj = some (.on j)
          ∧ ((s.sec c.sec).state = .starting ∨ (s.sec c.sec).state = .measuring ∨ (s.sec c.sec).state = .tracking))
    ∧ (∀ p, f.record.kind = .moveTo p →
        (s.coil c).move = none ∧ inTableRange (s.coil c).table p = true
          ∧ (((s.coil c).pendMove = some { target := p, origin := .automatic }
                ∧ (s.sec (s.driver c)).state = .tracking ∧ (s.sec (s.driver c)).inhibit.isEmpty = true)
              ∨ ((s.coil c).pendMove = some { target := p, origin := .manual }
                ∧ (s.sec (s.driver c)).state = .disabled)))

/-- The echo of a record's toggle accepts it, with the effect of its kind; any other echo changes nothing (R110, R114). While the
confirmation timer runs, a report of ON with its code confirms the injection and takes STARTING to MEASURING, and no other report
does (R121, R135). A held injection that a report contradicts is lost, and MEASURING or TRACKING returns to STARTING with the
pending targets cleared (R122, R135, R136). -/
def Obligations.EchoAccepts : Prop :=
  (∀ (c : CoilId) (e : Bool) (s : State) (f : InFlight), (s.coil c).inFlight = some f →
    let t := testAcceptance c e s
    (f.record.toggle ≠ e → t = s)
    ∧ (f.record.toggle = e →
      (t.coil c).inFlight = none ∧ (t.coil c).acceptTimer = none
      ∧ (∀ p m, f.record.kind = .moveTo p → (s.coil c).move = some m →
          (t.coil c).move = some { m with accepted := some s.ms }
            ∧ (t.coil c).moveTimer = some (s.ms + span (moveLimit (s.coil c).settings m)))
      ∧ (f.record.kind = .stop → (t.coil c).move = none)
      ∧ (∀ j, f.record.kind = .injectOn j →
          (t.coil c).confirmTimer = some { code := j, due := s.ms + span (s.coil c).settings.acceptTimeout })
      ∧ (f.record.kind = .injectOff → (t.coil c).heldInj = .off)))
  ∧ (∀ (c : CoilId) (r : StatusRecord) (s : State) (f : Confirmation), (s.coil c).confirmTimer = some f →
    let t := testConfirmed c r s
    (r.injection = some f.code →
      (t.coil c).heldInj = .on f.code ∧ (t.coil c).confirmTimer = none
        ∧ (t.sec c.sec).state = if (s.sec c.sec).state = .starting then .measuring else (s.sec c.sec).state)
    ∧ (r.injection ≠ some f.code → t = s))
  ∧ ∀ (c : CoilId) (r : StatusRecord) (s : State) (j : Nat), (s.coil c).heldInj = .on j →
    let t := testLost c r s
    (r.injection = some j → t = s)
    ∧ (r.injection ≠ some j →
      ((s.sec c.sec).state.measures = false → t = s.modCoil c fun k => { k with heldInj := .off })
      ∧ ((s.sec c.sec).state.measures = true →
        (t.sec c.sec).state = .starting ∧ (t.sec c.sec).ring = Ring.cleared ∧ .injectionLost ∈ t.events.summary
          ∧ (∀ i, (t.coil c).heldInj ≠ .on i) ∧ ∀ c' ∈ s.drives c.sec, (t.coil c').pendMove = none))

/-- A status record updates the reported state and the arrival port of its coil; a FAILED coil takes nothing else from it (R8,
R31, R110, R124, R125; that no window ends by it is the model's choice, notes/assumptions/39.md). From any other coil it ends a
window in flight: with cause MOTION where the coil is counted and moves or stands elsewhere (R63), and with cause INJECTION
where the injecting drive no longer injects the window's code (R64; MOTION where both hold is the model's choice,
notes/assumptions/33.md). It then tests the record in flight for acceptance; after that, HALTED_FAULT fails the coil with
DRIVE_FAULTED, and an end-stop during a move to a target strictly inside the table range with END_STOP (R120); any other record
is tested for arrival, for confirmation and for loss of injection, and pending work is taken (R124 steps 3 to 7). -/
def Obligations.StatusIsReported : Prop :=
  ∀ (c : CoilId) (r : StatusRecord) (s : State),
    let t := treatStatus c r s
    (t.coil c).reported = some { pos := r.pos, motion := r.motion, lower := r.lower, upper := r.upper,
                                 injection := r.injection, echo := r.echo, time := s.ms }
    ∧ (t.coil c).arrival = some r.port
    ∧ ((s.coil c).failed = true →
        (t.coil c).toggle = some ((s.coil c).toggle.getD r.echo) ∧ (t.coil c).failed = true
          ∧ t.events = s.events ∧ t.sec1 = s.sec1 ∧ t.sec2 = s.sec2 ∧ t.portA = s.portA ∧ t.portB = s.portB)
    ∧ ((s.coil c).failed = false →
        let k : Coil := { s.coil c with
          reported := some { pos := r.pos, motion := r.motion, lower := r.lower, upper := r.upper,
                             injection := r.injection, echo := r.echo, time := s.ms }
          arrival := some r.port, toggle := some ((s.coil c).toggle.getD r.echo), silenceTimer := none }
        let u := testAcceptance c r.echo
          (engineSeesStatus .s2 c r (engineSeesStatus .s1 c r (s.modCoil c fun _ => k)))
        let ended (m : Move) := (r.lower = true ∨ r.upper = true)
          ∧ ∃ x y, (s.coil c).table.head? = some x ∧ (s.coil c).table.getLast? = some y ∧ x.pos < m.target ∧ m.target < y.pos
        (r.motion = .haltedFault → FailedWith .driveFaulted c u t)
        ∧ (r.motion ≠ .haltedFault → (∃ m, (u.coil c).move = some m ∧ ended m) → FailedWith .endStop c u t)
        ∧ (r.motion ≠ .haltedFault → (∀ m, (u.coil c).move = some m → ¬ ended m) →
          t = takePending c (testLost c r (testConfirmed c r (testArrival c r u)))))
    ∧ ∀ n w, (s.coil c).failed = false → (s.sec n).engine.state = .run w →
        let moved := c ∈ s.drives n ∧ (r.motion ≠ .still ∨ w.posOf c ≠ some r.pos)
        let discarded (cause : DiscardCause) : Prop :=
          (t.sec n).engine.window = none
          ∧ ((t.sec n).state ≠ .starting →
            (t.sec n).engine.discarded = satInc (s.sec n).engine.discarded
            ∧ (t.sec n).engine.outcome = some { result := .discarded cause, start := w.start, w := w.w, taken := w.taken,
                                                subst := w.subst, phasors := none })
        (moved → discarded .motion)
        ∧ (¬ moved → s.injector n = some c → r.injection ≠ some w.j → discarded .injection)

/-- Arrival ends the move with MOVE_DONE and resets the decision counter and the settle count of the section that drives the
coil; short of arrival only the moving-seen mark changes (R58, R97, R116, R117). -/
def Obligations.ArrivalEndsMove : Prop :=
  ∀ (c : CoilId) (r : StatusRecord) (s : State) (m : Move), (s.coil c).move = some m →
    let t := testArrival c r s
    let seen := m.movingSeen || r.motion == .moving
    let tol := (s.coil c).settings.arrivalTolerance
    let here := m.accepted.isSome ∧ r.motion = .still ∧ posDiff r.pos m.target ≤ tol
      ∧ (posDiff m.target m.start ≤ tol ∨ seen = true)
    (here → (t.coil c).move = none ∧ (t.coil c).moveTimer = none ∧ (t.coil c).pendStop = false
        ∧ .moveDone ∈ t.events.summary ∧ (t.sec (s.driver c)).counter = 0
        ∧ (t.sec (s.driver c)).engine.settle = (s.sec (s.driver c)).settings.settleBoundaries)
    ∧ (¬ here → t = s.modCoil c fun k => { k with move := some { m with movingSeen := seen } })

/-- The acceptance timer at send count 3, the confirmation timer, the move's time limit and silence supervision each fail
their coil, with DRIVE_LOST, INJECT_FAILED, MOVE_OVERTIME and DRIVE_SILENT, and with the untracked STOP and INJECT_OFF that its
work calls for (R110, R115, R119, R121, R123, R125, R137). -/
def Obligations.TimersFailTheirCoil : Prop :=
  ∀ (c : CoilId) (s : State), s.live = true →
    (∀ f, (s.coil c).inFlight = some f → (s.coil c).acceptTimer.isSome = true → 3 ≤ f.sends →
      ∃ u, exec (.acceptTimeoutExpiry c) s = .next (conclude u) ∧ FailedWith .driveLost c s u)
    ∧ ((s.coil c).confirmTimer.isSome = true →
      ∃ u, exec (.confirmationTimerExpiry c) s = .next (conclude u) ∧ FailedWith .injectFailed c s u)
    ∧ ((s.coil c).moveTimer.isSome = true →
      ∃ u, exec (.moveTimeLimitExpiry c) s = .next (conclude u) ∧ FailedWith .moveOvertime c s u)
    ∧ ((s.coil c).silenceTimer.isSome = true →
      ∃ u, exec (.silenceExpiry c) s = .next (conclude u) ∧ FailedWith .driveSilent c s u)

/-- The acceptance timer below send count 3: the record is sent again with the same toggle, into the origin queue of every UP
port of its route, where its ports admit it; a record that fails its send condition is withdrawn, leaving a STOP or an INJECT_OFF
to be taken (R7, R114, R115). -/
def Obligations.AcceptTimeoutResendsOrWithdraws : Prop :=
  ∀ (c : CoilId) (s : State) (f : InFlight), s.live = true → (s.coil c).inFlight = some f →
    (s.coil c).acceptTimer.isSome = true → f.sends < 3 →
    (recordMaySend c f.record.kind s = true → (s.coil c).waiting = [] →
      s.admits c { tracked := true, record := f.record, route := (s.coil c).route } = true →
      ∃ u, exec (.acceptTimeoutExpiry c) s = .next (conclude u)
        ∧ (u.coil c).inFlight = some { f with sends := f.sends + 1, lastSend := some s.ms }
        ∧ (u.coil c).acceptTimer = some (s.ms + span (s.coil c).settings.acceptTimeout)
        ∧ (u.coil c).toggle = (s.coil c).toggle
        ∧ (∀ p ∈ (s.coil c).route.ports, (s.port p).link = .up → .record c true f.record ∈ (u.port p).origin)
        ∧ (∀ p ∈ (s.coil c).route.ports, (s.port p).link = .down →
            (u.port p) = { (s.port p) with originDrops := satInc (s.port p).originDrops })
        ∧ (∀ c', c' ≠ c → u.coil c' = s.coil c') ∧ AgreeBeyondLinks s u)
    ∧ (recordMaySend c f.record.kind s = false →
      exec (.acceptTimeoutExpiry c) s = .next (conclude (takePending c (s.modCoil c fun k =>
        match f.record.kind with
        | .moveTo _ => { k with inFlight := none, acceptTimer := none, pendStop := true,
                                waiting := k.waiting.filter fun w => !w.tracked }
        | .injectOn j => { k with inFlight := none, acceptTimer := none, pendInj := some .off, heldInj := .sent j,
                                  confirmTimer := none, waiting := k.waiting.filter fun w => !w.tracked }
        | .stop => { k with inFlight := none, acceptTimer := none, waiting := k.waiting.filter fun w => !w.tracked }
        | .injectOff => { k with inFlight := none, acceptTimer := none,
                                 waiting := k.waiting.filter fun w => !w.tracked }))))

/-! ### Sections and the coupler (chapters 8 and 9) -/

/-- The hold-off that has run out takes its section from RECOVERY to STARTING (R140, R141, R156; that it waits at
RECOVERY_CYCLES for this command is the model's choice, notes/assumptions/8.md). The stale timer adds STALE to the unsure causes,
with what follows from them (R142, R143). The end of ALARM's millisecond asserts the line (R165). -/
def Obligations.SectionAndCouplerExpiries : Prop :=
  ∀ s : State, s.live = true →
    (∀ (n : SecId) (h : Nat), (s.sec n).state = .recovery → (s.sec n).sup.holdOff = some h →
      (s.sec n).settings.recoveryCycles ≤ h →
      ∃ u, exec (.holdOffRunOut n) s = .next (conclude u) ∧ Started n s u)
    ∧ (s.coupler.staleTimer.isSome = true →
      ∃ u, exec .staleTimerExpiry s = .next (conclude u)
        ∧ u.coupler = { s.coupler with staleTimer := none, unsure := { s.coupler.unsure with stale := true } }
        ∧ UnsureFollows s u)
    ∧ (∀ a, s.events.alarm = .reassertAt a →
      exec .alarmReassertion s = .next (conclude { s with events := { s.events with alarm := .asserted } }))

/-- What a section's fault supervisor does with what its ring delivers, short of a confirmation or a clearing: IDLE takes
nothing; a pair begins, grows or blindly enters its cycle; a blind cycle only counts; in WATCH an onset cycle counts toward
confirmation with its capture and any other drops both, and the hold-off counts on up to RECOVERY_CYCLES, where it waits (that
it waits there, and the section does not start within this step, is the model's choice, notes/assumptions/8.md); in STANDING the
peak follows and a clear cycle counts toward the clearing; and a gap blinds the cycles it reaches (R151 to R153, R155, R156). -/
def Obligations.SupervisorTakesPairs : Prop :=
  ∀ (n : SecId) (p : Pair) (s : State),
    let y := (s.sec n).settings
    let v := (s.sec n).sup
    let t := supervisorTakes n p s
    let m := p.index / 80
    let a : CycleAcc :=
      if p.index % 80 = 0 then { cycle := m, q := p.u * p.u, blind := false }
      else match v.acc with
        | some b => if b.cycle = m then { b with q := b.q + p.u * p.u } else { cycle := m, q := p.u * p.u, blind := true }
        | none => { cycle := m, q := p.u * p.u, blind := true }
    let onset := ((80 * (y.tFault * y.tFault) : Nat) : Int) ≤ a.q
    let clear := a.q < ((80 * (y.tClear * y.tClear) : Nat) : Int)
    let peak := match v.record.peak with | some k => max k (a.q / 80) | none => a.q / 80
    let closed : Supervisor := { v with acc := none, last := some (m, some (a.q / 80)) }
    let counted : Supervisor := { closed with holdOff := v.holdOff.map fun h => min (h + 1) y.recoveryCycles }
    (v.phase = .idle → t = s)
    ∧ (v.phase ≠ .idle → p.index % 80 ≠ 79 → t = s.setSup n { v with acc := some a })
    ∧ (v.phase ≠ .idle → p.index % 80 = 79 → a.blind = true →
      t = s.setSup n { v with acc := none, last := some (m, none), blind := satInc v.blind })
    ∧ (v.phase = .watch → p.index % 80 = 79 → a.blind = false →
      (¬ onset → t = s.setSup n { counted with confirm := 0, capture := none })
      ∧ (onset → v.confirm + 1 < y.confirmCycles → t = s.setSup n { counted with
          confirm := v.confirm + 1
          capture := some (match v.capture with
            | none => { time := s.ms, index := 80 * m, peak := a.q / 80 }
            | some k => { k with peak := max k.peak (a.q / 80) }) }))
    ∧ (v.phase = .standing → p.index % 80 = 79 → a.blind = false →
      (¬ clear → t = s.setSup n { closed with clear := 0, record := { v.record with peak := some peak } })
      ∧ (clear → v.clear + 1 < y.clearCycles →
          t = s.setSup n { closed with clear := v.clear + 1, record := { v.record with peak := some peak } }))
    ∧ ∀ first count,
      let w := ((deliver n [.gap first count] s).sec n).sup
      let after := first + count
      (v.phase = .idle → w = v)
      ∧ (v.phase ≠ .idle → w = { v with
          acc := if after % 80 = 0 then none else some { cycle := after / 80, q := 0, blind := true }
          blind := if after / 80 = first / 80 then v.blind else satAdd v.blind (after / 80 - first / 80)
          last := if after / 80 = first / 80 then v.last else some (after / 80 - 1, none) })

/-- The onset cycle that reaches CONFIRM_CYCLES confirms a fault: FAULT_ONSET, the fault record of R154, and the section the
supervisor acts on goes from a state in use to FAULT, silenced, with no target pending (R136, R140, R141, R154). The clear cycle
that reaches CLEAR_CYCLES clears it: FAULT_CLEARED, and the section in FAULT enters RECOVERY with its hold-off, or STARTING where
RECOVERY_CYCLES is 0, once no supervisor that acts on it is left with a fault standing (R140, R141, R155, R156). The premise that
the supervisors follow their sections is the invariant of StepKeepsSections. -/
def Obligations.FaultsConfirmAndClear : Prop :=
  ∀ (n : SecId) (p : Pair) (s : State) (a : CycleAcc), SupervisorsFollow s → p.index % 80 = 79 →
    (s.sec n).sup.acc = some a → a.cycle = p.index / 80 → a.blind = false →
    let y := (s.sec n).settings
    let v := (s.sec n).sup
    let q := a.q + p.u * p.u
    let t := supervisorTakes n p s
    let k := if s.joined then .s1 else n
    (v.phase = .watch → ((80 * (y.tFault * y.tFault) : Nat) : Int) ≤ q → y.confirmCycles ≤ v.confirm + 1 →
      .faultOnset ∈ t.events.summary
      ∧ (t.sec n).sup.phase = .standing ∧ (t.sec n).sup.confirm = 0 ∧ (t.sec n).sup.clear = 0
      ∧ (t.sec n).sup.capture = none ∧ (t.sec n).sup.holdOff = none
      ∧ (t.sec n).sup.record = {
          status := some .standing, confirm := some s.ms, clear := none, count := min (v.record.count + 1) 65535
          onset := some (match v.capture with | some c => c.time | none => s.ms)
          index := some (match v.capture with | some c => c.index | none => 80 * (p.index / 80))
          peak := some (match v.capture with | some c => max c.peak (q / 80) | none => q / 80) }
      ∧ ((s.sec k).state = .starting ∨ (s.sec k).state = .measuring ∨ (s.sec k).state = .tracking
          ∨ (s.sec k).state = .recovery →
        (t.sec k).state = .fault ∧ (t.sec k).entryTime = s.ms ∧ (t.sec k).engine.state = .off
          ∧ (t.sec k).sup.holdOff = none ∧ (∀ c ∈ s.drives k, (t.coil c).pendMove = none) ∧ Silenced k s t)
      ∧ ((s.sec k).state = .fault ∨ (s.sec k).state.active = false →
        (t.sec k).state = (s.sec k).state ∧ t.coil1 = s.coil1 ∧ t.coil2 = s.coil2))
    ∧ (v.phase = .standing → q < ((80 * (y.tClear * y.tClear) : Nat) : Int) → y.clearCycles ≤ v.clear + 1 →
      .faultCleared ∈ t.events.summary
      ∧ (t.sec n).sup.phase = .watch ∧ (t.sec n).sup.clear = 0
      ∧ (t.sec n).sup.record = { v.record with
          status := some .cleared, clear := some s.ms
          peak := some (match v.record.peak with | some c => max c (q / 80) | none => q / 80) }
      ∧ ((s.sec k).state = .fault → (s.joined = false ∨ ∀ m, m ≠ n → (s.sec m).sup.phase ≠ .standing) →
        (t.sec k).entryTime = s.ms
        ∧ ((s.sec k).settings.recoveryCycles = 0 → (t.sec k).state = .starting ∧ (t.sec k).ring = Ring.cleared)
        ∧ ((s.sec k).settings.recoveryCycles ≠ 0 → (t.sec k).state = .recovery ∧ (t.sec k).sup.holdOff = some 0))
      ∧ ((s.sec k).state ≠ .fault ∨ (s.joined = true ∧ ∃ m, m ≠ n ∧ (s.sec m).sup.phase = .standing) →
        (t.sec k).state = (s.sec k).state))

/-- What the coupler record takes without a change of held position, and what follows from its unsure causes: a value INTERMEDIATE
or BAD adds VALUE, a value equal to the held position removes it, both restart the stale timer and remove NO_VALUE and STALE; and
a report of availability removes or adds UNAVAILABLE (R142, R143, R144). -/
def Obligations.UnsureCausesActOnSections : Prop :=
  ∀ s : State,
    let heard (v : CouplerValue) (bad : Bool) : Coupler := { s.coupler with
      last := some (v, s.ms), staleTimer := some (s.ms + span s.couplerTimeout)
      unsure := { s.coupler.unsure with noValue := false, stale := false, value := bad } }
    (∀ v, v = .intermediate ∨ v = .bad →
      (couplerValue v s).coupler = heard v true ∧ UnsureFollows s (couplerValue v s))
    ∧ (∀ v, v = .open ∧ s.coupler.held = .open ∨ v = .closed ∧ s.coupler.held = .closed →
      (couplerValue v s).coupler = heard v false ∧ UnsureFollows s (couplerValue v s))
    ∧ ∀ a : Bool,
      (reportAvailability a s).coupler
          = { s.coupler with available := a, unsure := { s.coupler.unsure with unavailable := !a } }
        ∧ UnsureFollows s (reportAvailability a s)

/-- A distributed value CLOSED at a held position OPEN joins the sections: section 2 enters JOINED and section 1 leaves TRACKING
for MEASURING, or a state in use for FAULT where section 2 has a fault standing (R141, R142, R145). Coil 2's pending target is
cleared (R136), but a manual one of a DISABLED section 2 stays for the sending stage (R127, R145). A value OPEN while section 2 is
JOINED separates them: section 2 takes its return state, or FAULT with a fault standing, and section 1 in FAULT without a fault of
its own enters RECOVERY (R141, R142, R146). The unsure causes are updated last, so that sections which the value makes sure can
measure (R142, R143). That a manual target of a section 2 in any other state is cleared at the closing, and that section 1's entry
into FAULT there concerns both coils, are the model's choices (notes/assumptions/35.md and 41.md). -/
def Obligations.CouplerPositionMovesSections : Prop :=
  ∀ s : State,
    let heard (v : CouplerValue) (h : Held) : Coupler := { s.coupler with
      held := h, last := some (v, s.ms), staleTimer := some (s.ms + span s.couplerTimeout)
      unsure := { s.coupler.unsure with noValue := false, stale := false, value := false } }
    let sure (t : State) : Prop :=
      (s.coupler.unsure.isEmpty = true → ∀ n, (t.sec n).inhibit = (s.sec n).inhibit)
      ∧ (s.coupler.unsure.isEmpty = false → s.coupler.unsure.unavailable = false → ∀ n,
          (t.sec n).inhibit = { (s.sec n).inhibit with unsure := false }
            ∧ ((t.sec n).state.measures = true → (t.sec n).engine.state = .wait))
    (s.coupler.held = .open →
      let t := couplerValue .closed s
      t.coupler = heard .closed .closed ∧ sure t
      ∧ t.sec2.state = .joined ∧ t.ret2 = (if s.sec2.state.active then .starting else .disabled)
      ∧ t.sec2.engine.window = none ∧ (∀ n, (t.sec n).estimate = Estimate.cleared ∧ (t.sec n).ring = (s.sec n).ring)
      ∧ .couplerChange ∈ t.events.summary
      ∧ (s.sec1.state = .disabled ∨ s.sec1.state = .halted → t.sec1.state = s.sec1.state
          ∧ .joinUntuned ∈ t.events.summary)
      ∧ (s.sec2.sup.phase ≠ .standing →
          t.sec1.state = if s.sec1.state = .tracking then .measuring else s.sec1.state)
      ∧ (s.sec1.state = .fault → t.sec1.state = .fault)
      ∧ (s.sec2.sup.phase = .standing → s.sec1.state = .starting ∨ s.sec1.state = .measuring ∨ s.sec1.state = .tracking
            ∨ s.sec1.state = .recovery →
          t.sec1.state = .fault ∧ t.sec1.entryTime = s.ms ∧ t.sec1.engine.state = .off ∧ t.sec1.sup.holdOff = none
            ∧ t.coil1.pendMove = none ∧ t.coil2.pendMove = none ∧ Silenced .s1 s t)
      ∧ (s.sec2.state ≠ .disabled ∨ (∀ m, s.coil2.pendMove = some m → m.origin = .automatic) → t.coil2.pendMove = none)
      ∧ (s.sec2.state = .disabled → s.sec1.state = .disabled ∨ s.sec2.sup.phase ≠ .standing →
          ∀ m, s.coil2.pendMove = some m → m.origin = .manual → t.coil2.pendMove = some m))
    ∧ (s.coupler.held = .closed → s.sec2.state = .joined →
      let t := couplerValue .open s
      t.coupler = heard .open .open ∧ sure t ∧ t.ret2 = .disabled
      ∧ .couplerChange ∈ t.events.summary
      ∧ (s.ret2 = .disabled → t.sec2.state = .disabled) ∧ (s.ret2 = .halted → t.sec2.state = .halted)
      ∧ (s.ret2 = .starting → s.sec2.sup.phase = .standing → s.sec1.state.active = true → t.sec2.state = .fault)
      ∧ (s.ret2 = .starting → s.sec2.sup.phase ≠ .standing → t.sec2.state = .starting ∧ t.sec2.ring = Ring.cleared)
      ∧ (s.sec1.state = .tracking → t.sec1.state = .measuring)
      ∧ (s.sec1.state = .fault → s.sec1.sup.phase ≠ .standing →
          t.sec1.entryTime = s.ms
            ∧ (s.sec1.settings.recoveryCycles = 0 → t.sec1.state = .starting ∧ t.sec1.ring = Ring.cleared)
            ∧ (s.sec1.settings.recoveryCycles ≠ 0 → t.sec1.state = .recovery ∧ t.sec1.sup.holdOff = some 0))
      ∧ (s.sec1.state = .fault → s.sec1.sup.phase = .standing → t.sec1.state = .fault)
      ∧ (s.sec1.state ≠ .tracking → s.sec1.state ≠ .fault → t.sec1.state = s.sec1.state))

/-! ### Events (chapter 10) -/

/-- Raising an event adds its kind to the summary. A masked notice does no more. Any other event is filed: an empty level 1
takes it with its enable as alarm mark, the ALARM line follows, and a notice is offered to both ports; behind an occupied level
1 it fills an empty level 2, or joins level 2's kinds as the latest source (R162, R164, R165, R166; that the notice is offered
to port A first is the model's choice, notes/assumptions/18.md). RESET is not held, since no event is raised then. -/
def Obligations.RaisedEventsAreFiled : Prop :=
  ∀ (k : EventKind) (o : Obj) (s : State), s.held = false →
    let e : Source := { kind := k, obj := o, time := s.ms }
    let x := s.events
    let halting := k ∈ [.driveLost, .driveSilent, .driveFaulted, .endStop, .moveOvertime, .injectFailed, .measureLost,
      .voltageLost]
    ∃ u : State, u = { s with events := u.events } ∧ u.events.enables = x.enables
      ∧ (∀ j, j ∈ u.events.summary ↔ j = k ∨ j ∈ x.summary)
      ∧ (¬ halting → x.enabled k = false →
        raise k o s = u ∧ u.events.level1 = x.level1 ∧ u.events.level2 = x.level2 ∧ u.events.alarm = x.alarm)
      ∧ (halting ∨ x.enabled k = true →
        (x.level1 = none →
          raise k o s = offerNotice e .b (offerNotice e .a u)
          ∧ u.events.level1 = some ({ kinds := [k], first := e, latest := e }, x.enabled k)
          ∧ u.events.level2 = x.level2
          ∧ u.events.alarm = if x.enabled k = true then .asserted else .deasserted)
        ∧ (x.level1.isSome = true →
          raise k o s = u ∧ u.events.level1 = x.level1 ∧ u.events.alarm = x.alarm
          ∧ (x.level2 = none → u.events.level2 = some { kinds := [k], first := e, latest := e })
          ∧ ∀ r, x.level2 = some r → ∃ ks, u.events.level2 = some { kinds := ks, first := r.first, latest := e }
              ∧ ∀ j, j ∈ ks ↔ j = k ∨ j ∈ r.kinds))

/-! ### Management requests (chapter 11) -/

/-- READ_INFO, READ_SLOT, READ_COIL_TABLE, READ_SECTION_SETTINGS and READ_COIL_SETTINGS answer OK with what they read and
change nothing (R32, R91, R128, R173). READ_STATE answers the parts of R174 in their order and sets each worst grade since read to
the current grade (R68). The layout of the answers is the model's (notes/assumptions/13.md and 24.md). -/
def Obligations.ReadsAnswer : Prop :=
  ∀ (s : State) (r : Request) (b : List Byte),
    (Serving s 1 r b → b = [] → exec .readInfo s = .next (conclude (answer r (unchanged s (.ok
      (num Config.productCode.toNat ++ num Config.revision.toNat ++ num s.station.toNat ++ time s.ms
        ++ num s.requestDrops ++ num s.nominal.hertz ++ num s.share ++ num s.couplerTimeout ++ num s.maskA.toNat
        ++ num s.maskB.toNat ++ (allKinds.map s.events.enabled).flatMap yesNo))))))
    ∧ (∀ i : Fin 24, Serving s 2 r b → b.length = 4 → word b 0 = i.val →
      exec .readSlot s = .next (conclude (answer r (unchanged s (.ok
        (definitionBytes (s.slot i).defn ++ optional num 0 (s.slot i).last ++ num (s.slot i).errors
          ++ num (s.slot i).state.code ++ yesNo (s.shadowed i)))))))
    ∧ (∀ c, Serving s 6 r b → b.length = 4 → word b 0 = CoilId.number c →
      exec .readCoilTable s = .next (conclude (answer r (unchanged s (.ok
        (num (s.coil c).table.length ++ (s.coil c).table.flatMap fun p => num p.pos ++ num p.b))))))
    ∧ (∀ n, Serving s 8 r b → b.length = 4 → word b 0 = SecId.number n →
      exec .readSectionSettings s = .next (conclude (answer r (unchanged s (.ok
        ((s.sec n).settings.values.flatMap word32))))))
    ∧ (∀ c, Serving s 10 r b → b.length = 4 → word b 0 = CoilId.number c →
      exec .readCoilSettings s = .next (conclude (answer r (unchanged s (.ok
        (num (s.coil c).settings.acceptTimeout ++ num (s.coil c).settings.silenceTimeout
          ++ num (s.coil c).settings.arrivalTolerance ++ num (s.coil c).settings.moveBase
          ++ num (s.coil c).settings.stepTime ++ optional num 0 ((s.coil c).binding.map Fin.val)))))))
    ∧ (Serving s 13 r b → b = [] →
      exec .readState s = .next (conclude (answer r
        { state := { s with
            sec1 := { s.sec1 with engine := { s.sec1.engine with worst := s.sec1.engine.grade } }
            sec2 := { s.sec2 with engine := { s.sec2.engine with worst := s.sec2.engine.grade } } }
          reply := .ok (time s.ms ++ contextAnswer .s1 s ++ contextAnswer .s2 s ++ couplerAnswer s.coupler
            ++ ringAnswer s.sec1.ring ++ ringAnswer s.sec2.ring ++ engineAnswer s.sec1.engine
            ++ engineAnswer s.sec2.engine ++ estimateAnswer s.sec1.estimate ++ estimateAnswer s.sec2.estimate
            ++ decisionPart s.sec1 ++ decisionPart s.sec2 ++ supervisorAnswer s.sec1.sup ++ supervisorAnswer s.sec2.sup
            ++ coilAnswer s.coil1 ++ coilAnswer s.coil2)
          after := none })))

/-- READ_EVENTS answers level 1 as it stands and then moves level 2 up, or empties level 1; the moved record takes its mark
from the enables in force, the line follows, and a notice of its first source goes out (R165, R166, R167). READ_SUMMARY
answers the summary and empties it (R168). READ_COUNTERS answers one snapshot and clears it: a port's counters, whose latch takes
the link state, or a slot's; a type or number out of range is refused (R13, R32, R177). The layout of the answers, the latch's
numbers included, is the model's (notes/assumptions/13.md). -/
def Obligations.ReadsThatClearAnswer : Prop :=
  ∀ (s : State) (r : Request) (b : List Byte),
    (Serving s 15 r b → b = [] → exec .readSummary s = .next (conclude (answer r
      { state := { s with events := { s.events with summary := [] } }, reply := .ok (kindMask s.events.summary),
        after := none })))
    ∧ (Serving s 14 r b → b = [] →
      (s.events.level1 = none →
        exec .readEvents s = .next (conclude (answer r (unchanged s (.ok (eventsAnswer s.events))))))
      ∧ (∀ l, s.events.level1 = some l → s.events.level2 = none →
        exec .readEvents s = .next (conclude (answer r
          { state := { s with events := { s.events with level1 := none, alarm := .deasserted } }
            reply := .ok (eventsAnswer s.events), after := none })))
      ∧ (∀ l m q, s.events.level1 = some (l, m) → s.events.level2 = some q →
        let mark := q.kinds.any s.events.enabled
        exec .readEvents s = .next (conclude (answer r
          { state := { s with events := { s.events with
              level1 := some (q, mark), level2 := none
              alarm := if mark = false then .deasserted else if m = true then .reassertAt (s.ms + 1) else .asserted } }
            reply := .ok (eventsAnswer s.events), after := some q.first }))))
    ∧ (Serving s 16 r b → b.length = 8 →
      (∀ p, word b 0 = 3 → word b 1 = Port.number p →
        let x := s.port p
        exec .readCounters s = .next (conclude (answer r
          { state := s.modPort p fun x => { x with
              framesIn := 0, framesInError := 0, framesOut := 0, forwardDrops := 0, originDrops := 0, unmatched := 0,
              latch := x.link == .down }
            reply := .ok (num x.framesIn ++ num x.framesInError ++ num x.framesOut ++ num x.forwardDrops
              ++ num x.originDrops ++ num x.unmatched ++ yesNo x.latch ++ num (if x.link = .down then 1 else 0))
            after := none })))
      ∧ (∀ i : Fin 24, word b 0 = 2 → word b 1 = i.val →
        let x := s.slot i
        exec .readCounters s = .next (conclude (answer r
          { state := s.modSlot i fun x => { x with
              good := 0, gaps := 0, malformed := 0, late := 0, duplicates := 0, saturated := 0 }
            reply := .ok (num x.good ++ num x.gaps ++ num x.malformed ++ num x.late ++ num x.duplicates
              ++ num x.saturated)
            after := none })))
      ∧ (word b 0 ≠ 2 → word b 0 ≠ 3 →
        exec .readCounters s = .next (conclude (answer r (unchanged s (.range 0 none)))))
      ∧ (word b 0 = 2 ∧ 24 ≤ word b 1 ∨ word b 0 = 3 ∧ 2 ≤ word b 1 →
        exec .readCounters s = .next (conclude (answer r (unchanged s (.range 1 none))))))

/-- A request that is refused, whatever its kind and body, changes no state but what its response does (R172). -/
def Obligations.RefusedRequestChangesNothing : Prop :=
  ∀ (k : Nat) (b : List Byte) (s : State), 1 ≤ k → k ≤ 24 →
    (s.live = true → exec (requestCommand k) s = .next (conclude (serve k (served k) s)))
    ∧ ((∀ a, (served k b s).reply ≠ .ok a) → (served k b s).state = s ∧ (served k b s).after = none)

/-- WRITE_SLOT names the first field of its definition that is out of range or that the other valid slots of the table forbid
(R15, R172), and reads any other definition from its fields (R182). That definition replaces the slot whole, binds or unbinds its
coil and raises STREAM_STATE from a state other than ACTIVE; the coupler record follows a STATE slot created, removed or rewritten
(R142, R143); a slot tied before or after to a section other than DISABLED is refused (R16, R109). The point number of a bad
binding count and the fields of a second STATE or DRIVE slot are the model's choice (notes/assumptions/14.md), and so is that the
arrival port of the coil is kept (notes/assumptions/40.md). -/
def Obligations.WriteSlotReplaces : Prop :=
  (∀ (s : State) (r : Request) (b : List Byte), Serving s 3 r b → writeSlotLength b = true →
    let refused (f : Nat) (p : Option Nat) :=
      exec .writeSlot s = .next (conclude (answer r (unchanged s (.range f p))))
    (24 ≤ word b 0 → refused 0 none)
    ∧ ∀ i : Fin 24, word b 0 = i.val →
      let badKind := 2 < word b 2 ∨ word b 2 = 1 ∧ ∃ j, j ≠ i ∧ isStateSlot (s.slot j).defn = true
      let badBinding (k : Nat) := 1 < word b (6 + 3 * k) ∨ (word b (7 + 3 * k) ≠ 1 ∧ word b (7 + 3 * k) ≠ 2)
        ∨ 7 < word b (8 + 3 * k)
        ∨ (∃ j, j ≠ i ∧ ∃ e cs, (s.slot j).defn = some e ∧ e.body = .sample cs
            ∧ ∃ y ∈ cs, y.role.code = word b (6 + 3 * k) ∧ SecId.number y.sec = word b (7 + 3 * k))
        ∨ ∃ l < k, word b (6 + 3 * l) = word b (6 + 3 * k) ∧ word b (7 + 3 * l) = word b (7 + 3 * k)
      (1 < word b 1 → refused 1 none)
      ∧ (word b 1 = 1 → badKind → refused 2 none)
      ∧ (word b 1 = 1 → ¬ badKind → 3 < word b 4 → refused 4 none)
      ∧ (word b 1 = 1 → ¬ badKind → word b 4 ≤ 3 →
        (word b 2 = 0 → word b 5 < 1 ∨ 2 < word b 5 → refused 5 none)
        ∧ (word b 2 = 0 → 1 ≤ word b 5 → word b 5 ≤ 2 →
            ∀ k < word b 5, badBinding k → (∀ l < k, ¬ badBinding l) → refused 5 (some k))
        ∧ (word b 2 = 1 → 7 < word b 5 → refused 6 none)
        ∧ (word b 2 = 2 → (word b 5 ≠ 1 ∧ word b 5 ≠ 2)
              ∨ (∃ j c, j ≠ i ∧ word b 5 = CoilId.number c ∧ namesCoil (s.slot j).defn c = true) → refused 6 none))
      ∧ ∀ d, slotDefOf b i s = .ok d ↔ Spells b d ∧ FitsTable i d s)
  ∧ ∀ (s : State) (r : Request) (b : List Byte) (i : Fin 24) (d : Option SlotDef), Serving s 3 r b →
    writeSlotLength b = true → word b 0 = i.val → slotDefOf b i s = .ok d →
    (tiedToEnabled (s.slot i).defn s = true ∨ tiedToEnabled d s = true →
      exec .writeSlot s = .next (conclude (answer r (unchanged s .state))))
    ∧ (tiedToEnabled (s.slot i).defn s = false → tiedToEnabled d s = false →
      ∃ u, exec .writeSlot s = .next (conclude (answer r (done u)))
        ∧ u.slot i = Slot.fresh d ∧ (∀ j, j ≠ i → u.slot j = s.slot j)
        ∧ ((s.slot i).state ≠ .active → .streamState ∈ u.events.summary)
        ∧ (∀ c, namesCoil d c = true → (u.coil c).binding = some i)
        ∧ (∀ c, namesCoil d c = true → (s.coil c).binding ≠ some i →
            (u.coil c).reported = none ∧ (u.coil c).toggle = none)
        ∧ (∀ c, namesCoil d c = false → (s.coil c).binding = some i →
            (u.coil c).binding = none ∧ (u.coil c).pendMove = none ∧ (u.coil c).pendInj = none
              ∧ (u.coil c).pendStop = false)
        ∧ (∀ n, (u.sec n).state = (s.sec n).state ∧ (u.sec n).settings = (s.sec n).settings
            ∧ (u.sec n).ring = (s.sec n).ring)
        ∧ (isStateSlot (s.slot i).defn = false → isStateSlot d = true →
            u.coupler = { s.coupler with
                configured := true, available := true, last := none
                unsure := { noValue := true, unavailable := false, value := false, stale := false } }
            ∧ (s.coupler.unsure.isEmpty = true →
                .couplerUnsure ∈ u.events.summary ∧ ∀ n, (u.sec n).inhibit = { (s.sec n).inhibit with unsure := true }))
        ∧ (isStateSlot (s.slot i).defn = true → isStateSlot d = false →
            u.coupler = { s.coupler with
                configured := false, available := false, last := none, staleTimer := none
                unsure := { noValue := false, unavailable := false, value := false, stale := false } }
            ∧ (s.coupler.unsure.isEmpty = false → ∀ n, (u.sec n).inhibit = { (s.sec n).inhibit with unsure := false }))
        ∧ (isStateSlot (s.slot i).defn = true → isStateSlot d = true →
            u.coupler = { s.coupler with
                available := true, unsure := { s.coupler.unsure with unavailable := false } })
        ∧ (isStateSlot (s.slot i).defn = false → isStateSlot d = false → u.coupler = s.coupler)
        ∧ (∀ c, (u.coil c).arrival = (s.coil c).arrival)
        ∧ u.maskA = s.maskA ∧ u.maskB = s.maskB ∧ u.requests = s.requests)

/-- WRITE_MASKS takes both words, unless a valid slot of a mask mode is tied to a section other than DISABLED; every later match
compares by the new words (R18). -/
def Obligations.WriteMasksTakesBoth : Prop :=
  ∀ (s : State) (r : Request) (b : List Byte), Serving s 4 r b → b.length = 8 →
    ((∃ i, usesMask (s.slot i).defn = true ∧ tiedToEnabled (s.slot i).defn s = true) →
      exec .writeMasks s = .next (conclude (answer r (unchanged s .state))))
    ∧ ((∀ i, usesMask (s.slot i).defn = true → tiedToEnabled (s.slot i).defn s = false) →
      let a : Word32 := BitVec.ofNat 32 (word b 0)
      let m : Word32 := BitVec.ofNat 32 (word b 1)
      let t := { s with maskA := a, maskB := m }
      exec .writeMasks s = .next (conclude (answer r (done t)))
      ∧ ∀ i d k tag, (s.slot i).defn = some d →
        ((t.slot i).passes t.maskA t.maskB k tag = true ↔ d.body.kind = k ∧
          match d.mode with
          | .exact => tag = d.tag
          | .maskA => tag &&& a = d.tag &&& a
          | .maskB => tag &&& m = d.tag &&& m
          | .any => True))

/-- ENABLE_SLOT: refused for an invalid slot; otherwise error count 0, ACTIVE, last count absent, counters kept, and
STREAM_STATE from any state but ACTIVE (R26). -/
def Obligations.EnableSlotActivates : Prop :=
  ∀ (s : State) (r : Request) (b : List Byte) (i : Fin 24), Serving s 5 r b → b.length = 4 → word b 0 = i.val →
    ((s.slot i).defn = none → exec .enableSlot s = .next (conclude (answer r (unchanged s .state))))
    ∧ ((s.slot i).defn.isSome = true →
      ∃ u, exec .enableSlot s = .next (conclude (answer r (done u)))
        ∧ u.slot i = { (s.slot i) with errors := 0, state := .active, last := none }
        ∧ (∀ j, j ≠ i → u.slot j = s.slot j)
        ∧ ((s.slot i).state = .active → u = s.setSlot i { (s.slot i) with errors := 0, state := .active, last := none })
        ∧ ((s.slot i).state ≠ .active → u.events = (raise .streamState (.slot i) s).events)
        ∧ ∀ n, (u.sec n).state = (s.sec n).state)

/-- WRITE_COIL_TABLE stores a legal table whole and discards a pending move target while the coil's section is DISABLED, and
is refused otherwise; a point that breaks R90 is named by its index (R89, R90, R91). That the points are read from the low 16 bits
of their position fields is the model's choice (notes/assumptions/20.md). -/
def Obligations.WriteCoilTableStores : Prop :=
  ∀ (s : State) (r : Request) (b : List Byte) (c : CoilId), Serving s 7 r b → tableLength b = true →
    word b 0 = CoilId.number c →
    let t := tablePoints b (word b 1)
    (word b 1 < 2 ∨ 32 < word b 1 → exec .writeCoilTable s = .next (conclude (answer r (unchanged s (.range 1 none)))))
    ∧ (2 ≤ word b 1 → word b 1 ≤ 32 → ∀ k, badPoint 0 none t = some k →
        exec .writeCoilTable s = .next (conclude (answer r (unchanged s (.range 2 (some k))))))
    ∧ (2 ≤ word b 1 → word b 1 ≤ 32 → badPoint 0 none t = none →
        tableLegal t ∧ t.length = word b 1
        ∧ ((s.sec c.sec).state = .disabled →
            exec .writeCoilTable s = .next (conclude (answer r (done
              (s.modCoil c fun k => { k with table := t, pendMove := none })))))
        ∧ ((s.sec c.sec).state ≠ .disabled →
            exec .writeCoilTable s = .next (conclude (answer r (unchanged s .state)))))

/-- WRITE_SECTION_SETTINGS and WRITE_COIL_SETTINGS name the first field that is out of range (R50, R150, R172, R175); with every
field in range they take every setting with the section DISABLED, and otherwise only where every locked setting equals the value
in force (R128, R175). -/
def Obligations.WriteSettingsLocks : Prop :=
  ∀ (s : State) (r : Request) (b : List Byte),
    (∀ n, Serving s 9 r b → b.length = 108 → word b 0 = SecId.number n →
      (∀ before k rest, (sectionSettingsOf b).checks = before ++ (k, false) :: rest → (∀ f ∈ before, f.2 = true) →
        exec .writeSectionSettings s = .next (conclude (answer r (unchanged s (.range k none)))))
      ∧ ((∀ k ∈ (sectionSettingsOf b).checks, k.2 = true) →
        let x := sectionSettingsOf b
        let y := (s.sec n).settings
        let locked := y = { x with detuningSet := y.detuningSet, deadband := y.deadband,
                                   decisionInterval := y.decisionInterval }
        ((s.sec n).state = .disabled ∨ locked →
          exec .writeSectionSettings s = .next (conclude (answer r (done
            (s.modSec n fun z => { z with settings := x })))))
        ∧ ((s.sec n).state ≠ .disabled → ¬ locked →
          exec .writeSectionSettings s = .next (conclude (answer r (unchanged s .state))))))
    ∧ (∀ c, Serving s 11 r b → b.length = 24 → word b 0 = CoilId.number c →
      (∀ before k rest, (coilSettingsOf b).checks = before ++ (k, false) :: rest → (∀ f ∈ before, f.2 = true) →
        exec .writeCoilSettings s = .next (conclude (answer r (unchanged s (.range k none)))))
      ∧ ((∀ k ∈ (coilSettingsOf b).checks, k.2 = true) →
        ((s.sec c.sec).state = .disabled ∨ (s.coil c).settings = coilSettingsOf b →
          exec .writeCoilSettings s = .next (conclude (answer r (done
            (s.modCoil c fun k => { k with settings := coilSettingsOf b })))))
        ∧ ((s.sec c.sec).state ≠ .disabled → (s.coil c).settings ≠ coilSettingsOf b →
          exec .writeCoilSettings s = .next (conclude (answer r (unchanged s .state))))))
    ∧ (word b 0 ≠ 1 → word b 0 ≠ 2 →
      (Serving s 9 r b → b.length = 108 →
        exec .writeSectionSettings s = .next (conclude (answer r (unchanged s (.range 0 none)))))
      ∧ (Serving s 11 r b → b.length = 24 →
        exec .writeCoilSettings s = .next (conclude (answer r (unchanged s (.range 0 none))))))

/-- WRITE_GLOBAL: the first field out of range is named; in range, with both sections DISABLED every setting is taken, both
rings and both estimates are cleared and every valid SAMPLE slot forgets its last count; otherwise SHARE and the enables alone,
where the locked two are equal (R22, R47, R85, R163, R172, R176). -/
def Obligations.WriteGlobalTakes : Prop :=
  ∀ (s : State) (r : Request) (b : List Byte), Serving s 12 r b → b.length = 100 →
    let refused (k : Nat) := exec .writeGlobal s = .next (conclude (answer r (unchanged s (.range k none))))
    (word b 0 ≠ 50 → word b 0 ≠ 60 → refused 1)
    ∧ ∀ q : Nominal, word b 0 = q.hertz →
      (256 < word b 1 → refused 2)
      ∧ (word b 1 ≤ 256 →
        (word b 2 < 50 ∨ 60000 < word b 2 → refused 3)
        ∧ (50 ≤ word b 2 → word b 2 ≤ 60000 →
          (∀ k < 22, 1 < word b (3 + k) → (∀ j < k, word b (3 + j) ≤ 1) → refused (4 + k))
          ∧ ((∀ k < 22, word b (3 + k) ≤ 1) →
            (s.sec1.state = .disabled → s.sec2.state = .disabled →
              ∃ u, exec .writeGlobal s = .next (conclude (answer r (done u)))
                ∧ u.nominal = q ∧ u.share = word b 1 ∧ u.couplerTimeout = word b 2
                ∧ u.events = { s.events with enables := enablesOf b }
                ∧ (∀ n, u.sec n = { (s.sec n) with
                    ring := Ring.cleared, estimate := Estimate.cleared, counter := 0
                    engine := { (s.sec n).engine with quick := (s.sec n).settings.quickWindows } })
                ∧ (∀ i, u.slot i = (s.slot i).forgetCount)
                ∧ u.coil1 = s.coil1 ∧ u.coil2 = s.coil2 ∧ u.portA = s.portA ∧ u.portB = s.portB
                ∧ u.coupler = s.coupler)
            ∧ (s.sec1.state ≠ .disabled ∨ s.sec2.state ≠ .disabled →
              (s.nominal = q ∧ s.couplerTimeout = word b 2 →
                exec .writeGlobal s = .next (conclude (answer r (done
                  { s with share := word b 1, events := { s.events with enables := enablesOf b } }))))
              ∧ (¬ (s.nominal = q ∧ s.couplerTimeout = word b 2) →
                exec .writeGlobal s = .next (conclude (answer r (unchanged s .state))))))))

/-- ENABLE_SECTION starts a section that passes the checks of R134 and is refused otherwise (R133, R134). -/
def Obligations.EnableSectionStarts : Prop :=
  ∀ (s : State) (r : Request) (b : List Byte) (n : SecId), Serving s 17 r b → b.length = 4 →
    word b 0 = SecId.number n →
    let fed (o : Role) := ∃ i d bs, (s.slot i).defn = some d ∧ d.body = .sample bs
      ∧ ((s.slot i).state = .active ∨ (s.slot i).state = .warning) ∧ ∃ x ∈ bs, x.role = o ∧ x.sec = n
    let driven := ∃ i d, (s.slot i).defn = some d ∧ d.body = .drive n.coil
      ∧ ((s.slot i).state = .active ∨ (s.slot i).state = .warning)
    let passes := (s.sec n).state = .disabled ∧ (s.coil n.coil).table ≠ [] ∧ fed .voltage ∧ fed .current ∧ driven
      ∧ ∀ c ∈ s.drives n, (s.coil c).failed = false
    (passes → ∃ u, exec .enableSection s = .next (conclude (answer r (done u))) ∧ Started n s u)
    ∧ (¬ passes → exec .enableSection s = .next (conclude (answer r (unchanged s .state))))

/-- DISABLE_SECTION is accepted in every state: a DISABLED section is left as it is, JOINED section 2 takes return state
DISABLED, and any other section enters DISABLED with the effects of R136, its INJECT_OFF requested among them (R136, R139). -/
def Obligations.DisableSectionStops : Prop :=
  ∀ (s : State) (r : Request) (b : List Byte) (n : SecId), Serving s 18 r b → b.length = 4 →
    word b 0 = SecId.number n →
    ((s.sec n).state = .disabled → exec .disableSection s = .next (conclude (answer r (done s))))
    ∧ ((s.sec n).state = .joined →
      exec .disableSection s = .next (conclude (answer r (done { s with ret2 := .disabled }))))
    ∧ ((s.sec n).state ≠ .disabled → (s.sec n).state ≠ .joined →
      ∃ u, exec .disableSection s = .next (conclude (answer r (done u)))
        ∧ (u.sec n).state = .disabled ∧ (u.sec n).entryTime = s.ms ∧ (u.sec n).engine.state = .off
        ∧ (u.sec n).sup.phase = .idle ∧ (u.sec n).ring = (s.sec n).ring ∧ (u.sec n).estimate = (s.sec n).estimate
        ∧ (u.sec n).settings = (s.sec n).settings ∧ (u.sec n).lastHalt = (s.sec n).lastHalt
        ∧ (u.sec n).inhibit = (s.sec n).inhibit ∧ (u.sec n).decision = (s.sec n).decision
        ∧ (∀ m, m ≠ n → (s.sec m).agreesButSup (u.sec m))
        ∧ (∀ c ∈ s.drives n, (u.coil c).pendMove = none ∧ (u.coil c).move = (s.coil c).move) ∧ Silenced n s u
        ∧ (n = .s1 → s.joined = true → .joinUntuned ∈ u.events.summary)
        ∧ (n = .s2 ∨ s.joined = false → u.events = s.events)
        ∧ u.slots = s.slots ∧ u.coupler = s.coupler)

/-- RESTART_SECTION starts a HALTED section whose driven coils are not FAILED, and is refused for a section number other than
1 or 2, in any other section state, and while a driven coil is FAILED; the last halt cause is kept (R138). -/
def Obligations.RestartSectionStarts : Prop :=
  ∀ (s : State) (r : Request) (b : List Byte), Serving s 19 r b → b.length = 4 →
    (word b 0 ≠ 1 → word b 0 ≠ 2 →
      exec .restartSection s = .next (conclude (answer r (unchanged s (.range 0 none)))))
    ∧ ∀ n : SecId, word b 0 = SecId.number n →
      ((s.sec n).state ≠ .halted ∨ (∃ c ∈ s.drives n, (s.coil c).failed = true) →
        exec .restartSection s = .next (conclude (answer r (unchanged s .state))))
      ∧ ((s.sec n).state = .halted → (∀ c ∈ s.drives n, (s.coil c).failed = false) →
        ∃ u, exec .restartSection s = .next (conclude (answer r (done u)))
          ∧ Started n s u ∧ (u.sec n).lastHalt = (s.sec n).lastHalt)

/-- FREEZE and UNFREEZE change FROZEN alone, and a set that becomes non-empty clears the pending targets of the coils the
section drives (R144). RELEASE_COIL frees a FAILED coil with its toggle absent and its reported state kept, and is refused
otherwise (R126). -/
def Obligations.FreezeUnfreezeAndRelease : Prop :=
  ∀ (s : State) (r : Request) (b : List Byte), b.length = 4 →
    (∀ n : SecId, word b 0 = SecId.number n →
      (Serving s 20 r b →
        ∃ u, exec .freeze s = .next (conclude (answer r (done u)))
          ∧ u.sec n = { (s.sec n) with inhibit := { (s.sec n).inhibit with frozen := true } }
          ∧ (∀ m, m ≠ n → u.sec m = s.sec m)
          ∧ (∀ c, u.coil c = if (s.sec n).inhibit.isEmpty = true ∧ c ∈ s.drives n then { s.coil c with pendMove := none }
                             else s.coil c)
          ∧ AgreeBeyondLinks { s with sec1 := u.sec1, sec2 := u.sec2 } u ∧ u.portA = s.portA ∧ u.portB = s.portB)
      ∧ (Serving s 21 r b →
        exec .unfreeze s = .next (conclude (answer r (done
          (s.modSec n fun x => { x with inhibit := { x.inhibit with frozen := false } }))))))
    ∧ ∀ c : CoilId, word b 0 = CoilId.number c → Serving s 22 r b →
      ((s.coil c).failed = false → exec .releaseCoil s = .next (conclude (answer r (unchanged s .state))))
      ∧ ((s.coil c).failed = true →
        exec .releaseCoil s = .next (conclude (answer r (done
          (s.modCoil c fun k => { k with failed := false, toggle := none }))))
        ∧ ((s.coil c).rests →
          ({ s.coil c with failed := false, toggle := none }).state
            = if (s.coil c).binding.isSome then .idle else .unbound))

/-- MANUAL_MOVE: refused for a position outside the table range, or unless the driving section is DISABLED and the coil
neither FAILED nor UNBOUND; the present aim is not placed again; any other position becomes the pending target, or at once the
move in flight (R111, R113, R127). -/
def Obligations.ManualMovePlaces : Prop :=
  ∀ (s : State) (r : Request) (b : List Byte) (c : CoilId), Serving s 23 r b → b.length = 8 →
    word b 0 = CoilId.number c →
    (inTableRange (s.coil c).table (word b 1) = false →
      exec .manualMove s = .next (conclude (answer r (unchanged s (.range 1 none)))))
    ∧ (inTableRange (s.coil c).table (word b 1) = true →
      ((s.sec (s.driver c)).state ≠ .disabled ∨ (s.coil c).state = .failed ∨ (s.coil c).state = .unbound →
        exec .manualMove s = .next (conclude (answer r (unchanged s .state))))
      ∧ ((s.sec (s.driver c)).state = .disabled → (s.coil c).state ≠ .failed → (s.coil c).state ≠ .unbound →
        ((s.coil c).presentAim = some (word b 1) → exec .manualMove s = .next (conclude (answer r (done s))))
        ∧ ((s.coil c).presentAim ≠ some (word b 1) →
          ∃ u, exec .manualMove s = .next (conclude (answer r (done u)))
            ∧ MovePlaced c (word b 1) .manual u
            ∧ (∀ c', c' ≠ c → u.coil c' = s.coil c') ∧ AgreeBeyondLinks s u)))

/-- RESET_PART returns the part to its initial condition and keeps what is configured; an injecting coil whose arrival port is
UP and had nothing waiting is sent one untracked INJECT_OFF with the next toggle, and a record in flight that waits for a place is
kept for the arrival port (R14, R33, R48, R70, R88, R106, R130, R149, R160, R170, R178; that the counters are cleared after what
the reset discards at a DOWN port is notes/assumptions/12.md's, and that the fault records keep no onset index or peak
notes/assumptions/43.md's). -/
def Obligations.ResetPartKeepsConfiguration : Prop :=
  ∀ (s : State) (r : Request) (b : List Byte), Serving s 24 r b → b = [] →
    ∃ u, exec .resetPart s = .next (conclude (answer r (done u)))
      ∧ u.ms = 0 ∧ u.requests = s.requests.take 1 ∧ u.requestDrops = 0 ∧ u.station = s.station
      ∧ (∀ i, u.slot i = Slot.fresh (s.slot i).defn) ∧ u.maskA = s.maskA ∧ u.maskB = s.maskB
      ∧ u.nominal = s.nominal ∧ u.share = s.share ∧ u.couplerTimeout = s.couplerTimeout
      ∧ (∀ n, u.sec n = Section.initial (s.sec n).settings { frozen := false, unsure := s.coupler.configured })
      ∧ u.ret2 = .disabled
      ∧ u.coupler = { configured := s.coupler.configured, available := s.coupler.configured, last := none, held := .open
                      unsure := { noValue := s.coupler.configured, unavailable := false, value := false, stale := false }
                      staleTimer := none }
      ∧ u.events = EventUnit.initial s.events.enables
      ∧ (∀ c, (u.coil c).table = (s.coil c).table ∧ (u.coil c).settings = (s.coil c).settings
          ∧ (u.coil c).binding = (s.coil c).binding ∧ (u.coil c).rests ∧ (u.coil c).failed = false
          ∧ (u.coil c).reported = none ∧ (u.coil c).arrival = none
          ∧ (u.coil c).toggle = if (s.coil c).heldInj = .off then none else (s.coil c).toggle.map fun t => !t)
      ∧ (∀ p, (u.port p).link = (s.port p).link ∧ (u.port p).forward = [] ∧ (u.port p).framesIn = 0
          ∧ (u.port p).framesInError = 0 ∧ (u.port p).framesOut = 0 ∧ (u.port p).forwardDrops = 0
          ∧ (u.port p).originDrops = 0 ∧ (u.port p).unmatched = 0 ∧ (u.port p).latch = ((s.port p).link == .down))
      ∧ (∀ c p t, (s.coil c).heldInj ≠ .off → (s.coil c).toggle = some t → (s.coil c).arrival = some p →
          (s.port p).link = .up → (s.port p).origin = [] → (∀ c', (s.coil c').waiting = []) →
          .record c false { kind := .injectOff, toggle := !t } ∈ (u.port p).origin)
      ∧ ∀ c p w f, (s.coil c).heldInj ≠ .off → (s.coil c).arrival = some p → w ∈ (s.coil c).waiting → w.tracked = true →
          (s.coil c).inFlight = some f → f.record = w.record → (s.port p).link = .up → (s.port p).origin = [] →
          (∀ c', c' ≠ c → (s.coil c').waiting = []) → .record c false w.record ∈ (u.port p).origin

/-- A request too short for its header is answered REFUSED_LENGTH and one of a kind outside 1 to 24 REFUSED_KIND; a request of a
known kind whose body runs past its frame, or does not hold exactly its kind's fields, is answered REFUSED_LENGTH (R172). -/
def Obligations.UnknownRequestRefused : Prop :=
  ∀ (s : State) (r : Request), s.live = true → s.requests.head? = some r →
    (r.holdsHeader = false →
      exec .unknownRequest s = .next (conclude (answer r (unchanged s .length))))
    ∧ (r.holdsHeader = true → r.kind = 0 ∨ 24 < r.kind →
      exec .unknownRequest s = .next (conclude (answer r (unchanged s .kind))))
    ∧ (r.holdsHeader = true → 1 ≤ r.kind → r.kind ≤ 24 → r.body = none ∨ (∃ b, r.body = some b ∧ bodyFits r.kind b = false) →
      exec (requestCommand r.kind) s = .next (conclude (answer r (unchanged s .length))))

/-- Every executed request is answered once, at the end: its response enters the origin queue of its arrival port behind the
frames of its class, is discarded at a DOWN link, or is dropped at a full queue with ORIGIN_DROP; and the request leaves its
queue (R6, R7, R8, R11, R171). The notice of a READ_EVENTS that moved a record up follows the response to both ports, port A
first, each copy in the same three ways (R166, R167; port A first is the model's choice, notes/assumptions/18.md). -/
def Obligations.ResponseOffered : Prop :=
  (∀ (r : Request) (x : Served), x.after = none →
    let m := OriginMsg.response (x.reply.response r)
    ((x.state.port r.port).link = .down →
      answer r x = { x.state.modPort r.port (fun y => { y with originDrops := satInc y.originDrops }) with
        requests := x.state.requests.drop 1 })
    ∧ ((x.state.port r.port).link = .up → (x.state.port r.port).originOccupancy < 8 →
      answer r x = { x.state.modPort r.port (fun y => { y with origin := enqueueByClass y.origin m }) with
        requests := x.state.requests.drop 1 })
    ∧ ((x.state.port r.port).link = .up → 8 ≤ (x.state.port r.port).originOccupancy →
      .originDrop ∈ (answer r x).events.summary
        ∧ ((answer r x).port r.port).origin = (x.state.port r.port).origin
        ∧ satInc (x.state.port r.port).originDrops ≤ ((answer r x).port r.port).originDrops
        ∧ (answer r x).requests = x.state.requests.drop 1))
  ∧ (∀ (r : Request) (x : Served) (e : Source), x.after = some e →
    answer r x = offerNotice e .b (offerNotice e .a (answer r { x with after := none }))
    ∧ (x.state.portA.link = .up → x.state.portB.link = .up → x.state.portA.originOccupancy < 7 →
        x.state.portB.originOccupancy < 7 → ∀ p,
        ((answer r x).port p).origin =
          enqueueByClass
            (if p = r.port then enqueueByClass (x.state.port p).origin (.response (x.reply.response r))
             else (x.state.port p).origin)
            (.notice e)))
  ∧ ∀ (e : Source) (p : Port) (s : State),
    ((s.port p).link = .down →
      offerNotice e p s = s.modPort p fun y => { y with originDrops := satInc y.originDrops })
    ∧ ((s.port p).link = .up → (s.port p).originOccupancy < 8 →
      offerNotice e p s = s.modPort p fun y => { y with origin := enqueueByClass y.origin (.notice e) })
    ∧ ((s.port p).link = .up → 8 ≤ (s.port p).originOccupancy → s.events.level1.isSome = true →
      let t := offerNotice e p s
      .originDrop ∈ t.events.summary
        ∧ t = { s.modPort p fun y => { y with originDrops := satInc y.originDrops } with events := t.events })

/-- The end of every step: waiting records enter, silence supervision follows its conditions and idle transmitters choose,
origin frames before forwarded ones; nothing else changes (R6, R7, R9, R123; that these fall at the end of the step is the
model's choice, notes/assumptions/6.md). -/
def Obligations.ConcludeFrame : Prop :=
  ∀ s : State,
    AgreeBeyondLinks s (conclude s)
    ∧ (∀ c, (s.coil c).agrees ((conclude s).coil c))
    ∧ (∀ p, (s.port p).agrees ((conclude s).port p))
    ∧ (∀ c, ((conclude s).coil c).silenceTimer.isSome = silenceArmed c (conclude s))
    ∧ (s.coil1.waiting = [] → s.coil2.waiting = [] → ∀ p,
      ((s.port p).tx ≠ .idle ∨ (s.port p).link = .down → (conclude s).port p = s.port p)
      ∧ ((s.port p).tx = .idle → (s.port p).link = .up →
        (∀ m q, (s.port p).origin = m :: q →
          (conclude s).port p = { s.port p with tx := .origin m true, origin := q })
        ∧ (∀ f q, (s.port p).origin = [] → (s.port p).forward = f :: q →
          (conclude s).port p = { s.port p with tx := .forward f true, forward := q })
        ∧ ((s.port p).origin = [] → (s.port p).forward = [] → (conclude s).port p = s.port p)))

/-! ### Frames the part sends (chapter 12) -/

/-- A frame formed around a message of at most 1504 bytes passes the check of R1. Every message the part originates is sent in
such a frame, to the broadcast address from the part's source address, with the type value of the vendor's frames and the message
after it, and a part that receives it classes it as one of the part's own kinds, which are relayed and never consumed (R2, R8,
R181). What a port sends is that frame under the part's station number, or the relayed frame as it came (R5). -/
def Obligations.OwnFramesAreOwn : Prop :=
  (∀ (st : BitVec 4) (m : List Byte), m.length ≤ 1504 → frameBad (originFrame st m) = false)
  ∧ (∀ (st : BitVec 4) (m : OriginMsg),
    classify (m.frame st) = .own
    ∧ (m.frame st).take 14 = List.replicate 6 255 ++ [2, 0, 0, 0, 0xC2, st.setWidth 8, 0x88, 0xB5]
    ∧ ((m.frame st).drop 14).take (m.message st).length = m.message st
    ∧ match m with
      | .record c _ r =>
        m.message st = [0, 17, 0, 10, BitVec.ofNat 8 r.kind.code, BitVec.ofNat 8 (CoilId.number c), if r.toggle then 1 else 0,
                        0] ++ beBytes 2 r.kind.parameter
          ∧ frameBad (m.frame st) = false
      | .notice e =>
        m.message st = [0, 35, 0, 12, BitVec.ofNat 8 e.kind.code.val, BitVec.ofNat 8 e.obj.typeNumber.1,
                        BitVec.ofNat 8 e.obj.typeNumber.2, st.setWidth 8] ++ beBytes 4 e.time.toNat
          ∧ frameBad (m.frame st) = false
      | .response r => r.tag.length = 2 → r.answer.length ≤ 1494 → frameBad (m.frame st) = false)
  ∧ ∀ (s : State) (p : Port) (b : Bool),
    (∀ m, (s.port p).tx = .origin m b → s.frameOnWire p = some (m.frame s.station))
    ∧ ∀ f, (s.port p).tx = .forward f b → s.frameOnWire p = some f

/-! ### Invariants of the whole part -/

/-- The state after reset meets every invariant of the statements below. Its straps and link states are the model's choice
(notes/assumptions/4.md). -/
def Obligations.ResetMeetsInvariants : Prop :=
  QueuesBounded State.reset ∧ DownPortsEmpty State.reset ∧ RingsWellFormed State.reset ∧ LevelsInOrder State.reset
    ∧ JoinFollowsCoupler State.reset ∧ EnginesFollow State.reset ∧ SupervisorsFollow State.reset
    ∧ FailedCoilsRest State.reset ∧ SettingsLegal State.reset ∧ EstimatesInRange State.reset ∧ BandsHold State.reset
    ∧ StreamTableLegal State.reset

/-- Every step keeps the bounds and the order of the queues, and the emptiness of a DOWN port (R5, R6, R10, R11, R171). -/
def Obligations.StepKeepsQueues : Prop :=
  ∀ s t : State, QueuesBounded s → DownPortsEmpty s → step s = .next t → QueuesBounded t ∧ DownPortsEmpty t

/-- Every step keeps the form of both rings (R34, R35, R36, R39). -/
def Obligations.StepKeepsRings : Prop :=
  ∀ s t : State, RingsWellFormed s → step s = .next t → RingsWellFormed t

/-- Every step keeps the order of the report levels and the ALARM line with its mark (R164, R165). -/
def Obligations.StepKeepsLevels : Prop :=
  ∀ s t : State, LevelsInOrder s → step s = .next t → LevelsInOrder t

/-- Every step keeps section 2 with the coupler, and each window engine and fault supervisor with its section (R51, R131). -/
def Obligations.StepKeepsSections : Prop :=
  ∀ s t : State, JoinFollowsCoupler s → EnginesFollow s → SupervisorsFollow s → step s = .next t →
    JoinFollowsCoupler t ∧ EnginesFollow t ∧ SupervisorsFollow t

/-- Every step keeps a FAILED coil without work (R112, R125, R126). -/
def Obligations.StepKeepsFailedCoilsAtRest : Prop :=
  ∀ s t : State, FailedCoilsRest s → step s = .next t → FailedCoilsRest t

/-- Every step keeps every setting and coil table within its rule, and every estimate within its range (R50, R75, R78, R89,
R150, R172, R176). -/
def Obligations.StepKeepsSettingsAndEstimates : Prop :=
  ∀ s t : State, SettingsLegal s → EstimatesInRange s → step s = .next t → SettingsLegal t ∧ EstimatesInRange t

/-- Every step keeps the form of the stream table, the bindings with it, and each slot in its band (R15, R24, R109, R142). -/
def Obligations.StepKeepsStreamTable : Prop :=
  ∀ s t : State, StreamTableLegal s → BandsHold s → step s = .next t → StreamTableLegal t ∧ BandsHold t
end

