-- ==== Sys2Proof/Laws/State.lean ====
section
/-! SUPPORT. Laws/State.lean: one lemma per field of State per named update, so that no later proof unfolds an update of a
part; and what reading a part after writing it gives. -/

namespace Sys2Proof.Machine

/-! ### Writing a port -/

@[simp] theorem State.setPort_pending (s : State) (p : Port) (x : PortState) : (s.setPort p x).pending = s.pending :=
    by cases p <;> rfl
@[simp] theorem State.setPort_supplyOk (s : State) (p : Port) (x : PortState) : (s.setPort p x).supplyOk = s.supplyOk :=
    by cases p <;> rfl
@[simp] theorem State.setPort_held (s : State) (p : Port) (x : PortState) : (s.setPort p x).held = s.held :=
    by cases p <;> rfl
@[simp] theorem State.setPort_ms (s : State) (p : Port) (x : PortState) : (s.setPort p x).ms = s.ms :=
    by cases p <;> rfl
@[simp] theorem State.setPort_station (s : State) (p : Port) (x : PortState) : (s.setPort p x).station = s.station :=
    by cases p <;> rfl
@[simp] theorem State.setPort_slots (s : State) (p : Port) (x : PortState) : (s.setPort p x).slots = s.slots :=
    by cases p <;> rfl
@[simp] theorem State.setPort_maskA (s : State) (p : Port) (x : PortState) : (s.setPort p x).maskA = s.maskA :=
    by cases p <;> rfl
@[simp] theorem State.setPort_maskB (s : State) (p : Port) (x : PortState) : (s.setPort p x).maskB = s.maskB :=
    by cases p <;> rfl
@[simp] theorem State.setPort_nominal (s : State) (p : Port) (x : PortState) : (s.setPort p x).nominal = s.nominal :=
    by cases p <;> rfl
@[simp] theorem State.setPort_share (s : State) (p : Port) (x : PortState) : (s.setPort p x).share = s.share :=
    by cases p <;> rfl
@[simp] theorem State.setPort_couplerTimeout (s : State) (p : Port) (x : PortState) : (s.setPort p x).couplerTimeout = s.couplerTimeout :=
    by cases p <;> rfl
@[simp] theorem State.setPort_sec1 (s : State) (p : Port) (x : PortState) : (s.setPort p x).sec1 = s.sec1 :=
    by cases p <;> rfl
@[simp] theorem State.setPort_sec2 (s : State) (p : Port) (x : PortState) : (s.setPort p x).sec2 = s.sec2 :=
    by cases p <;> rfl
@[simp] theorem State.setPort_ret2 (s : State) (p : Port) (x : PortState) : (s.setPort p x).ret2 = s.ret2 :=
    by cases p <;> rfl
@[simp] theorem State.setPort_coil1 (s : State) (p : Port) (x : PortState) : (s.setPort p x).coil1 = s.coil1 :=
    by cases p <;> rfl
@[simp] theorem State.setPort_coil2 (s : State) (p : Port) (x : PortState) : (s.setPort p x).coil2 = s.coil2 :=
    by cases p <;> rfl
@[simp] theorem State.setPort_coupler (s : State) (p : Port) (x : PortState) : (s.setPort p x).coupler = s.coupler :=
    by cases p <;> rfl
@[simp] theorem State.setPort_events (s : State) (p : Port) (x : PortState) : (s.setPort p x).events = s.events :=
    by cases p <;> rfl
@[simp] theorem State.setPort_requests (s : State) (p : Port) (x : PortState) : (s.setPort p x).requests = s.requests :=
    by cases p <;> rfl
@[simp] theorem State.setPort_requestDrops (s : State) (p : Port) (x : PortState) : (s.setPort p x).requestDrops = s.requestDrops :=
    by cases p <;> rfl

@[simp] theorem State.port_setPort (s : State) (p : Port) (x : PortState) : (s.setPort p x).port p = x := by
  cases p <;> rfl
@[simp] theorem State.port_setPort_other (s : State) (p q : Port) (x : PortState) (h : q ≠ p) :
    (s.setPort p x).port q = s.port q := by
  cases p <;> cases q <;> first | rfl | exact absurd rfl h
@[simp] theorem State.port_a (s : State) : s.port .a = s.portA := rfl
@[simp] theorem State.port_b (s : State) : s.port .b = s.portB := rfl
@[simp] theorem State.setPort_a (s : State) (x : PortState) : s.setPort .a x = { s with portA := x } := rfl
@[simp] theorem State.setPort_b (s : State) (x : PortState) : s.setPort .b x = { s with portB := x } := rfl

/-! ### Changing a port -/

@[simp] theorem State.modPort_pending (s : State) (p : Port) (f : PortState → PortState) : (s.modPort p f).pending = s.pending :=
    by cases p <;> rfl
@[simp] theorem State.modPort_supplyOk (s : State) (p : Port) (f : PortState → PortState) : (s.modPort p f).supplyOk = s.supplyOk :=
    by cases p <;> rfl
@[simp] theorem State.modPort_held (s : State) (p : Port) (f : PortState → PortState) : (s.modPort p f).held = s.held :=
    by cases p <;> rfl
@[simp] theorem State.modPort_ms (s : State) (p : Port) (f : PortState → PortState) : (s.modPort p f).ms = s.ms :=
    by cases p <;> rfl
@[simp] theorem State.modPort_station (s : State) (p : Port) (f : PortState → PortState) : (s.modPort p f).station = s.station :=
    by cases p <;> rfl
@[simp] theorem State.modPort_slots (s : State) (p : Port) (f : PortState → PortState) : (s.modPort p f).slots = s.slots :=
    by cases p <;> rfl
@[simp] theorem State.modPort_maskA (s : State) (p : Port) (f : PortState → PortState) : (s.modPort p f).maskA = s.maskA :=
    by cases p <;> rfl
@[simp] theorem State.modPort_maskB (s : State) (p : Port) (f : PortState → PortState) : (s.modPort p f).maskB = s.maskB :=
    by cases p <;> rfl
@[simp] theorem State.modPort_nominal (s : State) (p : Port) (f : PortState → PortState) : (s.modPort p f).nominal = s.nominal :=
    by cases p <;> rfl
@[simp] theorem State.modPort_share (s : State) (p : Port) (f : PortState → PortState) : (s.modPort p f).share = s.share :=
    by cases p <;> rfl
@[simp] theorem State.modPort_couplerTimeout (s : State) (p : Port) (f : PortState → PortState) : (s.modPort p f).couplerTimeout = s.couplerTimeout :=
    by cases p <;> rfl
@[simp] theorem State.modPort_sec1 (s : State) (p : Port) (f : PortState → PortState) : (s.modPort p f).sec1 = s.sec1 :=
    by cases p <;> rfl
@[simp] theorem State.modPort_sec2 (s : State) (p : Port) (f : PortState → PortState) : (s.modPort p f).sec2 = s.sec2 :=
    by cases p <;> rfl
@[simp] theorem State.modPort_ret2 (s : State) (p : Port) (f : PortState → PortState) : (s.modPort p f).ret2 = s.ret2 :=
    by cases p <;> rfl
@[simp] theorem State.modPort_coil1 (s : State) (p : Port) (f : PortState → PortState) : (s.modPort p f).coil1 = s.coil1 :=
    by cases p <;> rfl
@[simp] theorem State.modPort_coil2 (s : State) (p : Port) (f : PortState → PortState) : (s.modPort p f).coil2 = s.coil2 :=
    by cases p <;> rfl
@[simp] theorem State.modPort_coupler (s : State) (p : Port) (f : PortState → PortState) : (s.modPort p f).coupler = s.coupler :=
    by cases p <;> rfl
@[simp] theorem State.modPort_events (s : State) (p : Port) (f : PortState → PortState) : (s.modPort p f).events = s.events :=
    by cases p <;> rfl
@[simp] theorem State.modPort_requests (s : State) (p : Port) (f : PortState → PortState) : (s.modPort p f).requests = s.requests :=
    by cases p <;> rfl
@[simp] theorem State.modPort_requestDrops (s : State) (p : Port) (f : PortState → PortState) : (s.modPort p f).requestDrops = s.requestDrops :=
    by cases p <;> rfl

@[simp] theorem State.port_modPort (s : State) (p : Port) (f : PortState → PortState) :
    (s.modPort p f).port p = f (s.port p) := State.port_setPort s p _
@[simp] theorem State.port_modPort_other (s : State) (p q : Port) (f : PortState → PortState) (h : q ≠ p) :
    (s.modPort p f).port q = s.port q := State.port_setPort_other s p q _ h

/-! ### Writing a section -/

@[simp] theorem State.setSec_pending (s : State) (n : SecId) (x : Section) : (s.setSec n x).pending = s.pending :=
    by cases n <;> rfl
@[simp] theorem State.setSec_supplyOk (s : State) (n : SecId) (x : Section) : (s.setSec n x).supplyOk = s.supplyOk :=
    by cases n <;> rfl
@[simp] theorem State.setSec_held (s : State) (n : SecId) (x : Section) : (s.setSec n x).held = s.held :=
    by cases n <;> rfl
@[simp] theorem State.setSec_ms (s : State) (n : SecId) (x : Section) : (s.setSec n x).ms = s.ms := by cases n <;> rfl
@[simp] theorem State.setSec_station (s : State) (n : SecId) (x : Section) : (s.setSec n x).station = s.station :=
    by cases n <;> rfl
@[simp] theorem State.setSec_portA (s : State) (n : SecId) (x : Section) : (s.setSec n x).portA = s.portA :=
    by cases n <;> rfl
@[simp] theorem State.setSec_portB (s : State) (n : SecId) (x : Section) : (s.setSec n x).portB = s.portB :=
    by cases n <;> rfl
@[simp] theorem State.setSec_slots (s : State) (n : SecId) (x : Section) : (s.setSec n x).slots = s.slots :=
    by cases n <;> rfl
@[simp] theorem State.setSec_maskA (s : State) (n : SecId) (x : Section) : (s.setSec n x).maskA = s.maskA :=
    by cases n <;> rfl
@[simp] theorem State.setSec_maskB (s : State) (n : SecId) (x : Section) : (s.setSec n x).maskB = s.maskB :=
    by cases n <;> rfl
@[simp] theorem State.setSec_nominal (s : State) (n : SecId) (x : Section) : (s.setSec n x).nominal = s.nominal :=
    by cases n <;> rfl
@[simp] theorem State.setSec_share (s : State) (n : SecId) (x : Section) : (s.setSec n x).share = s.share :=
    by cases n <;> rfl
@[simp] theorem State.setSec_couplerTimeout (s : State) (n : SecId) (x : Section) : (s.setSec n x).couplerTimeout = s.couplerTimeout :=
    by cases n <;> rfl
@[simp] theorem State.setSec_ret2 (s : State) (n : SecId) (x : Section) : (s.setSec n x).ret2 = s.ret2 :=
    by cases n <;> rfl
@[simp] theorem State.setSec_coil1 (s : State) (n : SecId) (x : Section) : (s.setSec n x).coil1 = s.coil1 :=
    by cases n <;> rfl
@[simp] theorem State.setSec_coil2 (s : State) (n : SecId) (x : Section) : (s.setSec n x).coil2 = s.coil2 :=
    by cases n <;> rfl
@[simp] theorem State.setSec_coupler (s : State) (n : SecId) (x : Section) : (s.setSec n x).coupler = s.coupler :=
    by cases n <;> rfl
@[simp] theorem State.setSec_events (s : State) (n : SecId) (x : Section) : (s.setSec n x).events = s.events :=
    by cases n <;> rfl
@[simp] theorem State.setSec_requests (s : State) (n : SecId) (x : Section) : (s.setSec n x).requests = s.requests :=
    by cases n <;> rfl
@[simp] theorem State.setSec_requestDrops (s : State) (n : SecId) (x : Section) : (s.setSec n x).requestDrops = s.requestDrops :=
    by cases n <;> rfl

@[simp] theorem State.sec_setSec (s : State) (n : SecId) (x : Section) : (s.setSec n x).sec n = x := by
  cases n <;> rfl
@[simp] theorem State.sec_setSec_other (s : State) (n k : SecId) (x : Section) (h : k ≠ n) :
    (s.setSec n x).sec k = s.sec k := by
  cases n <;> cases k <;> first | rfl | exact absurd rfl h
@[simp] theorem State.sec_s1 (s : State) : s.sec .s1 = s.sec1 := rfl
@[simp] theorem State.sec_s2 (s : State) : s.sec .s2 = s.sec2 := rfl

/-! ### Changing a section -/

@[simp] theorem State.modSec_pending (s : State) (n : SecId) (f : Section → Section) : (s.modSec n f).pending = s.pending :=
    by cases n <;> rfl
@[simp] theorem State.modSec_supplyOk (s : State) (n : SecId) (f : Section → Section) : (s.modSec n f).supplyOk = s.supplyOk :=
    by cases n <;> rfl
@[simp] theorem State.modSec_held (s : State) (n : SecId) (f : Section → Section) : (s.modSec n f).held = s.held :=
    by cases n <;> rfl
@[simp] theorem State.modSec_ms (s : State) (n : SecId) (f : Section → Section) : (s.modSec n f).ms = s.ms :=
    by cases n <;> rfl
@[simp] theorem State.modSec_station (s : State) (n : SecId) (f : Section → Section) : (s.modSec n f).station = s.station :=
    by cases n <;> rfl
@[simp] theorem State.modSec_portA (s : State) (n : SecId) (f : Section → Section) : (s.modSec n f).portA = s.portA :=
    by cases n <;> rfl
@[simp] theorem State.modSec_portB (s : State) (n : SecId) (f : Section → Section) : (s.modSec n f).portB = s.portB :=
    by cases n <;> rfl
@[simp] theorem State.modSec_slots (s : State) (n : SecId) (f : Section → Section) : (s.modSec n f).slots = s.slots :=
    by cases n <;> rfl
@[simp] theorem State.modSec_maskA (s : State) (n : SecId) (f : Section → Section) : (s.modSec n f).maskA = s.maskA :=
    by cases n <;> rfl
@[simp] theorem State.modSec_maskB (s : State) (n : SecId) (f : Section → Section) : (s.modSec n f).maskB = s.maskB :=
    by cases n <;> rfl
@[simp] theorem State.modSec_nominal (s : State) (n : SecId) (f : Section → Section) : (s.modSec n f).nominal = s.nominal :=
    by cases n <;> rfl
@[simp] theorem State.modSec_share (s : State) (n : SecId) (f : Section → Section) : (s.modSec n f).share = s.share :=
    by cases n <;> rfl
@[simp] theorem State.modSec_couplerTimeout (s : State) (n : SecId) (f : Section → Section) : (s.modSec n f).couplerTimeout = s.couplerTimeout :=
    by cases n <;> rfl
@[simp] theorem State.modSec_ret2 (s : State) (n : SecId) (f : Section → Section) : (s.modSec n f).ret2 = s.ret2 :=
    by cases n <;> rfl
@[simp] theorem State.modSec_coil1 (s : State) (n : SecId) (f : Section → Section) : (s.modSec n f).coil1 = s.coil1 :=
    by cases n <;> rfl
@[simp] theorem State.modSec_coil2 (s : State) (n : SecId) (f : Section → Section) : (s.modSec n f).coil2 = s.coil2 :=
    by cases n <;> rfl
@[simp] theorem State.modSec_coupler (s : State) (n : SecId) (f : Section → Section) : (s.modSec n f).coupler = s.coupler :=
    by cases n <;> rfl
@[simp] theorem State.modSec_events (s : State) (n : SecId) (f : Section → Section) : (s.modSec n f).events = s.events :=
    by cases n <;> rfl
@[simp] theorem State.modSec_requests (s : State) (n : SecId) (f : Section → Section) : (s.modSec n f).requests = s.requests :=
    by cases n <;> rfl
@[simp] theorem State.modSec_requestDrops (s : State) (n : SecId) (f : Section → Section) : (s.modSec n f).requestDrops = s.requestDrops :=
    by cases n <;> rfl

@[simp] theorem State.sec_modSec (s : State) (n : SecId) (f : Section → Section) :
    (s.modSec n f).sec n = f (s.sec n) := State.sec_setSec s n _
@[simp] theorem State.sec_modSec_other (s : State) (n k : SecId) (f : Section → Section) (h : k ≠ n) :
    (s.modSec n f).sec k = s.sec k := State.sec_setSec_other s n k _ h
@[simp] theorem State.sec_setEngine (s : State) (n : SecId) (g : Engine) :
    (s.setEngine n g).sec n = { s.sec n with engine := g } := State.sec_modSec s n _
@[simp] theorem State.sec_setSup (s : State) (n : SecId) (v : Supervisor) :
    (s.setSup n v).sec n = { s.sec n with sup := v } := State.sec_modSec s n _

/-! ### Writing a coil -/

@[simp] theorem State.setCoil_pending (s : State) (c : CoilId) (x : Coil) : (s.setCoil c x).pending = s.pending :=
    by cases c <;> rfl
@[simp] theorem State.setCoil_supplyOk (s : State) (c : CoilId) (x : Coil) : (s.setCoil c x).supplyOk = s.supplyOk :=
    by cases c <;> rfl
@[simp] theorem State.setCoil_held (s : State) (c : CoilId) (x : Coil) : (s.setCoil c x).held = s.held :=
    by cases c <;> rfl
@[simp] theorem State.setCoil_ms (s : State) (c : CoilId) (x : Coil) : (s.setCoil c x).ms = s.ms := by cases c <;> rfl
@[simp] theorem State.setCoil_station (s : State) (c : CoilId) (x : Coil) : (s.setCoil c x).station = s.station :=
    by cases c <;> rfl
@[simp] theorem State.setCoil_portA (s : State) (c : CoilId) (x : Coil) : (s.setCoil c x).portA = s.portA :=
    by cases c <;> rfl
@[simp] theorem State.setCoil_portB (s : State) (c : CoilId) (x : Coil) : (s.setCoil c x).portB = s.portB :=
    by cases c <;> rfl
@[simp] theorem State.setCoil_slots (s : State) (c : CoilId) (x : Coil) : (s.setCoil c x).slots = s.slots :=
    by cases c <;> rfl
@[simp] theorem State.setCoil_maskA (s : State) (c : CoilId) (x : Coil) : (s.setCoil c x).maskA = s.maskA :=
    by cases c <;> rfl
@[simp] theorem State.setCoil_maskB (s : State) (c : CoilId) (x : Coil) : (s.setCoil c x).maskB = s.maskB :=
    by cases c <;> rfl
@[simp] theorem State.setCoil_nominal (s : State) (c : CoilId) (x : Coil) : (s.setCoil c x).nominal = s.nominal :=
    by cases c <;> rfl
@[simp] theorem State.setCoil_share (s : State) (c : CoilId) (x : Coil) : (s.setCoil c x).share = s.share :=
    by cases c <;> rfl
@[simp] theorem State.setCoil_couplerTimeout (s : State) (c : CoilId) (x : Coil) : (s.setCoil c x).couplerTimeout = s.couplerTimeout :=
    by cases c <;> rfl
@[simp] theorem State.setCoil_sec1 (s : State) (c : CoilId) (x : Coil) : (s.setCoil c x).sec1 = s.sec1 :=
    by cases c <;> rfl
@[simp] theorem State.setCoil_sec2 (s : State) (c : CoilId) (x : Coil) : (s.setCoil c x).sec2 = s.sec2 :=
    by cases c <;> rfl
@[simp] theorem State.setCoil_ret2 (s : State) (c : CoilId) (x : Coil) : (s.setCoil c x).ret2 = s.ret2 :=
    by cases c <;> rfl
@[simp] theorem State.setCoil_coupler (s : State) (c : CoilId) (x : Coil) : (s.setCoil c x).coupler = s.coupler :=
    by cases c <;> rfl
@[simp] theorem State.setCoil_events (s : State) (c : CoilId) (x : Coil) : (s.setCoil c x).events = s.events :=
    by cases c <;> rfl
@[simp] theorem State.setCoil_requests (s : State) (c : CoilId) (x : Coil) : (s.setCoil c x).requests = s.requests :=
    by cases c <;> rfl
@[simp] theorem State.setCoil_requestDrops (s : State) (c : CoilId) (x : Coil) : (s.setCoil c x).requestDrops = s.requestDrops :=
    by cases c <;> rfl

@[simp] theorem State.coil_setCoil (s : State) (c : CoilId) (x : Coil) : (s.setCoil c x).coil c = x := by
  cases c <;> rfl
@[simp] theorem State.coil_setCoil_other (s : State) (c d : CoilId) (x : Coil) (h : d ≠ c) :
    (s.setCoil c x).coil d = s.coil d := by
  cases c <;> cases d <;> first | rfl | exact absurd rfl h
@[simp] theorem State.coil_c1 (s : State) : s.coil .c1 = s.coil1 := rfl
@[simp] theorem State.coil_c2 (s : State) : s.coil .c2 = s.coil2 := rfl

/-! ### Changing a coil -/

@[simp] theorem State.modCoil_pending (s : State) (c : CoilId) (f : Coil → Coil) : (s.modCoil c f).pending = s.pending :=
    by cases c <;> rfl
@[simp] theorem State.modCoil_supplyOk (s : State) (c : CoilId) (f : Coil → Coil) : (s.modCoil c f).supplyOk = s.supplyOk :=
    by cases c <;> rfl
@[simp] theorem State.modCoil_held (s : State) (c : CoilId) (f : Coil → Coil) : (s.modCoil c f).held = s.held :=
    by cases c <;> rfl
@[simp] theorem State.modCoil_ms (s : State) (c : CoilId) (f : Coil → Coil) : (s.modCoil c f).ms = s.ms :=
    by cases c <;> rfl
@[simp] theorem State.modCoil_station (s : State) (c : CoilId) (f : Coil → Coil) : (s.modCoil c f).station = s.station :=
    by cases c <;> rfl
@[simp] theorem State.modCoil_portA (s : State) (c : CoilId) (f : Coil → Coil) : (s.modCoil c f).portA = s.portA :=
    by cases c <;> rfl
@[simp] theorem State.modCoil_portB (s : State) (c : CoilId) (f : Coil → Coil) : (s.modCoil c f).portB = s.portB :=
    by cases c <;> rfl
@[simp] theorem State.modCoil_slots (s : State) (c : CoilId) (f : Coil → Coil) : (s.modCoil c f).slots = s.slots :=
    by cases c <;> rfl
@[simp] theorem State.modCoil_maskA (s : State) (c : CoilId) (f : Coil → Coil) : (s.modCoil c f).maskA = s.maskA :=
    by cases c <;> rfl
@[simp] theorem State.modCoil_maskB (s : State) (c : CoilId) (f : Coil → Coil) : (s.modCoil c f).maskB = s.maskB :=
    by cases c <;> rfl
@[simp] theorem State.modCoil_nominal (s : State) (c : CoilId) (f : Coil → Coil) : (s.modCoil c f).nominal = s.nominal :=
    by cases c <;> rfl
@[simp] theorem State.modCoil_share (s : State) (c : CoilId) (f : Coil → Coil) : (s.modCoil c f).share = s.share :=
    by cases c <;> rfl
@[simp] theorem State.modCoil_couplerTimeout (s : State) (c : CoilId) (f : Coil → Coil) : (s.modCoil c f).couplerTimeout = s.couplerTimeout :=
    by cases c <;> rfl
@[simp] theorem State.modCoil_sec1 (s : State) (c : CoilId) (f : Coil → Coil) : (s.modCoil c f).sec1 = s.sec1 :=
    by cases c <;> rfl
@[simp] theorem State.modCoil_sec2 (s : State) (c : CoilId) (f : Coil → Coil) : (s.modCoil c f).sec2 = s.sec2 :=
    by cases c <;> rfl
@[simp] theorem State.modCoil_ret2 (s : State) (c : CoilId) (f : Coil → Coil) : (s.modCoil c f).ret2 = s.ret2 :=
    by cases c <;> rfl
@[simp] theorem State.modCoil_coupler (s : State) (c : CoilId) (f : Coil → Coil) : (s.modCoil c f).coupler = s.coupler :=
    by cases c <;> rfl
@[simp] theorem State.modCoil_events (s : State) (c : CoilId) (f : Coil → Coil) : (s.modCoil c f).events = s.events :=
    by cases c <;> rfl
@[simp] theorem State.modCoil_requests (s : State) (c : CoilId) (f : Coil → Coil) : (s.modCoil c f).requests = s.requests :=
    by cases c <;> rfl
@[simp] theorem State.modCoil_requestDrops (s : State) (c : CoilId) (f : Coil → Coil) : (s.modCoil c f).requestDrops = s.requestDrops :=
    by cases c <;> rfl

@[simp] theorem State.coil_modCoil (s : State) (c : CoilId) (f : Coil → Coil) :
    (s.modCoil c f).coil c = f (s.coil c) := State.coil_setCoil s c _
@[simp] theorem State.coil_modCoil_other (s : State) (c d : CoilId) (f : Coil → Coil) (h : d ≠ c) :
    (s.modCoil c f).coil d = s.coil d := State.coil_setCoil_other s c d _ h

/-! ### Writing a slot -/

@[simp] theorem State.setSlot_pending (s : State) (i : Fin 24) (x : Slot) : (s.setSlot i x).pending = s.pending := rfl
@[simp] theorem State.setSlot_supplyOk (s : State) (i : Fin 24) (x : Slot) : (s.setSlot i x).supplyOk = s.supplyOk :=
    rfl
@[simp] theorem State.setSlot_held (s : State) (i : Fin 24) (x : Slot) : (s.setSlot i x).held = s.held := rfl
@[simp] theorem State.setSlot_ms (s : State) (i : Fin 24) (x : Slot) : (s.setSlot i x).ms = s.ms := rfl
@[simp] theorem State.setSlot_station (s : State) (i : Fin 24) (x : Slot) : (s.setSlot i x).station = s.station := rfl
@[simp] theorem State.setSlot_portA (s : State) (i : Fin 24) (x : Slot) : (s.setSlot i x).portA = s.portA := rfl
@[simp] theorem State.setSlot_portB (s : State) (i : Fin 24) (x : Slot) : (s.setSlot i x).portB = s.portB := rfl
@[simp] theorem State.setSlot_maskA (s : State) (i : Fin 24) (x : Slot) : (s.setSlot i x).maskA = s.maskA := rfl
@[simp] theorem State.setSlot_maskB (s : State) (i : Fin 24) (x : Slot) : (s.setSlot i x).maskB = s.maskB := rfl
@[simp] theorem State.setSlot_nominal (s : State) (i : Fin 24) (x : Slot) : (s.setSlot i x).nominal = s.nominal := rfl
@[simp] theorem State.setSlot_share (s : State) (i : Fin 24) (x : Slot) : (s.setSlot i x).share = s.share := rfl
@[simp] theorem State.setSlot_couplerTimeout (s : State) (i : Fin 24) (x : Slot) : (s.setSlot i x).couplerTimeout = s.couplerTimeout :=
    rfl
@[simp] theorem State.setSlot_sec1 (s : State) (i : Fin 24) (x : Slot) : (s.setSlot i x).sec1 = s.sec1 := rfl
@[simp] theorem State.setSlot_sec2 (s : State) (i : Fin 24) (x : Slot) : (s.setSlot i x).sec2 = s.sec2 := rfl
@[simp] theorem State.setSlot_ret2 (s : State) (i : Fin 24) (x : Slot) : (s.setSlot i x).ret2 = s.ret2 := rfl
@[simp] theorem State.setSlot_coil1 (s : State) (i : Fin 24) (x : Slot) : (s.setSlot i x).coil1 = s.coil1 := rfl
@[simp] theorem State.setSlot_coil2 (s : State) (i : Fin 24) (x : Slot) : (s.setSlot i x).coil2 = s.coil2 := rfl
@[simp] theorem State.setSlot_coupler (s : State) (i : Fin 24) (x : Slot) : (s.setSlot i x).coupler = s.coupler := rfl
@[simp] theorem State.setSlot_events (s : State) (i : Fin 24) (x : Slot) : (s.setSlot i x).events = s.events := rfl
@[simp] theorem State.setSlot_requests (s : State) (i : Fin 24) (x : Slot) : (s.setSlot i x).requests = s.requests :=
    rfl
@[simp] theorem State.setSlot_requestDrops (s : State) (i : Fin 24) (x : Slot) : (s.setSlot i x).requestDrops = s.requestDrops :=
    rfl

@[simp] theorem State.slot_setSlot (s : State) (i : Fin 24) (x : Slot) : (s.setSlot i x).slot i = x := by
  simp [State.slot, State.setSlot]
@[simp] theorem State.slot_setSlot_other (s : State) (i j : Fin 24) (x : Slot) (h : j ≠ i) :
    (s.setSlot i x).slot j = s.slot j := by
  have : i.val ≠ j.val := fun e => h (Fin.ext e.symm)
  simp [State.slot, State.setSlot, this]

/-! ### Changing a slot -/

@[simp] theorem State.modSlot_pending (s : State) (i : Fin 24) (f : Slot → Slot) : (s.modSlot i f).pending = s.pending :=
    rfl
@[simp] theorem State.modSlot_supplyOk (s : State) (i : Fin 24) (f : Slot → Slot) : (s.modSlot i f).supplyOk = s.supplyOk :=
    rfl
@[simp] theorem State.modSlot_held (s : State) (i : Fin 24) (f : Slot → Slot) : (s.modSlot i f).held = s.held := rfl
@[simp] theorem State.modSlot_ms (s : State) (i : Fin 24) (f : Slot → Slot) : (s.modSlot i f).ms = s.ms := rfl
@[simp] theorem State.modSlot_station (s : State) (i : Fin 24) (f : Slot → Slot) : (s.modSlot i f).station = s.station :=
    rfl
@[simp] theorem State.modSlot_portA (s : State) (i : Fin 24) (f : Slot → Slot) : (s.modSlot i f).portA = s.portA := rfl
@[simp] theorem State.modSlot_portB (s : State) (i : Fin 24) (f : Slot → Slot) : (s.modSlot i f).portB = s.portB := rfl
@[simp] theorem State.modSlot_maskA (s : State) (i : Fin 24) (f : Slot → Slot) : (s.modSlot i f).maskA = s.maskA := rfl
@[simp] theorem State.modSlot_maskB (s : State) (i : Fin 24) (f : Slot → Slot) : (s.modSlot i f).maskB = s.maskB := rfl
@[simp] theorem State.modSlot_nominal (s : State) (i : Fin 24) (f : Slot → Slot) : (s.modSlot i f).nominal = s.nominal :=
    rfl
@[simp] theorem State.modSlot_share (s : State) (i : Fin 24) (f : Slot → Slot) : (s.modSlot i f).share = s.share := rfl
@[simp] theorem State.modSlot_couplerTimeout (s : State) (i : Fin 24) (f : Slot → Slot) : (s.modSlot i f).couplerTimeout = s.couplerTimeout :=
    rfl
@[simp] theorem State.modSlot_sec1 (s : State) (i : Fin 24) (f : Slot → Slot) : (s.modSlot i f).sec1 = s.sec1 := rfl
@[simp] theorem State.modSlot_sec2 (s : State) (i : Fin 24) (f : Slot → Slot) : (s.modSlot i f).sec2 = s.sec2 := rfl
@[simp] theorem State.modSlot_ret2 (s : State) (i : Fin 24) (f : Slot → Slot) : (s.modSlot i f).ret2 = s.ret2 := rfl
@[simp] theorem State.modSlot_coil1 (s : State) (i : Fin 24) (f : Slot → Slot) : (s.modSlot i f).coil1 = s.coil1 := rfl
@[simp] theorem State.modSlot_coil2 (s : State) (i : Fin 24) (f : Slot → Slot) : (s.modSlot i f).coil2 = s.coil2 := rfl
@[simp] theorem State.modSlot_coupler (s : State) (i : Fin 24) (f : Slot → Slot) : (s.modSlot i f).coupler = s.coupler :=
    rfl
@[simp] theorem State.modSlot_events (s : State) (i : Fin 24) (f : Slot → Slot) : (s.modSlot i f).events = s.events :=
    rfl
@[simp] theorem State.modSlot_requests (s : State) (i : Fin 24) (f : Slot → Slot) : (s.modSlot i f).requests = s.requests :=
    rfl
@[simp] theorem State.modSlot_requestDrops (s : State) (i : Fin 24) (f : Slot → Slot) : (s.modSlot i f).requestDrops = s.requestDrops :=
    rfl

@[simp] theorem State.slot_modSlot (s : State) (i : Fin 24) (f : Slot → Slot) :
    (s.modSlot i f).slot i = f (s.slot i) := State.slot_setSlot s i _
@[simp] theorem State.slot_modSlot_other (s : State) (i j : Fin 24) (f : Slot → Slot) (h : j ≠ i) :
    (s.modSlot i f).slot j = s.slot j := State.slot_setSlot_other s i j _ h

/-! ### Reading one kind of part after writing another -/

@[simp] theorem State.sec_setPort (s : State) (p : Port) (x : PortState) (k : SecId) : (s.setPort p x).sec k = s.sec k :=
    by cases p <;> cases k <;> rfl
@[simp] theorem State.coil_setPort (s : State) (p : Port) (x : PortState) (d : CoilId) : (s.setPort p x).coil d = s.coil d :=
    by cases p <;> cases d <;> rfl
@[simp] theorem State.slot_setPort (s : State) (p : Port) (x : PortState) (j : Fin 24) : (s.setPort p x).slot j = s.slot j :=
    by cases p <;> rfl

@[simp] theorem State.sec_modPort (s : State) (p : Port) (f : PortState → PortState) (k : SecId) : (s.modPort p f).sec k = s.sec k :=
    by cases p <;> cases k <;> rfl
@[simp] theorem State.coil_modPort (s : State) (p : Port) (f : PortState → PortState) (d : CoilId) : (s.modPort p f).coil d = s.coil d :=
    by cases p <;> cases d <;> rfl
@[simp] theorem State.slot_modPort (s : State) (p : Port) (f : PortState → PortState) (j : Fin 24) : (s.modPort p f).slot j = s.slot j :=
    by cases p <;> rfl

@[simp] theorem State.port_setSec (s : State) (n : SecId) (x : Section) (q : Port) : (s.setSec n x).port q = s.port q :=
    by cases n <;> cases q <;> rfl
@[simp] theorem State.coil_setSec (s : State) (n : SecId) (x : Section) (d : CoilId) : (s.setSec n x).coil d = s.coil d :=
    by cases n <;> cases d <;> rfl
@[simp] theorem State.slot_setSec (s : State) (n : SecId) (x : Section) (j : Fin 24) : (s.setSec n x).slot j = s.slot j :=
    by cases n <;> rfl

@[simp] theorem State.port_modSec (s : State) (n : SecId) (f : Section → Section) (q : Port) : (s.modSec n f).port q = s.port q :=
    by cases n <;> cases q <;> rfl
@[simp] theorem State.coil_modSec (s : State) (n : SecId) (f : Section → Section) (d : CoilId) : (s.modSec n f).coil d = s.coil d :=
    by cases n <;> cases d <;> rfl
@[simp] theorem State.slot_modSec (s : State) (n : SecId) (f : Section → Section) (j : Fin 24) : (s.modSec n f).slot j = s.slot j :=
    by cases n <;> rfl

@[simp] theorem State.port_setCoil (s : State) (c : CoilId) (x : Coil) (q : Port) : (s.setCoil c x).port q = s.port q :=
    by cases c <;> cases q <;> rfl
@[simp] theorem State.sec_setCoil (s : State) (c : CoilId) (x : Coil) (k : SecId) : (s.setCoil c x).sec k = s.sec k :=
    by cases c <;> cases k <;> rfl
@[simp] theorem State.slot_setCoil (s : State) (c : CoilId) (x : Coil) (j : Fin 24) : (s.setCoil c x).slot j = s.slot j :=
    by cases c <;> rfl

@[simp] theorem State.port_modCoil (s : State) (c : CoilId) (f : Coil → Coil) (q : Port) : (s.modCoil c f).port q = s.port q :=
    by cases c <;> cases q <;> rfl
@[simp] theorem State.sec_modCoil (s : State) (c : CoilId) (f : Coil → Coil) (k : SecId) : (s.modCoil c f).sec k = s.sec k :=
    by cases c <;> cases k <;> rfl
@[simp] theorem State.slot_modCoil (s : State) (c : CoilId) (f : Coil → Coil) (j : Fin 24) : (s.modCoil c f).slot j = s.slot j :=
    by cases c <;> rfl

@[simp] theorem State.port_setSlot (s : State) (i : Fin 24) (x : Slot) (q : Port) : (s.setSlot i x).port q = s.port q :=
    by cases q <;> rfl
@[simp] theorem State.sec_setSlot (s : State) (i : Fin 24) (x : Slot) (k : SecId) : (s.setSlot i x).sec k = s.sec k :=
    by cases k <;> rfl
@[simp] theorem State.coil_setSlot (s : State) (i : Fin 24) (x : Slot) (d : CoilId) : (s.setSlot i x).coil d = s.coil d :=
    by cases d <;> rfl

@[simp] theorem State.port_modSlot (s : State) (i : Fin 24) (f : Slot → Slot) (q : Port) : (s.modSlot i f).port q = s.port q :=
    by cases q <;> rfl
@[simp] theorem State.sec_modSlot (s : State) (i : Fin 24) (f : Slot → Slot) (k : SecId) : (s.modSlot i f).sec k = s.sec k :=
    by cases k <;> rfl
@[simp] theorem State.coil_modSlot (s : State) (i : Fin 24) (f : Slot → Slot) (d : CoilId) : (s.modSlot i f).coil d = s.coil d :=
    by cases d <;> rfl

end Sys2Proof.Machine
end

