-- ==== Sys2Proof/Laws/DriveLink.lean ====
section
/-! SUPPORT. Laws/DriveLink.lean: what the drive link's operations can do: they change ports and coils only. -/

namespace Sys2Proof.Machine

/-- `t` is `s` but for the ports and the coils. -/
def DriveFrame (s t : State) : Prop :=
  t = { s with portA := t.portA, portB := t.portB, coil1 := t.coil1, coil2 := t.coil2 }

theorem DriveFrame.refl (s : State) : DriveFrame s s := rfl

theorem DriveFrame.trans {s t u : State} (h : DriveFrame s t) (h' : DriveFrame t u) : DriveFrame s u := by
  unfold DriveFrame at *; rw [h']; rw [h]

theorem DriveFrame.modPort (s : State) (p : Port) (f : PortState → PortState) : DriveFrame s (s.modPort p f) := by
  cases p <;> rfl

theorem DriveFrame.modCoil (s : State) (c : CoilId) (f : Coil → Coil) : DriveFrame s (s.modCoil c f) := by
  cases c <;> rfl

/-- A fold of operations that each change ports and coils only changes ports and coils only. -/
theorem DriveFrame.foldl {α : Type} {f : State → α → State} (h : ∀ s x, DriveFrame s (f s x)) (xs : List α) (s : State) :
    DriveFrame s (xs.foldl f s) := by
  induction xs generalizing s with
  | nil => exact .refl s
  | cons x xs ih => exact (h s x).trans (ih _)

theorem enterRecord_frame (c : CoilId) (w : Waiting) (s : State) : DriveFrame s (enterRecord c w s) := by
  have h := DriveFrame.foldl (f := fun s p => s.modPort p fun x => x.enterRecord c w.tracked w.record)
    (fun s p => .modPort s p _) w.route.ports s
  unfold enterRecord
  dsimp only
  split
  · exact h.trans (.modCoil _ _ _)
  · exact h

theorem waitRecord_frame (c : CoilId) (w : Waiting) (put : Waiting → List Waiting) (s : State) :
    DriveFrame s (waitRecord c w put s) := by
  unfold waitRecord
  split
  · exact (DriveFrame.modPort _ _ _).trans (.modCoil _ _ _)
  · exact .modCoil _ _ _

theorem offerRecord_frame (c : CoilId) (t : Bool) (r : DriveRecord) (s : State) : DriveFrame s (offerRecord c t r s) := by
  unfold offerRecord
  dsimp only
  split
  · exact enterRecord_frame _ _ _
  · exact waitRecord_frame _ _ _ _

theorem formTracked_frame (c : CoilId) (k : RecordKind) (s : State) : DriveFrame s (formTracked c k s) := by
  unfold formTracked
  split
  · exact .refl s
  · exact (DriveFrame.modCoil _ _ _).trans (offerRecord_frame _ _ _ _)

theorem formUntracked_frame (c : CoilId) (k : RecordKind) (s : State) : DriveFrame s (formUntracked c k s) := by
  unfold formUntracked
  split
  · exact (offerRecord_frame _ _ _ _).trans (offerRecord_frame _ _ _ _)
  · exact (DriveFrame.modCoil _ _ _).trans (offerRecord_frame _ _ _ _)

theorem takeMove_frame (c : CoilId) (s : State) : DriveFrame s (takeMove c s) := by
  unfold takeMove
  dsimp only
  split
  · exact .refl s
  · split
    · split
      · exact (DriveFrame.modCoil _ _ _).trans (formTracked_frame _ _ _)
      · exact .modCoil _ _ _
    · exact .refl s

theorem takePending_frame (c : CoilId) (s : State) : DriveFrame s (takePending c s) := by
  unfold takePending
  dsimp only
  split
  · split
    · exact (DriveFrame.modCoil _ _ _).trans (formTracked_frame _ _ _)
    · split
      · exact (DriveFrame.modCoil _ _ _).trans (formTracked_frame _ _ _)
      · split
        · exact (DriveFrame.modCoil _ _ _).trans (formTracked_frame _ _ _)
        · exact (DriveFrame.modCoil _ _ _).trans (takeMove_frame _ _)
      · exact takeMove_frame _ _
  · exact .refl s

theorem requestMove_frame (c : CoilId) (p : Nat) (o : MoveOrigin) (s : State) : DriveFrame s (requestMove c p o s) := by
  unfold requestMove
  split
  · exact (DriveFrame.modCoil _ _ _).trans (takePending_frame _ _)
  · exact .refl s

theorem requestStop_frame (c : CoilId) (s : State) : DriveFrame s (requestStop c s) := by
  unfold requestStop
  split
  · exact (DriveFrame.modCoil _ _ _).trans (takePending_frame _ _)
  · exact .refl s

theorem requestInjection_frame (c : CoilId) (q : InjReq) (s : State) : DriveFrame s (requestInjection c q s) := by
  unfold requestInjection
  split
  · exact (DriveFrame.modCoil _ _ _).trans (takePending_frame _ _)
  · exact .refl s

theorem clearTargets_frame (cs : List CoilId) (s : State) : DriveFrame s (clearTargets cs s) :=
  DriveFrame.foldl (fun s c => .modCoil s c _) cs s

theorem requestStops_frame (cs : List CoilId) (s : State) : DriveFrame s (requestStops cs s) :=
  DriveFrame.foldl (fun s c => by split; exacts [requestStop_frame c s, .refl s]) cs s

theorem requestInjector_frame (n : SecId) (q : InjReq) (s : State) : DriveFrame s (requestInjector n q s) := by
  unfold requestInjector
  split
  · exact requestInjection_frame _ _ _
  · exact .refl s

theorem withdraw_frame (c : CoilId) (s : State) : DriveFrame s (withdraw c s) := by
  unfold withdraw
  split
  · exact .refl s
  · exact (DriveFrame.modCoil _ _ _).trans (takePending_frame _ _)

theorem admitWaiting_frame {c : CoilId} {s t : State} (h : admitWaiting c s = some t) : DriveFrame s t := by
  unfold admitWaiting at h
  split at h
  · cases h
  · split at h
    · split at h
      · cases h; exact withdraw_frame c s
      · cases h; exact (DriveFrame.modCoil _ _ _).trans (enterRecord_frame _ _ _)
    · split at h
      · cases h; exact waitRecord_frame _ _ _ _
      · cases h

theorem admitAll_frame (n : Nat) (s : State) : DriveFrame s (admitAll n s) := by
  induction n generalizing s with
  | zero => exact .refl s
  | succ n ih =>
    unfold admitAll
    split
    · next h => exact (admitWaiting_frame h).trans (ih _)
    · split
      · next h => exact (admitWaiting_frame h).trans (ih _)
      · exact .refl s

theorem superviseSilence_frame (c : CoilId) (s : State) : DriveFrame s (superviseSilence c s) := by
  unfold superviseSilence
  split
  · exact .modCoil _ _ _
  · exact .modCoil _ _ _
  · exact .refl s

/-- What follows within a step changes ports and coils only. -/
theorem conclude_frame (s : State) : DriveFrame s (conclude s) :=
  (((admitAll_frame _ s).trans (superviseSilence_frame .c1 _)).trans (superviseSilence_frame .c2 _)).trans rfl

/-- A step of the part in action is its effect and what follows; a step out of action is none. -/
theorem act_live {s : State} (h : s.live = true) (f : State → State) : act f s = conclude (f s) := by simp [act, h]

theorem act_still {s : State} (h : s.live = false) (f : State → State) : act f s = s := by simp [act, h]

end Sys2Proof.Machine
end

