-- ==== Sys2Proof/Laws/Flags.lean ====
section
/-! SUPPORT. Laws/Flags.lean: what the event unit's operations can do: which fields they may change, and the event unit and
queues after each. -/

namespace Sys2Proof.Machine

/-- `t` is `s` but for the ports and the event unit. -/
def LinkFrame (s t : State) : Prop := t = { s with portA := t.portA, portB := t.portB, events := t.events }

theorem LinkFrame.refl (s : State) : LinkFrame s s := rfl

theorem LinkFrame.trans {s t u : State} (h : LinkFrame s t) (h' : LinkFrame t u) : LinkFrame s u := by
  unfold LinkFrame at *; rw [h'] ; rw [h]

theorem LinkFrame.modPort (s : State) (p : Port) (f : PortState → PortState) : LinkFrame s (s.modPort p f) := by
  cases p <;> rfl

theorem fileEvent_frame (e : Source) (s : State) : LinkFrame s (fileEvent e s) := rfl

theorem offerNotice_frame (src : Source) (p : Port) (s : State) : LinkFrame s (offerNotice src p s) := by
  unfold offerNotice
  split
  · exact .modPort s p _
  · split
    · exact .modPort s p _
    · exact (LinkFrame.modPort s p _).trans (fileEvent_frame _ _)

/-- Everything an event does outside the ports and the event unit: nothing. -/
theorem raise_frame (k : EventKind) (o : Obj) (s : State) : LinkFrame s (raise k o s) := by
  unfold raise
  dsimp only
  split
  · exact ((fileEvent_frame _ s).trans (offerNotice_frame _ .a _)).trans (offerNotice_frame _ .b _)
  · exact fileEvent_frame _ s

theorem offerResponse_frame (r : Response) (p : Port) (s : State) : LinkFrame s (offerResponse r p s) := by
  unfold offerResponse
  split
  · exact .modPort s p _
  · split
    · exact .modPort s p _
    · exact (LinkFrame.modPort s p _).trans (raise_frame _ _ _)

/-- An event that finds level 1 occupied, or does not reach the levels, is only filed (R166). -/
theorem raise_of_not_opens {k : EventKind} {s : State} (h : s.events.opens k = false) (o : Obj) :
    raise k o s = fileEvent { kind := k, obj := o, time := s.ms } s := by
  simp [raise, h]

/-- A notice that finds its link UP and a place free is queued, and nothing else happens (R6, R7). -/
theorem offerNotice_placed {s : State} {p : Port} (hl : (s.port p).link ≠ .down)
    (hf : (s.port p).originOccupancy < Config.originPlaces) (src : Source) :
    offerNotice src p s = s.modPort p fun x => { x with origin := enqueueByClass x.origin (.notice src) } := by
  simp [offerNotice, hl, hf]

/-- A notice at a DOWN link is counted as dropped, and nothing else happens (R11). -/
theorem offerNotice_down {s : State} {p : Port} (hl : (s.port p).link = .down) (src : Source) :
    offerNotice src p s = s.modPort p PortState.dropOrigin := by
  simp [offerNotice, hl]

/-- A filed event leaves the enables as they are, and its kind stands in the summary (R162). -/
theorem EventUnit.file_enables (u : EventUnit) (e : Source) : (u.file e).enables = u.enables := by
  unfold EventUnit.file
  dsimp only
  split
  · split <;> rfl
  · rfl

theorem EventUnit.file_summary (u : EventUnit) (e : Source) : (u.file e).summary = addKind e.kind u.summary := by
  unfold EventUnit.file
  dsimp only
  split
  · split <;> rfl
  · rfl

theorem mem_addKind (k : EventKind) (ks : List EventKind) : k ∈ addKind k ks := by
  cases k <;> simp [addKind, allKinds]

/-- A move up leaves the enables and the summary as they are (R167). -/
theorem EventUnit.moveUp_enables (u : EventUnit) (now : Time) : (u.moveUp now).enables = u.enables := by
  unfold EventUnit.moveUp
  split <;> rfl

theorem EventUnit.moveUp_summary (u : EventUnit) (now : Time) : (u.moveUp now).summary = u.summary := by
  unfold EventUnit.moveUp
  split <;> rfl

end Sys2Proof.Machine
end

