-- ==== Sys2Proof/Laws/Operands.lean ====
section
/-! SUPPORT. Laws/Operands.lean: what the shared arithmetic and the byte fields give: rounding, leads of sample counts, and
the sizes of fields. -/

namespace Sys2Proof.Machine

/-- The rounded quotient is at most half a divisor away from the exact one. -/
theorem roundDiv_close (a b : Int) (h : 0 < b) : -b ≤ 2 * (a - roundDiv a b * b) ∧ 2 * (a - roundDiv a b * b) ≤ b := by
  unfold roundDiv
  split
  · have e := Int.mul_ediv_add_emod (2 * a + b) (2 * b)
    have l := Int.emod_nonneg (2 * a + b) (show 2 * b ≠ 0 by omega)
    have u := Int.emod_lt_of_pos (2 * a + b) (show 0 < 2 * b by omega)
    constructor <;> nlinarith
  · have e := Int.mul_ediv_add_emod (2 * -a + b) (2 * b)
    have l := Int.emod_nonneg (2 * -a + b) (show 2 * b ≠ 0 by omega)
    have u := Int.emod_lt_of_pos (2 * -a + b) (show 0 < 2 * b by omega)
    constructor <;> nlinarith

/-- A lead is a number below the modulus (R35). -/
theorem lead_lt {m : Nat} (h : 0 < m) (l c : Nat) : lead m l c < m := Nat.mod_lt _ h

/-- A field of `n` bytes has `n` bytes (R182). -/
@[simp] theorem beBytes_length (n x : Nat) : (beBytes n x).length = n := by
  induction n generalizing x with
  | zero => rfl
  | succ n ih => simp [beBytes, ih]

@[simp] theorem word32_length (x : Int) : (word32 x).length = 4 := by simp [word32]

@[simp] theorem word64_length (x : Int) : (word64 x).length = 8 := by simp [word64]

@[simp] theorem crcBytes_length (bs : List Byte) : (crcBytes bs).length = 4 := by simp [crcBytes]

/-- Placing a value in an entry leaves its count as it is (R37). -/
@[simp] theorem RingEntry.place_count (e : RingEntry) (r : Role) (v : RingValue) : (e.place r v).count = e.count := by
  cases r <;> rfl

/-- A value record without a value leaves the ring as it is and delivers nothing (R37). -/
theorem Ring.file_absent (m : Nat) (r : Ring) (x : ValueRecord) (h : x.value = none) :
    r.file m x = { ring := r, out := [], report := .none } := by
  simp [Ring.file, h]

end Sys2Proof.Machine
end

