-- ==== Sys2Proof/Laws/Sections.lean ====
section
/-! SUPPORT. Laws/Sections.lean: what the sections, the estimator, the calculator, the supervisors and the status records can
do: they leave the command queue, the millisecond counter, the stream table, the configuration of the part and the request
queue as they are. -/

namespace Sys2Proof.Machine

/-- `t` is `s` but for ports, sections, coils, coupler record and event unit. -/
def SectionFrame (s t : State) : Prop :=
  t = { s with portA := t.portA, portB := t.portB, sec1 := t.sec1, sec2 := t.sec2, ret2 := t.ret2, coil1 := t.coil1,
               coil2 := t.coil2, coupler := t.coupler, events := t.events }

theorem SectionFrame.refl (s : State) : SectionFrame s s := rfl

theorem SectionFrame.trans {s t u : State} (h : SectionFrame s t) (h' : SectionFrame t u) : SectionFrame s u := by
  unfold SectionFrame at *; rw [h']; rw [h]

theorem LinkFrame.toSection {s t : State} (h : LinkFrame s t) : SectionFrame s t := by
  unfold SectionFrame; unfold LinkFrame at h; rw [h]

theorem DriveFrame.toSection {s t : State} (h : DriveFrame s t) : SectionFrame s t := by
  unfold SectionFrame; unfold DriveFrame at h; rw [h]

theorem SectionFrame.modSec (s : State) (n : SecId) (f : Section → Section) : SectionFrame s (s.modSec n f) := by
  cases n <;> rfl

theorem SectionFrame.modCoil (s : State) (c : CoilId) (f : Coil → Coil) : SectionFrame s (s.modCoil c f) :=
  (DriveFrame.modCoil s c f).toSection

theorem raise_section (k : EventKind) (o : Obj) (s : State) : SectionFrame s (raise k o s) := (raise_frame k o s).toSection

theorem clearTargets_section (cs : List CoilId) (s : State) : SectionFrame s (clearTargets cs s) :=
  (clearTargets_frame cs s).toSection

theorem setSectionState_frame (n : SecId) (st : SecState) (s : State) : SectionFrame s (setSectionState n st s) :=
  (SectionFrame.modSec s n _).trans rfl

theorem setHoldOff_frame (n : SecId) (h : Option Nat) (s : State) : SectionFrame s (setHoldOff n h s) := .modSec _ _ _

theorem turnEngineOff_frame (n : SecId) (c : DiscardCause) (s : State) : SectionFrame s (turnEngineOff n c s) := .modSec _ _ _

theorem discardWindow_frame (n : SecId) (c : DiscardCause) (s : State) : SectionFrame s (discardWindow n c s) := .modSec _ _ _

theorem resetEstimate_frame (n : SecId) (s : State) : SectionFrame s (resetEstimate n s) := .modSec _ _ _

theorem requestInjector_section (n : SecId) (q : InjReq) (s : State) : SectionFrame s (requestInjector n q s) :=
  (requestInjector_frame n q s).toSection

theorem enterStarting_frame (n : SecId) (s : State) : SectionFrame s (enterStarting n s) := by
  unfold enterStarting
  dsimp only
  refine SectionFrame.trans ?_ (requestInjector_section _ _ _)
  exact (setSectionState_frame _ _ _).trans (.modSec _ _ _)

theorem stopAndSilence_frame (n : SecId) (s : State) : SectionFrame s (stopAndSilence n s) :=
  ((clearTargets_section _ s).trans (requestStops_frame _ _).toSection).trans (requestInjector_section _ _ _)

theorem enterFault_frame (n : SecId) (s : State) : SectionFrame s (enterFault n s) :=
  (((turnEngineOff_frame n .state s).trans (setSectionState_frame n .fault _)).trans (setHoldOff_frame n none _)).trans
    (stopAndSilence_frame n _)

theorem enterHalted_frame (n : SecId) (cause : HaltCause) (s : State) : SectionFrame s (enterHalted n cause s) := by
  have h := (((turnEngineOff_frame n .state s).trans (setSectionState_frame n .halted _)).trans
    (.modSec _ n fun x => { x with lastHalt := some cause })).trans (stopAndSilence_frame n _)
  unfold enterHalted
  dsimp only
  split
  · exact h.trans (raise_section _ _ _)
  · exact h

theorem recordJoinedHalt_frame (cause : HaltCause) (s : State) : SectionFrame s (recordJoinedHalt cause s) := rfl

theorem haltSection_frame (n : SecId) (cause : HaltCause) (s : State) : SectionFrame s (haltSection n cause s) := by
  unfold haltSection
  split <;> first | exact enterHalted_frame n cause s | exact .refl s | exact recordJoinedHalt_frame cause s

theorem disableSection_frame (n : SecId) (s : State) : SectionFrame s (disableSection n s) := by
  have h (cs : List CoilId) := (((turnEngineOff_frame n .state s).trans (setSectionState_frame n .disabled _)).trans
    (clearTargets_section cs _)).trans (requestInjector_section n .off _)
  unfold disableSection
  split
  · exact .refl s
  · rfl
  all_goals
    dsimp only
    split
    · exact (h _).trans (raise_section _ _ _)
    · exact h _

/-! ### Failing a coil -/

theorem sendSafe_frame (c : CoilId) (s : State) : DriveFrame s (sendSafe c s) := by
  unfold sendSafe
  dsimp only
  split <;> split
  · exact (formUntracked_frame _ _ _).trans (formUntracked_frame _ _ _)
  · exact formUntracked_frame _ _ _
  · exact formUntracked_frame _ _ _
  · exact .refl s

theorem failCoil_frame (c : CoilId) (k : EventKind) (s : State) : SectionFrame s (failCoil c k s) := by
  unfold failCoil
  dsimp only
  have h : SectionFrame s (untrackQueues c (sendSafe c (raise k (.coil c) s))) :=
    ((raise_section k (.coil c) s).trans (sendSafe_frame c _).toSection).trans rfl
  have h' (n : SecId) :=
    (h.trans (.modCoil _ c Coil.enterFailed)).trans (haltSection_frame n { kind := k, obj := .coil c, time := s.ms } _)
  split
  · exact (h' _).trans (recordJoinedHalt_frame _ _)
  · exact h' _

/-! ### Faults, injection and the coupler -/

theorem faultConfirmed_frame (m : SecId) (s : State) : SectionFrame s (faultConfirmed m s) := by
  unfold faultConfirmed
  dsimp only
  split <;> first | exact enterFault_frame _ s | exact .refl s

theorem enterRecovery_frame (n : SecId) (s : State) : SectionFrame s (enterRecovery n s) := by
  have h := (setSectionState_frame n .recovery s).trans (setHoldOff_frame n (some 0) _)
  unfold enterRecovery
  dsimp only
  split
  · exact h.trans (enterStarting_frame n _)
  · exact h

theorem faultCleared_frame (m : SecId) (s : State) : SectionFrame s (faultCleared m s) := by
  unfold faultCleared
  dsimp only
  generalize s.faultTarget m = n
  split <;> split <;> first | exact enterRecovery_frame _ _ | exact .refl s

theorem injectionConfirmed_frame (n : SecId) (s : State) : SectionFrame s (injectionConfirmed n s) := by
  unfold injectionConfirmed
  split
  · exact (setSectionState_frame _ _ _).trans (.modSec _ _ _)
  · exact .refl s

theorem firstEstimate_frame (n : SecId) (s : State) : SectionFrame s (firstEstimate n s) := by
  unfold firstEstimate
  split
  · exact setSectionState_frame _ _ _
  · exact .refl s

theorem setInhibit_frame (n : SecId) (h : Inhibit) (s : State) : SectionFrame s (setInhibit n h s) := by
  unfold setInhibit
  dsimp only
  split
  · exact (SectionFrame.modSec _ _ _).trans (clearTargets_section _ _)
  · exact .modSec _ _ _

theorem clearIf_frame (b : Bool) (cs : List CoilId) (s : State) :
    SectionFrame s (if b then clearTargets cs s else s) := by
  split
  · exact clearTargets_section cs s
  · exact .refl s

theorem becomeUnsure_frame (s : State) : SectionFrame s (becomeUnsure s) := by
  unfold becomeUnsure
  dsimp only
  refine SectionFrame.trans ?_ (clearIf_frame _ _ _)
  refine SectionFrame.trans ?_ (clearIf_frame _ _ _)
  refine SectionFrame.trans ?_ (turnEngineOff_frame _ _ _)
  refine SectionFrame.trans ?_ (turnEngineOff_frame _ _ _)
  exact SectionFrame.trans (by rfl) (raise_section _ _ _)

theorem setUnsure_frame (u : Unsure) (s : State) : SectionFrame s (setUnsure u s) := by
  unfold setUnsure
  dsimp only
  split
  · exact SectionFrame.trans (by rfl) (becomeUnsure_frame _)
  · split <;> rfl

theorem reportAvailability_frame (a : Bool) (s : State) : SectionFrame s (reportAvailability a s) :=
  SectionFrame.trans (by rfl) (setUnsure_frame _ _)

theorem couplerChangeSec1_frame (cs : List CoilId) (s : State) : SectionFrame s (couplerChangeSec1 cs s) := by
  have h := (discardWindow_frame .s1 .coupler s).trans (resetEstimate_frame .s1 _)
  unfold couplerChangeSec1
  dsimp only
  split
  · exact (h.trans (setSectionState_frame _ _ _)).trans (clearTargets_section _ _)
  · exact h

theorem joinSection2_frame (s : State) : SectionFrame s (joinSection2 s) := by
  unfold joinSection2
  dsimp only
  refine SectionFrame.trans ?_ (resetEstimate_frame _ _)
  refine SectionFrame.trans ?_ (requestInjection_frame _ _ _).toSection
  have h := ((SectionFrame.trans (by rfl) (turnEngineOff_frame .s2 .coupler { s with ret2 := returnFor s.sec2.state })).trans
    (setSectionState_frame .s2 .joined _)).trans (setHoldOff_frame .s2 none _)
  split
  · exact h
  · exact h.trans (.modCoil _ _ _)

theorem setHeld_frame (h : Held) (s : State) : SectionFrame s (setHeld h s) := rfl

theorem tellEngines_frame (s : State) : SectionFrame s (tellEngines s) := rfl

theorem couplerCloses_frame (s : State) : SectionFrame s (couplerCloses s) := by
  have h : SectionFrame s (couplerChangeSec1 [.c1] (joinSection2 (setHeld .closed (raise .couplerChange (.busSection .s1) s)))) :=
    (((raise_section _ _ s).trans (setHeld_frame .closed _)).trans (joinSection2_frame _)).trans
      (couplerChangeSec1_frame _ _)
  unfold couplerCloses
  dsimp only
  refine SectionFrame.trans ?_ (tellEngines_frame _)
  split
  · exact h.trans (raise_section _ _ _)
  · split
    · exact h.trans (enterFault_frame _ _)
    · exact h

theorem leaveJoined_frame (s : State) : SectionFrame s (leaveJoined s) := by
  unfold leaveJoined
  dsimp only
  split
  · split
    · exact (setSectionState_frame _ _ _).trans rfl
    · exact (enterStarting_frame _ _).trans rfl
  · exact (setSectionState_frame _ _ _).trans rfl
  · exact (setSectionState_frame _ _ _).trans rfl

theorem couplerOpens_frame (s : State) : SectionFrame s (couplerOpens s) := by
  have h := (raise_section .couplerChange (.busSection .s1) s).trans (couplerChangeSec1_frame [.c1, .c2] _)
  unfold couplerOpens
  dsimp only
  refine SectionFrame.trans ?_ (tellEngines_frame _)
  refine SectionFrame.trans ?_ (leaveJoined_frame _)
  refine SectionFrame.trans ?_ (setHeld_frame _ _)
  split
  · exact h.trans (enterRecovery_frame _ _)
  · exact h

theorem couplerValue_frame (v : CouplerValue) (s : State) : SectionFrame s (couplerValue v s) := by
  unfold couplerValue
  dsimp only
  refine SectionFrame.trans ?_ (setUnsure_frame _ _)
  split
  · exact SectionFrame.trans (by rfl) (couplerCloses_frame _)
  · exact SectionFrame.trans (by rfl) (couplerOpens_frame _)
  · rfl

/-! ### Decisions and estimates -/

theorem handOn_frame (c : CoilId) (w : Bool) (p : Option Nat) (s : State) : DriveFrame s (handOn c w p s) := by
  unfold handOn
  split
  · exact requestMove_frame _ _ _ _
  · exact .refl s

theorem takeDecision_frame (n : SecId) (t : Trigger) (e : Int) (s : State) : SectionFrame s (takeDecision n t e s) := by
  unfold takeDecision
  dsimp only
  split
  · exact .modSec _ _ _
  · refine SectionFrame.trans ?_ (handOn_frame _ _ _ _).toSection
    refine SectionFrame.trans ?_ (handOn_frame _ _ _ _).toSection
    split
    · exact (SectionFrame.modSec _ _ _).trans (raise_section _ _ _)
    · exact .modSec _ _ _

theorem targetTakes_frame (n : SecId) (k : UpdateKind) (e : Int) (s : State) : SectionFrame s (targetTakes n k e s) := by
  unfold targetTakes
  dsimp only
  split
  · exact (SectionFrame.modSec _ _ _).trans (takeDecision_frame _ _ _ _)
  · exact (SectionFrame.modSec _ _ _).trans (takeDecision_frame _ _ _ _)
  · split
    · exact (SectionFrame.modSec _ _ _).trans (takeDecision_frame _ _ _ _)
    · exact .modSec _ _ _

theorem rejectWindow_frame (n : SecId) (w : Window) (f : Phasors) (why : RejectReason) (s : State) :
    SectionFrame s (rejectWindow n w f why s) := by
  unfold rejectWindow
  dsimp only
  split
  · refine SectionFrame.trans ?_ (haltSection_frame _ _ _)
    refine SectionFrame.trans ?_ (raise_section _ _ _)
    exact ((SectionFrame.modSec _ _ _).trans (raise_section _ _ _)).trans (.modSec _ _ _)
  · exact ((SectionFrame.modSec _ _ _).trans (raise_section _ _ _)).trans (.modSec _ _ _)

theorem acceptWindow_frame (n : SecId) (w : Window) (f : Phasors) (x : Int) (s : State) :
    SectionFrame s (acceptWindow n w f x s) := by
  unfold acceptWindow
  dsimp only
  refine SectionFrame.trans ?_ (targetTakes_frame _ _ _ _)
  split <;> split
  · exact (((SectionFrame.modSec _ _ _).trans (raise_section _ _ _)).trans (.modSec _ _ _)).trans (firstEstimate_frame _ _)
  · exact ((SectionFrame.modSec _ _ _).trans (.modSec _ _ _)).trans (firstEstimate_frame _ _)
  · exact ((SectionFrame.modSec _ _ _).trans (raise_section _ _ _)).trans (.modSec _ _ _)
  · exact (SectionFrame.modSec _ _ _).trans (.modSec _ _ _)

theorem estimateWindow_frame (n : SecId) (w : Window) (f : Phasors) (s : State) :
    SectionFrame s (estimateWindow n w f s) := by
  unfold estimateWindow
  dsimp only
  split
  · exact (SectionFrame.modSec _ _ _).trans (rejectWindow_frame _ _ _ _ _)
  · split
    · exact ((SectionFrame.modSec _ _ _).trans (.modSec _ _ _)).trans (acceptWindow_frame _ _ _ _ _)
    · exact ((SectionFrame.modSec _ _ _).trans (.modSec _ _ _)).trans (rejectWindow_frame _ _ _ _ _)

theorem completeWindow_frame (n : SecId) (w : Window) (s : State) : SectionFrame s (completeWindow n w s) := by
  unfold completeWindow
  dsimp only
  split
  · exact (SectionFrame.modSec _ _ _).trans (rejectWindow_frame _ _ _ _ _)
  · exact (SectionFrame.modSec _ _ _).trans (estimateWindow_frame _ _ _ _)

theorem engineTakes_frame (n : SecId) (p : Pair) (s : State) : SectionFrame s (engineTakes n p s) := by
  unfold engineTakes
  dsimp only
  split
  · exact .refl s
  · split
    · exact .modSec _ _ _
    · split
      · split <;> exact .modSec _ _ _
      · exact .refl s
  · split
    · exact completeWindow_frame _ _ _
    · exact .modSec _ _ _

/-! ### Supervision -/

theorem confirmFault_frame (n : SecId) (c : Capture) (s : State) : SectionFrame s (confirmFault n c s) :=
  ((SectionFrame.modSec _ _ _).trans (raise_section _ _ _)).trans (faultConfirmed_frame _ _)

theorem judgeWatch_frame (n : SecId) (m : Nat) (q : Int) (s : State) : SectionFrame s (judgeWatch n m q s) := by
  unfold judgeWatch
  dsimp only
  split
  · split
    · exact confirmFault_frame _ _ _
    · exact .modSec _ _ _
  · exact .modSec _ _ _

theorem clearFault_frame (n : SecId) (s : State) : SectionFrame s (clearFault n s) :=
  ((SectionFrame.modSec _ _ _).trans (raise_section _ _ _)).trans (faultCleared_frame _ _)

theorem judgeStanding_frame (n : SecId) (q : Int) (s : State) : SectionFrame s (judgeStanding n q s) := by
  unfold judgeStanding
  dsimp only
  split <;> split <;>
    first
    | exact (SectionFrame.modSec _ _ _).trans (clearFault_frame _ _)
    | exact .modSec _ _ _

theorem closeCycle_frame (n : SecId) (a : CycleAcc) (s : State) : SectionFrame s (closeCycle n a s) := by
  unfold closeCycle
  dsimp only
  split
  · exact .modSec _ _ _
  · split
    · exact (SectionFrame.modSec _ _ _).trans (judgeWatch_frame _ _ _ _)
    · exact (SectionFrame.modSec _ _ _).trans (judgeStanding_frame _ _ _)
    · exact .modSec _ _ _

theorem supervisorTakes_frame (n : SecId) (p : Pair) (s : State) : SectionFrame s (supervisorTakes n p s) := by
  unfold supervisorTakes
  dsimp only
  split
  · exact .refl s
  · split
    · exact closeCycle_frame _ _ _
    · exact .modSec _ _ _

theorem handOver_frame (n : SecId) (d : Delivery) (s : State) : SectionFrame s (handOver n d s) := by
  unfold handOver
  split
  · exact (engineTakes_frame _ _ _).trans (supervisorTakes_frame _ _ _)
  · exact (SectionFrame.modSec _ _ _).trans (.modSec _ _ _)

/-- Everything a delivery does outside ports, sections, coils and event unit: nothing. -/
theorem deliver_frame (n : SecId) (ds : List Delivery) (s : State) : SectionFrame s (deliver n ds s) := by
  induction ds generalizing s with
  | nil => exact .refl s
  | cons d ds ih =>
    unfold deliver
    dsimp only
    split
    · exact handOver_frame _ _ _
    · exact (handOver_frame _ _ _).trans (ih _)

/-! ### Status records -/

theorem engineSeesStatus_frame (n : SecId) (c : CoilId) (r : StatusRecord) (s : State) :
    SectionFrame s (engineSeesStatus n c r s) := by
  unfold engineSeesStatus
  split
  · exact .refl s
  · split
    · exact discardWindow_frame _ _ _
    · split
      · exact discardWindow_frame _ _ _
      · exact .refl s

theorem moveEndCounts_frame (c : CoilId) (s : State) : SectionFrame s (moveEndCounts c s) := .modSec _ _ _

theorem moveStopped_frame (c : CoilId) (s : State) : SectionFrame s (moveStopped c s) :=
  ((SectionFrame.modCoil _ _ _).trans (moveEndCounts_frame _ _)).trans (discardWindow_frame _ _ _)

theorem moveDone_frame (c : CoilId) (s : State) : SectionFrame s (moveDone c s) :=
  ((SectionFrame.modCoil _ _ _).trans (raise_section _ _ _)).trans (moveEndCounts_frame _ _)

theorem acceptKind_frame (c : CoilId) (k : RecordKind) (s : State) : SectionFrame s (acceptKind c k s) := by
  unfold acceptKind
  split
  · exact .modCoil _ _ _
  · split
    · exact moveStopped_frame _ _
    · exact .refl s
  · exact .modCoil _ _ _
  · exact .modCoil _ _ _

theorem testAcceptance_frame (c : CoilId) (e : Bool) (s : State) : SectionFrame s (testAcceptance c e s) := by
  unfold testAcceptance
  split
  · exact .refl s
  · split
    · exact (SectionFrame.modCoil _ _ _).trans (acceptKind_frame _ _ _)
    · exact .refl s

theorem testFailure_frame (c : CoilId) (r : StatusRecord) (s : State) : SectionFrame s (testFailure c r s) := by
  unfold testFailure
  split
  · exact failCoil_frame _ _ _
  · split
    · split
      · exact failCoil_frame _ _ _
      · exact .refl s
    · exact .refl s

theorem testArrival_frame (c : CoilId) (r : StatusRecord) (s : State) : SectionFrame s (testArrival c r s) := by
  unfold testArrival
  split
  · exact .refl s
  · dsimp only
    split
    · exact (SectionFrame.modCoil _ _ _).trans (moveDone_frame _ _)
    · exact .modCoil _ _ _

theorem testConfirmed_frame (c : CoilId) (r : StatusRecord) (s : State) : SectionFrame s (testConfirmed c r s) := by
  unfold testConfirmed
  split
  · split
    · exact (SectionFrame.modCoil _ _ _).trans (injectionConfirmed_frame _ _)
    · exact .refl s
  · exact .refl s

theorem injectionLost_frame (n : SecId) (s : State) : SectionFrame s (injectionLost n s) := by
  unfold injectionLost
  split
  · exact ((raise_section _ _ _).trans (clearTargets_section _ _)).trans (enterStarting_frame _ _)
  · exact .refl s

theorem testLost_frame (c : CoilId) (r : StatusRecord) (s : State) : SectionFrame s (testLost c r s) := by
  unfold testLost
  split
  · split
    · exact .refl s
    · exact (SectionFrame.modCoil _ _ _).trans (injectionLost_frame _ _)
  · exact .refl s
  · exact .refl s

theorem finishStatus_frame (c : CoilId) (r : StatusRecord) (s : State) : SectionFrame s (finishStatus c r s) := by
  unfold finishStatus
  split
  · exact .refl s
  · exact (((testArrival_frame _ _ _).trans (testConfirmed_frame _ _ _)).trans (testLost_frame _ _ _)).trans
      (takePending_frame _ _).toSection

/-- Everything a status record does outside ports, sections, coils and event unit: nothing (R124). -/
theorem treatStatus_frame (c : CoilId) (r : StatusRecord) (s : State) : SectionFrame s (treatStatus c r s) := by
  unfold treatStatus
  dsimp only
  split
  · exact .modCoil _ _ _
  · refine SectionFrame.trans ?_ (finishStatus_frame _ _ _)
    refine SectionFrame.trans ?_ (testFailure_frame _ _ _)
    refine SectionFrame.trans ?_ (testAcceptance_frame _ _ _)
    refine SectionFrame.trans ?_ (engineSeesStatus_frame _ _ _ _)
    exact SectionFrame.trans (.modCoil _ _ _) (engineSeesStatus_frame _ _ _ _)

end Sys2Proof.Machine
end

