-- ==== Sys2Proof/Laws/Relay.lean ====
section
/-! SUPPORT. Laws/Relay.lean: what the stream matcher and a reception can do: they leave the command queue, the counter of
milliseconds, the configuration and the station number as they are. -/

namespace Sys2Proof.Machine

/-- `t` is `s` but for ports, slots, sections, coils, coupler record and event unit. -/
def StreamFrame (s t : State) : Prop :=
  t = { s with portA := t.portA, portB := t.portB, slots := t.slots, sec1 := t.sec1, sec2 := t.sec2, ret2 := t.ret2,
               coil1 := t.coil1, coil2 := t.coil2, coupler := t.coupler, events := t.events }

theorem StreamFrame.refl (s : State) : StreamFrame s s := rfl

theorem StreamFrame.trans {s t u : State} (h : StreamFrame s t) (h' : StreamFrame t u) : StreamFrame s u := by
  unfold StreamFrame at *; rw [h']; rw [h]

theorem SectionFrame.toStream {s t : State} (h : SectionFrame s t) : StreamFrame s t := by
  unfold StreamFrame; unfold SectionFrame at h; rw [h]

theorem StreamFrame.modSlot (s : State) (i : Fin 24) (f : Slot → Slot) : StreamFrame s (s.modSlot i f) := rfl

theorem voltageLost_frame (n : SecId) (s : State) : SectionFrame s (voltageLost n s) := by
  unfold voltageLost
  split
  · exact .refl s
  · exact (raise_section _ _ _).trans (haltSection_frame _ _ _)

theorem slotStateChanged_frame (i : Fin 24) (b : SlotBody) (was now : SlotState) (s : State) :
    SectionFrame s (slotStateChanged i b was now s) := by
  have hv (c : Bool) (n : SecId) (t : State) : SectionFrame t (if c then voltageLost n t else t) := by
    split
    · exact voltageLost_frame n t
    · exact .refl t
  unfold slotStateChanged
  dsimp only
  split
  · exact .refl s
  · have h := ((raise_section .streamState (.slot i) s).trans
      (hv (was == .warning && now == .passive && b.voltageFor .s1) .s1 _)).trans
      (hv (was == .warning && now == .passive && b.voltageFor .s2) .s2 _)
    cases b with
    | state k =>
      dsimp only
      split
      · exact h
      · exact h.trans (reportAvailability_frame _ _)
    | sample bs => exact h
    | drive c => exact h

theorem ringTakes_frame (n : SecId) (x : ValueRecord) (s : State) : StreamFrame s (ringTakes n x s) := by
  unfold ringTakes
  dsimp only
  refine StreamFrame.trans ?_ (deliver_frame _ _ _).toStream
  have h := (SectionFrame.modSec s n fun y => { y with ring := ((s.sec n).ring.file s.nominal.modulus x).ring }).toStream
  split
  · exact h
  · split
    · exact h.trans (.modSlot _ _ _)
    · exact h
  · split
    · exact h.trans (.modSlot _ _ _)
    · exact h

theorem distributeBinding_frame (i : Fin 24) (m : List Byte) (b : Binding) (s : State) :
    StreamFrame s (distributeBinding i m b s) := by
  unfold distributeBinding
  dsimp only
  split
  · split
    · exact ringTakes_frame _ _ _
    · exact (StreamFrame.modSlot _ _ _).trans (ringTakes_frame _ _ _)
  · exact ringTakes_frame _ _ _

theorem distribute_frame (i : Fin 24) (b : SlotBody) (p : Port) (m : List Byte) (s : State) :
    StreamFrame s (distribute i b p m s) := by
  unfold distribute
  split
  · next bs =>
    induction bs generalizing s with
    | nil => exact .refl s
    | cons x xs ih => exact (distributeBinding_frame i m x s).trans (ih _)
  · split
    · exact (couplerValue_frame _ _).toStream
    · exact .refl s
  · exact (treatStatus_frame _ _ _).toStream

theorem slotTakes_frame (i : Fin 24) (b : SlotBody) (p : Port) (m : List Byte) (s : State) :
    StreamFrame s (slotTakes i b p m s) := by
  have h (x : Slot) (was now : SlotState) : StreamFrame s (slotStateChanged i b was now (s.setSlot i x)) :=
    StreamFrame.trans (rfl : StreamFrame s (s.setSlot i x)) (slotStateChanged_frame _ _ _ _ _).toStream
  unfold slotTakes
  dsimp only
  generalize Slot.judged _ _ _ _ = x
  generalize judge _ _ _ _ = j
  split
  · exact (h _ _ _).trans (distribute_frame _ _ _ _ _)
  · exact h _ _ _

theorem LinkFrame.toStream {s t : State} (h : LinkFrame s t) : StreamFrame s t := h.toSection.toStream

theorem countUnmatched_frame (p : Port) (s : State) : LinkFrame s (countUnmatched p s) := .modPort _ _ _

theorem offerToMatcher_frame (k : FrameClass) (p : Port) (m : List Byte) (s : State) :
    StreamFrame s (offerToMatcher k p m s) := by
  unfold offerToMatcher
  split
  · exact (countUnmatched_frame _ _).toStream
  · split
    · exact (countUnmatched_frame _ _).toStream
    · split
      · exact slotTakes_frame _ _ _ _ _
      · exact .refl s

theorem relay_frame (p : Port) (f : Frame) (s : State) : LinkFrame s (relay p f s) := by
  unfold relay
  dsimp only
  split
  · exact .modPort _ _ _
  · split
    · exact .modPort _ _ _
    · exact (LinkFrame.modPort _ _ _).trans (raise_frame _ _ _)

/-- `t` is `s` but for ports, slots, sections, coils, coupler record, event unit and the request queue. -/
def ReceptionFrame (s t : State) : Prop :=
  t = { s with portA := t.portA, portB := t.portB, slots := t.slots, sec1 := t.sec1, sec2 := t.sec2, ret2 := t.ret2,
               coil1 := t.coil1, coil2 := t.coil2, coupler := t.coupler, events := t.events, requests := t.requests,
               requestDrops := t.requestDrops }

theorem ReceptionFrame.trans {s t u : State} (h : ReceptionFrame s t) (h' : ReceptionFrame t u) : ReceptionFrame s u := by
  unfold ReceptionFrame at *; rw [h']; rw [h]

theorem StreamFrame.toReception {s t : State} (h : StreamFrame s t) : ReceptionFrame s t := by
  unfold ReceptionFrame; unfold StreamFrame at h; rw [h]

theorem enqueueRequest_frame (p : Port) (m : List Byte) (s : State) : ReceptionFrame s (enqueueRequest p m s) := by
  unfold enqueueRequest
  split <;> rfl

theorem handleGood_frame (p : Port) (f : Frame) (s : State) : ReceptionFrame s (handleGood p f s) := by
  have hr := (relay_frame p f s).toStream
  unfold handleGood
  dsimp only
  split
  · exact hr.toReception
  · exact hr.toReception
  · exact (hr.trans (countUnmatched_frame _ _).toStream).toReception
  · exact (hr.trans (offerToMatcher_frame _ _ _ _)).toReception
  · exact (hr.trans (offerToMatcher_frame _ _ _ _)).toReception
  · exact (hr.trans (offerToMatcher_frame _ _ _ _)).toReception
  · split
    · exact enqueueRequest_frame _ _ _
    · exact hr.toReception

/-- Everything a reception does to the command queue, the time, the supply, the reset input, the station number and the
part's own configuration: nothing. -/
theorem receive_frame (p : Port) (f : Frame) (l : Bool) (s : State) : ReceptionFrame s (receive p f l s) := by
  have h (g : PortState → PortState) (t : State) : ReceptionFrame t (t.modPort p g) := (LinkFrame.modPort t p g).toStream.toReception
  unfold receive
  dsimp only
  split
  · exact (h _ _).trans (h _ _)
  · exact (h _ _).trans (handleGood_frame _ _ _)

end Sys2Proof.Machine
end

