-- ==== Sys2Proof/Laws/Requests.lean ====
section
/-! SUPPORT. Laws/Requests.lean: the responder's shared operation: what it does with the request at the head of its queue. -/

namespace Sys2Proof.Machine

/-- With a request of the kind at the head, the responder answers what serving its body gives (R171, R172). -/
theorem serve_serving {s : State} {k : Nat} {r : Request} {b : List Byte} (h : Serving s k r b)
    (f : List Byte → State → Served) : serve k f s = answer r (f b s) := by
  obtain ⟨-, hq, hh, hk, hb⟩ := h
  obtain ⟨rest, hq⟩ := List.head?_eq_some_iff.1 hq
  simp [serve, hq, hh, hk, hb]

/-- With no request waiting, a command of the responder does nothing. -/
theorem serve_empty {s : State} (h : s.requests = []) (k : Nat) (f : List Byte → State → Served) : serve k f s = s := by
  simp [serve, h]

/-- With a request of another kind at the head, a command of the responder does nothing. -/
theorem serve_other {s : State} {r : Request} {rest : List Request} (h : s.requests = r :: rest) {k : Nat} (hk : r.kind ≠ k)
    (f : List Byte → State → Served) : serve k f s = s := by
  simp [serve, h, hk]

/-- A request whose section field is good is served for that section. -/
theorem withSection_eq {b : List Byte} {n : SecId} (hl : b.length = 4) (hn : secOf (word b 0) = some n)
    (f : SecId → State → Served) (s : State) : withSection f b s = f n s := by
  simp [withSection, hl, hn]

/-- A request whose coil field is good is served for that coil. -/
theorem withCoil_eq {b : List Byte} {c : CoilId} (hl : b.length = 4) (hc : coilOf (word b 0) = some c)
    (f : CoilId → State → Served) (s : State) : withCoil f b s = f c s := by
  simp [withCoil, hl, hc]

/-- An answer changes nothing but the ports, the event unit and the queue of requests, from what serving made of the state
(R171). -/
theorem answer_frame (r : Request) (x : Served) :
    answer r x = { x.state with portA := (answer r x).portA, portB := (answer r x).portB,
                                events := (answer r x).events, requests := x.state.requests.drop 1 } := by
  have h : ∀ t, LinkFrame x.state t → (({ t with requests := t.requests.drop 1 } : State) =
      { x.state with portA := t.portA, portB := t.portB, events := t.events, requests := x.state.requests.drop 1 }) := by
    intro t ht; unfold LinkFrame at ht; rw [ht]
  have h1 := offerResponse_frame (x.reply.response r) r.port x.state
  unfold answer
  cases x.after with
  | none => exact h _ h1
  | some src => exact h _ ((h1.trans (offerNotice_frame src .a _)).trans (offerNotice_frame src .b _))

end Sys2Proof.Machine
end

