-- ==== Sys2Proof/WellFormed.lean ====
section
/-! DEFINITION. WellFormed.lean: which commands can reach the part at all. -/

namespace Sys2Proof

/-- A reception completes with a frame's last byte (R1), so a received frame holds a byte. Every other operand is of a
type that holds exactly the values the spec gives it. -/
def Instr.wf : Instr → Bool
  | .frameReceptionComplete _ f _ => !f.isEmpty
  | .holdOffRunOut _ => true
  | .transmitComplete _ => true
  | .linkLoss _ => true
  | .linkRestoration _ => true
  | .powerOn _ _ _ => true
  | .resetHeld => true
  | .resetRelease _ _ _ => true
  | .acceptTimeoutExpiry _ => true
  | .confirmationTimerExpiry _ => true
  | .moveTimeLimitExpiry _ => true
  | .silenceExpiry _ => true
  | .staleTimerExpiry => true
  | .alarmReassertion => true
  | .readInfo => true
  | .readSlot => true
  | .writeSlot => true
  | .writeMasks => true
  | .enableSlot => true
  | .readCoilTable => true
  | .writeCoilTable => true
  | .readSectionSettings => true
  | .writeSectionSettings => true
  | .readCoilSettings => true
  | .writeCoilSettings => true
  | .writeGlobal => true
  | .readState => true
  | .readEvents => true
  | .readSummary => true
  | .readCounters => true
  | .enableSection => true
  | .disableSection => true
  | .restartSection => true
  | .freeze => true
  | .unfreeze => true
  | .releaseCoil => true
  | .manualMove => true
  | .resetPart => true
  | .unknownRequest => true
  | .supplyOutOfRange => true

end Sys2Proof
end

