-- ==== Sys2Proof/Tests/Slice0.lean ====
section
/-! SUPPORT. Tests/Slice0.lean: the model's own tests. Expected values are the manual's worked examples and tables, or hand
calculation from them; each test names its source. The witnesses show, for each statement with hypotheses, a state and
operands that meet them all. -/

namespace Sys2Proof.Tests

/- One theorem at a time: the kernel evaluations below, run side by side, would each hold a thread. -/
set_option Elab.async false

open Sys2Proof Sys2Proof.Machine

/-! ### Small states -/

/-- The part in action, both links UP. -/
def up : State := State.initial 15 .up .up

/-- A request message of a kind with 4-byte fields, for station 15. -/
def asks (kind : Nat) (fields : List Nat) : Request :=
  { port := .a
    msg := beBytes 2 33 ++ beBytes 2 (8 + 4 * fields.length) ++ [0x12, 0x34, 15] ++ beBytes 1 kind
      ++ fields.flatMap (beBytes 4) }

def bodyOf (fields : List Nat) : List Byte := fields.flatMap (beBytes 4)

/-- A state whose request queue holds one request. -/
def asked (kind : Nat) (fields : List Nat) (s : State) : State := { s with requests := [asks kind fields] }

/-- A message in an untagged frame of type 88B5 hex, padded and with its check sequence. -/
def framed (m : List Byte) : Frame :=
  let b : List Byte := [1, 2, 3, 4, 5, 6, 7, 8, 9, 10, 11, 12, 0x88, 0xB5] ++ m
  let b := b ++ List.replicate (60 - b.length) 0
  b ++ crcBytes b

/-- What a command makes of a state, seen through `f`. -/
def after {α : Type} (i : Instr) (s : State) (f : State → α) : Option α :=
  match exec i s with
  | .next t => some (f t)
  | .fault _ => none
  | .refused _ => none

def sampleSlot : SlotDef :=
  { tag := 0x00120001, mode := .exact, body := .sample [{ role := .voltage, sec := .s1, channel := 0 }] }

def driveSlot : SlotDef := { tag := 0x00200001, mode := .exact, body := .drive .c1 }

def stateSlot : SlotDef := { tag := 0x00300001, mode := .exact, body := .state 0 }

def currentSlot : SlotDef :=
  { tag := 0x00120002, mode := .exact, body := .sample [{ role := .current, sec := .s1, channel := 0 }] }

/-- The table of coil 1 in the lookup example of 6.3. -/
def table1 : List TablePoint := [⟨1000, 20000⟩, ⟨4000, 30000⟩, ⟨8000, 50000⟩, ⟨12000, 60000⟩]

/-- The table of coil 2 in 6.9. -/
def table2 : List TablePoint := [⟨500, 15000⟩, ⟨6000, 40000⟩, ⟨9000, 48000⟩]

/-- Section 1 and coil 1 configured: sample slots 0 and 3, drive slot 1, STATE slot 2, coil table. -/
def configured : State :=
  { ((((up.setSlot 0 (Slot.fresh (some sampleSlot))).setSlot 1 (Slot.fresh (some driveSlot))).setSlot 2
      (Slot.fresh (some stateSlot))).setSlot 3 (Slot.fresh (some currentSlot))) with
    coil1 := { up.coil1 with table := table1, binding := some 1 }
    coil2 := { up.coil2 with table := table2 }
    coupler := { up.coupler with configured := true, available := true } }

/-- A reported state of a coil at rest. -/
def restingAt (p : Nat) : Reported :=
  { pos := p, motion := .still, lower := false, upper := false, injection := none, echo := false, time := 0 }

/-- Section 1 in a state, with the engine and supervisor that go with it. -/
def inState (st : SecState) : State :=
  { configured with
    sec1 := { configured.sec1 with
      state := st
      engine := { configured.sec1.engine with state := if st.measures then .wait else .off }
      sup := { configured.sec1.sup with phase := if st.active then .watch else .idle } }
    coil1 := { configured.coil1 with reported := some (restingAt 6200), toggle := some false, arrival := some .b } }

def idleRecord (k : RecordKind) (n : Nat) : InFlight := { record := { kind := k, toggle := true }, sends := n, lastSend := some 0 }

/-! ### Well-formed commands -/

theorem test_wf_empty_frame : (Instr.frameReceptionComplete .a [] false).wf = false := by decide
theorem test_wf_runt_frame : (Instr.frameReceptionComplete .a [1] false).wf = true := by decide

/-! ### Words: no row of the opcode table gives bits -/

theorem test_decode_none : decodeTableWord 32 1 = none := rfl
theorem test_fetch_unchanged : State.reset.withFetchWord 32 1 = State.reset := rfl

/-! ### Frames (chapters 1 and 12) -/

/-- The catalogued check value of the Ethernet check sequence over the nine ASCII digits. -/
theorem test_crc : crc32 [0x31, 0x32, 0x33, 0x34, 0x35, 0x36, 0x37, 0x38, 0x39] = 0xCBF43926 := by decide +kernel

/-- MOVE_TO 6400 for coil 1 with toggle 1, written out from 12.3. -/
theorem test_record_bytes :
    recordMessage .c1 { kind := .moveTo 6400, toggle := true } = [0, 17, 0, 10, 0, 1, 1, 0, 0x19, 0x00] := by
  decide +kernel

/-- The first 26 bytes of the frame that carries it, from station 5 (R181). -/
theorem test_record_frame :
    (originFrame 5 (recordMessage .c1 { kind := .moveTo 6400, toggle := true })).take 26
      = [255, 255, 255, 255, 255, 255, 2, 0, 0, 0, 0xC2, 5, 0x88, 0xB5, 0, 17, 0, 10, 0, 1, 1, 0, 0x19, 0x00, 0, 0] := by
  decide +kernel

/-- An event notice written out from 12.3: STREAM_STATE (18), slot 3, station 15, time 2000. -/
theorem test_notice_bytes :
    noticeMessage 15 { kind := .streamState, obj := .slot 3, time := 2000 }
      = [0, 35, 0, 12, 18, 2, 3, 15, 0, 0, 7, 208] := by decide +kernel

/-- A tagged frame is read behind its tag (R2, R180). -/
theorem test_tagged_message :
    messageOf ([1, 2, 3, 4, 5, 6, 7, 8, 9, 10, 11, 12, 0x81, 0x00, 0, 7, 0x88, 0xB5, 0, 3, 0, 4] ++ [9, 9, 9, 9])
      = [0, 3, 0, 4] := by decide +kernel

/-- A drive status message written out from 12.2: sequence 7, position 6203, MOVING, upper end-stop, injection 6, echo 1. -/
theorem test_status_read :
    statusOf [0, 3, 0, 16, 0, 0x20, 0, 1, 0, 7, 0x18, 0x3B, 1, 2, 6, 1] .b
      = { pos := 6203, motion := .moving, lower := false, upper := true, injection := some 6, echo := true,
          port := .b } := by decide +kernel

/-- A sample message written out from 12.2: count 3999, one channel of -40, valid. -/
theorem test_sample_read :
    let m : List Byte := [0, 1, 0, 17, 0, 0x12, 0, 1, 0x0F, 0x9F, 0, 1, 0xFF, 0xFF, 0xFF, 0xD8, 1]
    sampleCount m = 3999 ∧ channelValue m 0 = -40 ∧ channelValid m 0 = true
      ∧ malformedFor sampleSlot.body 4000 m = false := by decide +kernel

/-! ### Rings (3.8) -/

def ring38 : Ring := { entries := [], last := some 3997, heldU := 110, heldI := -60, index := 12000 }

def value (r : Role) (c : Nat) (v : Int) : ValueRecord := { role := r, count := c, slot := 0, value := some v }

def files (xs : List ValueRecord) (r : Ring) : Ring := xs.foldl (fun r x => (r.file 4000 x).ring) r

/-- 3.8 steps 1 to 4: both pairs depart, the index becomes 12002. -/
theorem test_ring_reordered :
    files [value .voltage 3998 120, value .voltage 3999 135, value .current 3999 (-40), value .current 3998 (-55)] ring38
      = { entries := [], last := some 3999, heldU := 135, heldI := -40, index := 12002 } := by decide +kernel

/-- 3.8 steps 5 to 10: a duplicate, a late value, and a gap of 2 that is filled. -/
theorem test_ring_gap :
    let r := files [value .voltage 0 150, value .voltage 3 190, value .current 3 (-10)]
      { entries := [], last := some 3999, heldU := 135, heldI := -40, index := 12002 }
    (r.file 4000 (value .voltage 0 150)).report = .duplicate ∧ (r.file 4000 (value .voltage 3999 135)).report = .late
      ∧ (r.file 4000 (value .current 0 (-30))).ring
        = { entries := [], last := some 3, heldU := 190, heldI := -10, index := 12006 } := by decide +kernel

/-! ### Windows and estimates (4.11, 4.12, 5.11) -/

/-- 4.11: the phasors and the grade. -/
theorem test_phasors :
    let w : Window := { start := 0, w := 16, j := 6, taken := 1280, auRe := 6878000000, auIm := 169758000000,
                        aiRe := 41945000000, aiIm := -1000000, subst := 2, pos1 := some 6200, pos2 := none }
    w.phasors SectionSettings.default 5 = { uRe := 328, uIm := 8095, iRe := 2000, iIm := 0, d := 65636609, grade := 7 } := by
  decide +kernel

/-- 4.12 steps 1, 3, 4 and 6. -/
theorem test_grade_hysteresis :
    gradeOf SectionSettings.default 0 168100 = 4 ∧ gradeOf SectionSettings.default 4 156025 = 4
      ∧ gradeOf SectionSettings.default 4 136900 = 3 ∧ gradeOf SectionSettings.default 3 152100 = 3 := by decide +kernel

/-- The entries R53 gives. -/
theorem test_cosine :
    [0, 40, 80, 120, 160, 320, 480].map cosRef = [32767, 30273, 23170, 12539, 0, -32767, 0] := by decide +kernel

/-- 5.11 steps 2, 3, 6 and 9. -/
theorem test_admittance :
    let f : Phasors := { uRe := 328, uIm := 8095, iRe := 2000, iIm := 0, d := 65636609, grade := 7 }
    reY f = 999 ∧ imY f = -24666 ∧ rawSusceptance 6 (-24666) 41000 = 40001 ∧ roundDiv (1000 * 999) 40001 = 25 := by
  decide +kernel

/-- 5.11 step 8 and the second window: a step, then the filter. -/
theorem test_estimate :
    (Estimate.accept { Estimate.cleared with e := some 37800 } SectionSettings.default 0 999 40001).e = some 40001
      ∧ (Estimate.accept { Estimate.cleared with e := some 40001 } SectionSettings.default 0 1005 40801).e
        = some 40201 := by decide +kernel

/-! ### Tables and targets (6.3, 5.11, 6.9) -/

theorem test_lookups :
    forwardLookup table1 6200 = some 41000 ∧ forwardLookup table1 500 = some 20000
      ∧ inverseLookup table1 42001 = some (6400, false) ∧ inverseLookup table1 57000 = some (10800, false)
      ∧ inverseLookup table1 60000 = some (12000, true) ∧ inverseLookup table1 18500 = some (1000, true) := by
  decide +kernel

theorem test_decision_arithmetic :
    presentDetuning 40001 41000 = -25 ∧ targetSusceptance 40001 (-50) = 42001
      ∧ splitTarget table1 table2 128 105000 = (57000, 48000, 0) := by decide +kernel

/-! ### Events (10.9) -/

def source (k : EventKind) (o : Obj) (t : Time) : Source := { kind := k, obj := o, time := t }

/-- 10.9 steps 1 to 5: one masked notice, level 1 opened, level 2 merging. -/
def events5 : EventUnit :=
  [source .moveDone (.coil .c1) 1000, source .streamState (.slot 3) 2000, source .windowRejected (.busSection .s2) 2400,
   source .measureLost (.busSection .s2) 2400, source .forwardDrop (.port .b) 2600].foldl EventUnit.file up.events

theorem test_stacking :
    events5.level2 = some { kinds := [.measureLost, .forwardDrop], first := source .measureLost (.busSection .s2) 2400,
                            latest := source .forwardDrop (.port .b) 2600 }
      ∧ events5.alarm = .asserted ∧ events5.summary
        = [.measureLost, .windowRejected, .moveDone, .streamState, .forwardDrop] := by decide +kernel

/-- 10.9 step 6: the record moves up and the line waits a millisecond. -/
theorem test_moving_up :
    (events5.moveUp 3000).alarm = .reassertAt 3001 ∧ (events5.moveUp 3000).level2 = none := by decide +kernel

/-! ### Drive link and sections (7.12, R125, R134) -/

/-- 7.12: the limit of a move of 200 steps. -/
theorem test_move_limit :
    moveLimit CoilSettings.default
      { target := 6400, origin := .automatic, accepted := none, start := 6200, movingSeen := false } = 3000 := by
  decide +kernel

/-- 7.12, first row: the move request is taken at once. -/
theorem test_move_taken :
    let k := (requestMove .c1 6400 .automatic (inState .tracking)).coil .c1
    k.toggle = some true ∧ k.state = .awaitEcho ∧ k.inFlight.map InFlight.sends = some 1
      ∧ k.move.map Move.start = some 6200 := by decide +kernel

/-- R134: the configured section starts and its injection is asked for. -/
theorem test_enable_section :
    after .enableSection (asked 17 [1] configured) (fun t => (t.sec1.state, t.coil1.pendInj))
      = some (.starting, some (.on 6)) := by decide +kernel

/-- R145, R145 step 2: the coupler closes and section 2 stands aside. -/
theorem test_coupler_closes :
    let t := couplerValue .closed (inState .tracking)
    t.sec1.state = .measuring ∧ t.sec2.state = .joined ∧ t.coupler.held = .closed := by decide +kernel

/-- R1: a frame of 63 bytes is a runt. -/
theorem test_runt : frameBad (List.replicate 63 0) = true := by decide +kernel

/-- R24: nine bytes of errors, band by band. -/
theorem test_bands : [95, 96, 127, 128, 255, 256].map slotBand = [.active, .warning, .warning, .passive, .passive, .off] := by
  decide +kernel

/-! ### Witnesses: each statement's hypotheses are met together -/

def rawFrame : Frame := framed [0, 17, 0, 10, 0, 1, 1, 0, 0x19, 0x00]

def requestFrame (station : Nat) : Frame := framed (beBytes 2 33 ++ beBytes 2 8 ++ [0, 1] ++ beBytes 1 station ++ [1])

def sampleFrame (c : Nat) : Frame :=
  framed ([0, 1, 0, 17, 0, 0x12, 0, 1] ++ beBytes 2 c ++ [0, 1, 0, 0, 0, 150, 1])

def full : State :=
  { up with portB := { up.portB with forward := List.replicate 31 [1], tx := .forward [2] true }
            requests := List.replicate 4 (asks 1 []) }

theorem witness_EmptyQueueStep :
    up.pending = [] ∧ up.ownCommand = none ∧ up.live = true ∧ State.live { up with held := true } = false
      ∧ (asked 1 [] up).ownCommand = some .readInfo ∧ (asked 1 [] up).dueCommands = [] := by decide +kernel

theorem witness_PartOutOfActionIsInert : State.live { up with held := true } = false := by decide +kernel

theorem witness_PowerOnLeaves : State.supplyOk { up with held := true } = true ∧ State.held { up with held := true } = true := by
  decide +kernel

theorem witness_ResetHeldAndSupplyLost : up.supplyOk = true := by decide +kernel

theorem witness_LinkLossDiscards : up.live = true ∧ (up.port .a).link = .up := by decide +kernel

/-- A stopped move of coil 1 waits for a place on port B. -/
def waitingStop : Waiting := { tracked := false, record := { kind := .stop, toggle := true }, route := .one .b }

def waits : State := { full with coil1 := { full.coil1 with waiting := [waitingStop] } }

theorem witness_TransmissionCompletesAndLinkReturns :
    waits.live = true ∧ (waits.port .b).tx ≠ .idle ∧ (waits.coil .c1).waiting = [waitingStop] ∧ waitingStop.route = .one .b
      ∧ (waits.port .b).link = .up ∧ ((waits.modPort .b PortState.complete).port .b).originOccupancy < 8
      ∧ waitingStop.tracked = false := by decide +kernel

theorem witness_FramesNotRelayed :
    up.live = true ∧ frameBad (List.replicate 63 0) = true ∧ frameBad (List.replicate 1523 0) = true
      ∧ (State.reset.port .a).link = .down ∧ (up.port .a).link = .up
      ∧ frameBad (requestFrame 15) = false ∧ classify (requestFrame 15) = .request
      ∧ up.addressed (messageOf (requestFrame 15)) = true ∧ up.requests.length = 0 ∧ full.requests.length = 4 := by
  decide +kernel

theorem witness_OtherFramesRelayed :
    up.live = true ∧ (up.port .a).link = .up ∧ frameBad rawFrame = false ∧ classify rawFrame = .own
      ∧ (up.port .b).link = .up ∧ (up.port .b).forwardOccupancy = 0 ∧ (full.port .b).forwardOccupancy = 32
      ∧ ((State.initial 15 .up .down).port .b).link = .down ∧ classify (requestFrame 3) = .request
      ∧ up.addressed (messageOf (requestFrame 3)) = false ∧ classify (framed [0, 9, 0, 4]) = .unknown
      ∧ frameBad (framed [0, 9, 0, 4]) = false ∧ classify (sampleFrame 5) = .sample := by decide +kernel

theorem witness_UntakenFrame :
    frameBad (sampleFrame 5) = false ∧ classify (sampleFrame 5) = .sample
      ∧ up.taker (classify (sampleFrame 5)) (streamTag (messageOf (sampleFrame 5))) = none
      ∧ classify (framed [0, 2, 0, 7, 0, 0, 0]) = .state ∧ msgLength (messageOf (framed [0, 2, 0, 7, 0, 0, 0])) < 8 := by
  decide +kernel

/-- A frame for slot `i` of `configured`, whose last count and errors are given. -/
def judging (i : Fin 24) (last : Option Nat) (errors : Nat) : State :=
  configured.modSlot i fun x => { x with last := last, errors := errors, state := slotBand errors }

/-- A drive status frame of coil 1: position 6200, STILL, injection 6, echo 1. -/
def driveFrame (n : Nat) : Frame :=
  framed ([0, 3, 0, 16, 0, 0x20, 0, 1] ++ beBytes 2 n ++ [0x18, 0x38, 0, 0, 6, 1])

/-- A state frame with one point, CLOSED. -/
def stateFrame (n : Nat) : Frame := framed ([0, 2, 0, 12, 0, 0x30, 0, 1] ++ beBytes 2 n ++ [1, 1])

/-- What the taking of a frame asks for, other than the state. -/
def takes (f : Frame) (s : State) (i : Fin 24) (d : SlotDef) : Bool :=
  s.live && (s.port .a).link == .up && !frameBad f && classify f == d.body.kind && 8 ≤ msgLength (messageOf f)
    && s.taker (classify f) (streamTag (messageOf f)) == some i && (s.slot i).defn == some d

theorem taking_of (f : Frame) (s : State) (i : Fin 24) (d : SlotDef) (h : takes f s i d = true) : Taking .a f s i d := by
  simp only [takes, Bool.and_eq_true, Bool.not_eq_true', beq_iff_eq, decide_eq_true_eq] at h
  exact ⟨h.1.1.1.1.1.1, h.1.1.1.1.1.2, h.1.1.1.1.2, h.1.1.1.2, h.1.1.2, h.1.2, h.2⟩

/-- A malformed sample, one in sequence, a repeat and a gap of slot 0, and at its passage from WARNING to PASSIVE, where slot 0
and the STATE slot hand nothing on. -/
theorem witness_TakenFrameIsJudged :
    Taking .a (sampleFrame 4000) (judging 0 none 0) 0 sampleSlot
      ∧ malformedFor sampleSlot.body 4000 (messageOf (sampleFrame 4000)) = true
      ∧ Taking .a (sampleFrame 3999) (judging 0 (some 3998) 127) 0 sampleSlot
      ∧ malformedFor sampleSlot.body 4000 (messageOf (sampleFrame 3999)) = false
      ∧ sampleCount (messageOf (sampleFrame 3999)) = 3999 ∧ sampleCount (messageOf (sampleFrame 0)) = (3999 + 1) % 4000
      ∧ ((judging 0 (some 3998) 127).slot 0).state = .warning
      ∧ (((judging 0 (some 3998) 127).slot 0).afterGap 7).state = .passive
      ∧ Taking .a (sampleFrame 3999) (judging 0 (some 7) 127) 0 sampleSlot
      ∧ (receive .a (sampleFrame 3999) false (judging 0 (some 7) 127)).sec1.ring = Ring.cleared
      ∧ Taking .a (stateFrame 9) (judging 2 (some 5) 127) 2 stateSlot
      ∧ ((receive .a (stateFrame 9) false (judging 2 (some 5) 127)).slot 2).state = .passive
      ∧ (receive .a (stateFrame 9) false (judging 2 (some 5) 127)).coupler.available = false :=
  ⟨taking_of _ _ _ _ (by decide +kernel), by decide +kernel, taking_of _ _ _ _ (by decide +kernel), by decide +kernel,
    by decide +kernel, by decide +kernel, by decide +kernel, by decide +kernel, taking_of _ _ _ _ (by decide +kernel),
    by decide +kernel, taking_of _ _ _ _ (by decide +kernel), by decide +kernel, by decide +kernel⟩

/-- Drive frames at the edges of R23: 1, 0, 2, 32768 and 32769 ahead of the last sequence number. -/
theorem witness_TakenFrameIsJudged_sequence :
    Taking .a (driveFrame 5) (judging 1 (some 5) 0) 1 driveSlot
      ∧ malformedFor driveSlot.body 4000 (messageOf (driveFrame 5)) = false
      ∧ sequenceNumber (messageOf (driveFrame 5)) = 5 ∧ [4, 5, 3, 32773, 32772].map (fun l => (5 + 65536 - l % 65536) % 65536)
        = [1, 0, 2, 32768, 32769] :=
  ⟨taking_of _ _ _ _ (by decide +kernel), by decide +kernel⟩

theorem witness_SampleReachesItsRing :
    Taking .a (sampleFrame 3999) (judging 0 none 96) 0 sampleSlot
      ∧ malformedFor sampleSlot.body 4000 (messageOf (sampleFrame 3999)) = false
      ∧ ((judging 0 none 96).slot 0).state = .warning ∧ ((judging 0 none 96).slot 0).last = none
      ∧ (((judging 0 none 96).slot 0).inSequence 3999).state = .active
      ∧ ((judging 0 (some 3999) 0).slot 0).last = some (sampleCount (messageOf (sampleFrame 3999)))
      ∧ (((judging 0 (some 7) 0).slot 0).afterGap 3999).state = .active
      ∧ ((judging 0 none 128).slot 0).state = .passive ∧ (((judging 0 none 128).slot 0).inSequence 3999).state = .warning
      ∧ channelValid (messageOf (sampleFrame 3999)) 0 = true
      ∧ (configured.sec .s1).settings.recoveryCycles ≠ 0 ∧ (configured.sec .s2).settings.recoveryCycles ≠ 0
      ∧ (configured.sec .s1).engine.state = .off ∧ (configured.sec .s1).sup.phase = .idle :=
  ⟨taking_of _ _ _ _ (by decide +kernel), by decide +kernel⟩

theorem witness_StatusFramesReachTheirUsers :
    Taking .a (driveFrame 6) (judging 1 (some 5) 0) 1 driveSlot
      ∧ malformedFor driveSlot.body 4000 (messageOf (driveFrame 6)) = false
      ∧ sequenceNumber (messageOf (driveFrame 6)) = (5 + 1) % 65536
      ∧ (((judging 1 (some 5) 0).slot 1).inSequence 6).state = .active
      ∧ Taking .a (stateFrame 32773) (judging 2 (some 5) 95) 2 stateSlot
      ∧ malformedFor stateSlot.body 4000 (messageOf (stateFrame 32773)) = false
      ∧ (32773 + 65536 - 5 % 65536) % 65536 = 32768
      ∧ (((judging 2 (some 5) 95).slot 2).afterGap 32773).state = .warning
      ∧ couplerOf (pointValue (messageOf (stateFrame 32773)) 0) = some .closed
      ∧ Taking .a (stateFrame 6) (judging 2 (some 5) 128) 2 stateSlot ∧ ((judging 2 (some 5) 128).slot 2).state = .passive
      ∧ (((judging 2 (some 5) 128).slot 2).inSequence 6).state = .warning :=
  ⟨taking_of _ _ _ _ (by decide +kernel), by decide +kernel, by decide +kernel, by decide +kernel,
    taking_of _ _ _ _ (by decide +kernel), by decide +kernel, by decide +kernel, by decide +kernel, by decide +kernel,
    taking_of _ _ _ _ (by decide +kernel), by decide +kernel⟩

theorem witness_RingFilesAndDelivers :
    ring38.wf Nominal.hz50.modulus ∧ (value .voltage 3999 1).count < Nominal.hz50.modulus := by
  refine ⟨⟨by decide, ?_, ?_, by decide, ?_, ?_⟩, by decide⟩ <;> simp [ring38]

/-- 3.9: voltage-only entries for `n` counts from 500 on; the value of count c is c. -/
def silent (n : Nat) : Ring :=
  { entries := (List.range n).map fun k => { count := 500 + k, u := some { value := 500 + k, slot := 0 }, i := none }
    last := some 499, heldU := 200, heldI := 700, index := 40000 }

/-- 3.9 step 1 and its neighbours: counts 499 and 2500 are LATE, 2499 is not; 500 is a DUPLICATE as a voltage and completes the
head as a current; 516 is new for 15 entries and forces the head out of 16. -/
theorem witness_RingFilesAndDelivers_full :
    (silent 16).wf Nominal.hz50.modulus ∧ (silent 16).entries.length = 16
      ∧ ([499, 2500, 2499].map fun c => ((silent 15).file 4000 (value .voltage c 1)).report) = [.late, .late, .none]
      ∧ ((silent 16).file 4000 (value .voltage 500 1)).report = .duplicate
      ∧ ((silent 16).file 4000 (value .current 500 690)).out
        = [.pair { index := 40000, count := 500, u := 500, i := 690, substU := false, substI := false }]
      ∧ ((silent 15).file 4000 (value .voltage 516 1)).out = []
      ∧ ((silent 16).file 4000 (value .voltage 516 516)).out
        = [.pair { index := 40000, count := 500, u := 500, i := 700, substU := false, substI := true }]
      ∧ ((silent 16).file 4000 (value .voltage 516 516)).ring.index = 40001 := by
  refine ⟨?_, by decide +kernel⟩
  simp only [Ring.wf, silent]
  decide +kernel

/-- 3.10: a gap of 9 is declared, and one of 4 would be filled. -/
theorem test_ring_long_gap :
    let s : Ring := { entries := [], last := some 1000, heldU := 240, heldI := 1980, index := 8075 }
    let s := (s.file 4000 (value .voltage 1010 260)).ring
    (s.file 4000 (value .current 1010 2010)).out
        = [.gap 8075 9, .pair { index := 8084, count := 1010, u := 260, i := 2010, substU := false, substI := false }]
      ∧ ({ s with last := some 1005 }.file 4000 (value .current 1010 2010)).out.length = 5 := by decide +kernel

theorem witness_GradeRule : (7 : Nat) ≤ 7 := by decide

theorem witness_AcceptedEstimate :
    (100 : Int) ≤ 40001 ∧ (40001 : Int) ≤ 1000000 ∧ (100 : Int) ≤ 37800
      ∧ SectionSettings.default.stepThreshold ≤ ((40001 : Int) - 37800).natAbs
      ∧ ((40801 : Int) - 40001).natAbs < SectionSettings.default.stepThreshold := by decide

/-- Section 1 TRACKING with its drive reporting the injection code, its engine waiting past its first pair. -/
def measuringAt (e : EngineState) (settle : Nat) : State :=
  { (inState .tracking) with
    sec1 := { (inState .tracking).sec1 with
      engine := { Engine.initial with state := e, firstPair := true, settle := settle, quick := 0 } }
    coil1 := { (inState .tracking).coil1 with reported := some { restingAt 6200 with injection := some 6 } } }

/-- The window of 4.11 one pair before its end. -/
def window411 : Window :=
  { start := 0, w := 16, j := 6, taken := 1279, auRe := 6878000000, auIm := 169758000000, aiRe := 41945000000,
    aiIm := -1000000, subst := 2, pos1 := some 6200, pos2 := none }

def pairAt (k : Nat) : Pair := { index := k, count := 0, u := 150, i := 20, substU := false, substI := false }

/-- 4.6: pair 1280 is a boundary of W 16, pair 640 is not; coil 1 rests and injects. -/
theorem witness_WindowEngineTakesPairs :
    ((engineTakes .s1 (pairAt 1280) (measuringAt .wait 0)).sec .s1).engine.window.isSome = true
      ∧ ((engineTakes .s1 (pairAt 1280) (measuringAt .wait 2)).sec .s1).engine.settle = 1
      ∧ engineTakes .s1 (pairAt 640) (measuringAt .wait 0) = measuringAt .wait 0
      ∧ (window411.taken + 1 = 80 * window411.w) ∧ (measuringAt .wait 0).joined = false := by decide +kernel

/-- 4.11 and 5.11: the window is accepted with E 40001 and the decision that follows asks for 6400; a window of too few
milliamperes is rejected. -/
theorem witness_WindowCompletes :
    let s := measuringAt .off 0
    ((completeWindow .s1 window411 s).sec .s1).estimate.e = some 40001
      ∧ ((completeWindow .s1 window411 s).sec .s1).decision.map Decision.pos1 = some (some 6400)
      ∧ ((completeWindow .s1 { window411 with aiRe := 0 } s).sec .s1).estimate.reason = some .noInjection
      ∧ recordedSusceptance s.coil1.table window411.pos1 = some 41000
      ∧ recordedSusceptance s.coil2.table window411.pos2 = some 0 := by decide +kernel

/-- 5.11 and 6.9 between them: E 40001 at 6200 lies outside the deadband, E 39048 inside it; one more FILTERED window only
counts. -/
theorem witness_DecisionsAreTaken :
    let s := measuringAt .wait 0
    s.joined = false ∧ s.sec1.counter + 1 < s.sec1.settings.decisionInterval
      ∧ s.sec1.settings.deadband < (roundDiv (1000 * (40001 - 41000)) 40001 - s.sec1.settings.detuningSet).natAbs
      ∧ (roundDiv (1000 * (39048 - 41000)) 39048 - s.sec1.settings.detuningSet).natAbs ≤ s.sec1.settings.deadband
      ∧ s.sec1.inhibit.isEmpty = true ∧ s.coil1.aim = 6200 ∧ inTableRange s.coil1.table 6400 = true
      ∧ s.coil1.takesRequests = true ∧ s.sec1.state = .tracking := by decide +kernel

/-- 6.9: section 1 tunes both coils, which stand at these positions. -/
def joinedAt (p1 p2 : Nat) : State :=
  { measuringAt .wait 0 with
    coupler := { configured.coupler with held := .closed }
    sec2 := { configured.sec2 with state := .joined, sup := { configured.sec2.sup with phase := .watch } }
    coil1 := { (measuringAt .wait 0).coil1 with reported := some { restingAt p1 with injection := some 6 } }
    coil2 := { configured.coil2 with binding := some 4, toggle := some false, arrival := some .b,
                                     reported := some (restingAt p2) } }

/-- 6.9, first and second decision: split, positions and limit, and the two moves asked for or not. -/
theorem witness_DecisionsAreTaken_joined :
    let s := joinedAt 8000 6000
    let first := (targetTakes .s1 .first 100000 s).sec1.decision
    let second := (targetTakes .s1 .step 115000 (joinedAt 10800 9000)).sec1.decision
    s.joined = true ∧ s.coil2.takesRequests = true ∧ inTableRange s.coil2.table 9000 = true
      ∧ first.map Decision.bLnow = some 90000 ∧ first.map Decision.split = some (some (57000, 48000, 0))
      ∧ first.map Decision.pos1 = some (some 10800) ∧ first.map Decision.pos2 = some (some 9000)
      ∧ first.map Decision.limited = some false ∧ first.map Decision.outcome = some .move
      ∧ first.map Decision.req2 = some true
      ∧ second.map Decision.split = some (some (60000, 48000, 12750)) ∧ second.map Decision.limited = some true
      ∧ second.map Decision.pos1 = some (some 12000) ∧ second.map Decision.req2 = some false := by decide +kernel

theorem table1_legal : tableLegal table1 := by unfold tableLegal; decide

theorem witness_TableLookupsAndSplit :
    tableLegal table1 ∧ table1.head? = some ⟨1000, 20000⟩ ∧ table1.getLast? = some ⟨12000, 60000⟩
      ∧ table1[1]? = some ⟨4000, 30000⟩ ∧ table1[2]? = some ⟨8000, 50000⟩ := ⟨table1_legal, by decide⟩

theorem witness_TableLookupsAndSplit_split :
    tableEnds table1 = some (⟨1000, 20000⟩, ⟨12000, 60000⟩) ∧ tableEnds table2 = some (⟨500, 15000⟩, ⟨9000, 48000⟩)
      ∧ (20000 : Int) ≤ roundDiv (80000 * 128) 256 ∧ (80000 : Int) - roundDiv (80000 * 128) 256 ≤ 48000
      ∧ splitTarget table1 table2 128 80000 = (40000, 40000, 0) := by decide +kernel

/-- A coil with a pending move target, and one with a pending INJECT_ON, in TRACKING. -/
def pendingMove : State :=
  (inState .tracking).modCoil .c1 fun k => { k with pendMove := some { target := 6400, origin := .automatic } }

theorem witness_SendCondition :
    (pendingMove.coil .c1).inFlight = none
      ∧ ((takePending .c1 pendingMove).coil .c1).inFlight
        = some { record := { kind := .moveTo 6400, toggle := true }, sends := 1, lastSend := some 0 } := by
  decide +kernel

/-- Coil 1 with a record awaiting its echo and a move in flight. -/
def awaiting (n : Nat) : State :=
  (inState .tracking).modCoil .c1 fun k => { k with
    inFlight := some (idleRecord (.moveTo 6400) n), toggle := some true, acceptTimer := some 60
    confirmTimer := some { code := 6, due := 60 }, moveTimer := some 60, silenceTimer := some 60
    move := some { target := 6400, origin := .automatic, accepted := none, start := 6200, movingSeen := false } }

/-- A status record of coil 1 at 6200 with this injection and echo. -/
def statusWith (j : Option Nat) (e : Bool) : StatusRecord :=
  { pos := 6200, motion := .still, lower := false, upper := false, injection := j, echo := e, port := .b }

/-- Coil 1 in a section that is MEASURING, with a move target pending and its injection held ON. -/
def losing : State :=
  (inState .measuring).modCoil .c1 fun k =>
    { k with heldInj := .on 6, pendMove := some { target := 6400, origin := .manual } }

/-- R136: a pending target is cleared when INJECTION_LOST takes MEASURING to STARTING. -/
theorem test_lost_clears_target : ((treatStatus .c1 (statusWith none false) losing).coil .c1).pendMove = none := by
  decide +kernel

/-- R121: a second INJECT_ON accepted while the first is held ON is confirmed by its echoing record. -/
theorem test_second_confirmation :
    let s := (inState .starting).modCoil .c1 fun k =>
      { k with heldInj := .on 6, inFlight := some (idleRecord (.injectOn 6) 1), toggle := some true }
    let k := (treatStatus .c1 (statusWith (some 6) true) s).coil .c1
    k.heldInj = .on 6 ∧ k.confirmTimer = none ∧ k.inFlight = none := by decide +kernel

/-- R11: the copy of a record for both ports is discarded at the DOWN port while the other queue is full, and the record waits
for that queue alone. -/
theorem test_down_copy_discarded :
    let s : State := { State.initial 15 .down .up with
      portB := { up.portB with origin := List.replicate 8 (.notice (source .linkDown (.port .a) 0)) } }
    let t := offerRecord .c1 true { kind := .stop, toggle := true } s
    t.portA.originDrops = 1 ∧ t.coil1.waiting.map Waiting.route = [.one .b] := by decide +kernel

theorem witness_EchoAccepts :
    ((awaiting 1).coil .c1).inFlight = some (idleRecord (.moveTo 6400) 1)
      ∧ ((awaiting 1).coil .c1).confirmTimer = some { code := 6, due := 60 }
      ∧ (losing.coil .c1).heldInj = .on 6 ∧ (losing.sec .s1).state.measures = true := by decide +kernel

theorem witness_ArrivalEndsMove :
    ((awaiting 1).coil .c1).move
      = some { target := 6400, origin := .automatic, accepted := none, start := 6200, movingSeen := false } := by
  decide +kernel

theorem witness_StatusIsReported :
    (Coil.failed { up.coil1 with failed := true }) = true
      ∧ ((measuringAt (.run window411) 0).coil .c1).failed = false
      ∧ ((measuringAt (.run window411) 0).sec .s1).engine.state = .run window411
      ∧ (measuringAt (.run window411) 0).injector .s1 = some .c1 ∧ .c1 ∈ (measuringAt (.run window411) 0).drives .s1
      ∧ window411.posOf .c1 = some 6200 ∧ window411.j = 6
      ∧ ((awaiting 1).coil .c1).failed = false ∧ (awaiting 1).coil1.table.head? = some ⟨1000, 20000⟩
      ∧ (awaiting 1).coil1.table.getLast? = some ⟨12000, 60000⟩
      ∧ (treatStatus .c1 { statusWith none false with lower := true } (awaiting 1)).coil1.failed = true
      ∧ (treatStatus .c1 { statusWith none false with motion := .haltedFault } (awaiting 1)).coil1.failed = true
      ∧ (treatStatus .c1 (statusWith none false) (awaiting 1)).coil1.failed = false := by decide +kernel

theorem witness_TimersFailTheirCoil :
    (awaiting 3).live = true ∧ ((awaiting 3).coil .c1).inFlight = some (idleRecord (.moveTo 6400) 3)
      ∧ ((awaiting 3).coil .c1).acceptTimer.isSome = true ∧ ((awaiting 3).coil .c1).confirmTimer.isSome = true
      ∧ ((awaiting 3).coil .c1).moveTimer.isSome = true ∧ ((awaiting 3).coil .c1).silenceTimer.isSome = true
      ∧ ((awaiting 3).coil .c1).move.isSome = true ∧ ((awaiting 3).coil .c1).toggle = some true
      ∧ (losing.coil .c1).heldInj ≠ .off := by decide +kernel

theorem witness_AcceptTimeoutResends :
    recordMaySend .c1 (.moveTo 6400) (awaiting 2) = true ∧ ((awaiting 2).coil .c1).waiting = []
      ∧ (awaiting 2).admits .c1 { tracked := true, record := (idleRecord (.moveTo 6400) 2).record, route := .one .b }
        = true
      ∧ ((awaiting 2).coil .c1).route = .one .b ∧ ((awaiting 2).port .b).link = .up
      ∧ recordMaySend .c1 (.moveTo 6400) ((awaiting 2).modSec .s1 fun x => { x with state := .fault }) = false := by
  decide +kernel

/-- Section 1 in RECOVERY with its hold-off run out. -/
def recovering : State := setHoldOff .s1 (some 250) (inState .recovery)

def stale : State :=
  { configured with coupler := { configured.coupler with staleTimer := some 0 }
                    events := { configured.events with alarm := .reassertAt 1 } }

theorem witness_SectionAndCouplerExpiries :
    recovering.live = true ∧ (recovering.sec .s1).state = .recovery ∧ (recovering.sec .s1).sup.holdOff = some 250
      ∧ (recovering.sec .s1).settings.recoveryCycles ≤ 250
      ∧ stale.live = true ∧ stale.coupler.staleTimer.isSome = true ∧ stale.coupler.unsure.isEmpty = true
      ∧ stale.events.alarm = .reassertAt 1 := by decide +kernel

/-- Section 1 in a state, its supervisor in a phase at the last pair of cycle 1, with a sum of squares and counters. -/
def supervising (st : SecState) (ph : SupPhase) (q : Int) (confirm clear : Nat) : State :=
  { (inState st) with
    sec1 := { (inState st).sec1 with
      sup := { Supervisor.initial with phase := ph, acc := some { cycle := 1, q := q, blind := false }, confirm := confirm,
                                       clear := clear } } }

/-- R153, R155: at the defaults an onset cycle has Q of at least 80 × 250000², a clear cycle less than 80 × 150000². -/
theorem witness_SupervisorTakesPairs :
    let s := supervising .tracking .watch 5000000000000 0 0
    (supervisorTakes .s1 (pairAt 159) s).sec1.sup.confirm = 1
      ∧ (supervisorTakes .s1 (pairAt 159) (supervising .tracking .watch 0 3 0)).sec1.sup.confirm = 0
      ∧ (supervisorTakes .s1 (pairAt 159) (supervising .fault .standing 0 0 3)).sec1.sup.clear = 4
      ∧ s.sec1.sup.phase = .watch ∧ (159 : Nat) % 80 = 79 := by decide +kernel

theorem supervising_follows (st : SecState) (ph : SupPhase) (q : Int) (c d : Nat) (h : st.active = true) (h' : ph ≠ .idle) :
    SupervisorsFollow (supervising st ph q c d) := by
  intro n
  cases n
  · simp [supervising, inState, State.sec, State.supervised, h, h']
  · exact iff_of_true rfl rfl

theorem witness_FaultsConfirmAndClear :
    SupervisorsFollow (supervising .tracking .watch 5000000000000 4 0)
      ∧ SupervisorsFollow (supervising .fault .standing 0 0 24)
      ∧ (supervising .tracking .watch 5000000000000 4 0).sec1.settings.confirmCycles ≤ 4 + 1
      ∧ ((80 * (250000 * 250000) : Nat) : Int) ≤ 5000000000000 + 150 * 150
      ∧ (supervising .fault .standing 0 0 24).sec1.settings.clearCycles ≤ 24 + 1
      ∧ (supervisorTakes .s1 (pairAt 159) (supervising .tracking .watch 5000000000000 4 0)).sec1.state = .fault
      ∧ (supervisorTakes .s1 (pairAt 159) (supervising .fault .standing 0 0 24)).sec1.state = .recovery :=
  ⟨supervising_follows _ _ _ _ _ rfl (by decide), supervising_follows _ _ _ _ _ rfl (by decide), by decide +kernel⟩

def joined (r : ReturnState) : State :=
  { (inState .tracking) with
    coupler := { configured.coupler with held := .closed }, ret2 := r
    sec2 := { configured.sec2 with state := .joined, sup := { configured.sec2.sup with phase := .standing } } }

/-- A BAD point makes both sections unsure, and the OPEN that follows makes them sure again; so does a report of availability. -/
theorem witness_UnsureCausesActOnSections :
    let s := measuringAt (.run window411) 0
    let t := couplerValue .bad s
    s.coupler.held = .open ∧ s.coupler.unsure.isEmpty = true ∧ s.sec1.inhibit.isEmpty = true
      ∧ t.coupler.unsure.isEmpty = false ∧ t.sec1.engine.state = .off ∧ t.sec2.inhibit.unsure = true
      ∧ (couplerValue .open t).coupler.unsure.isEmpty = true ∧ (couplerValue .open t).sec1.engine.state = .wait
      ∧ (reportAvailability false t).sec1 = t.sec1
      ∧ (reportAvailability true (reportAvailability false s)).sec1.engine.state = .wait := by decide +kernel

/-- The coupler OPEN, section 1 in use and a fault standing on section 2. -/
def faultOn2 : State :=
  { (inState .tracking) with
    sec2 := { configured.sec2 with state := .fault, sup := { configured.sec2.sup with phase := .standing } } }

theorem witness_CouplerPositionMovesSections :
    (inState .tracking).coupler.held = .open ∧ (inState .halted).sec1.state = .halted
      ∧ (inState .tracking).sec2.sup.phase ≠ .standing ∧ faultOn2.coupler.held = .open
      ∧ (couplerValue .closed faultOn2).sec1.state = .fault
      ∧ (joined .starting).coupler.held = .closed ∧ (joined .starting).sec2.state = .joined
      ∧ (joined .starting).ret2 = .starting ∧ (joined .starting).sec2.sup.phase = .standing
      ∧ (joined .starting).sec1.state.active = true ∧ (joined .halted).ret2 = .halted
      ∧ (joined .disabled).ret2 = .disabled
      ∧ (couplerValue .open { joined .disabled with sec1 := (inState .fault).sec1 }).sec1.state = .recovery := by
  decide +kernel

/-- A manual target of coil 2 that waits for the end of a move, with both sections DISABLED. -/
def manualOn2 (st : SecState) : State :=
  { (inState .disabled) with
    sec2 := { configured.sec2 with state := st }
    coil2 := { configured.coil2 with pendMove := some { target := 6000, origin := .manual } } }

theorem witness_CouplerPosition_manual :
    (manualOn2 .disabled).coupler.held = .open ∧ (manualOn2 .disabled).sec1.state = .disabled
      ∧ (couplerValue .closed (manualOn2 .disabled)).coil2.pendMove = some { target := 6000, origin := .manual }
      ∧ (couplerValue .closed (manualOn2 .measuring)).coil2.pendMove = none := by decide +kernel

/-- A masked notice, an event that opens level 1, one that fills level 2 and one that joins it (10.9). -/
theorem witness_RaisedEventsAreFiled :
    up.held = false ∧ up.events.enabled .moveDone = false ∧ up.events.level1 = none
      ∧ (raise .driveLost (.coil .c1) up).portA.origin = [.notice (source .driveLost (.coil .c1) 0)]
      ∧ (raise .driveLost (.coil .c1) up).events.alarm = .asserted
      ∧ (events5.file (source .linkDown (.port .a) 0)).level1 = events5.level1
      ∧ events5.level1.isSome = true ∧ events5.level2.isSome = true := by decide +kernel

/-- A request of kind `k` with these fields is served in a state in action that has it at its head. -/
theorem serving_asked (k : Nat) (fs : List Nat) (s : State) (hl : s.live = true)
    (h : (asks k fs).holdsHeader = true ∧ (asks k fs).kind = k ∧ (asks k fs).body = some (bodyOf fs)) :
    Serving (asked k fs s) k (asks k fs) (bodyOf fs) :=
  ⟨hl, rfl, h.1, h.2.1, h.2.2⟩

theorem witness_ReadsAnswer :
    Serving (asked 1 [] up) 1 (asks 1 []) [] ∧ Serving (asked 2 [23] up) 2 (asks 2 [23]) (bodyOf [23])
      ∧ Serving (asked 6 [2] up) 6 (asks 6 [2]) (bodyOf [2]) ∧ Serving (asked 8 [1] up) 8 (asks 8 [1]) (bodyOf [1])
      ∧ Serving (asked 10 [1] up) 10 (asks 10 [1]) (bodyOf [1]) ∧ Serving (asked 13 [] up) 13 (asks 13 []) []
      ∧ (bodyOf [23]).length = 4 ∧ word (bodyOf [23]) 0 = 23 :=
  ⟨serving_asked 1 [] up rfl (by decide +kernel), serving_asked 2 [23] up rfl (by decide +kernel),
    serving_asked 6 [2] up rfl (by decide +kernel), serving_asked 8 [1] up rfl (by decide +kernel),
    serving_asked 10 [1] up rfl (by decide +kernel), serving_asked 13 [] up rfl (by decide +kernel), by decide +kernel,
    by decide +kernel⟩

def reported5 : State := { up with events := events5 }

theorem witness_ReadsThatClearAnswer :
    Serving (asked 14 [] reported5) 14 (asks 14 []) [] ∧ Serving (asked 15 [] reported5) 15 (asks 15 []) []
      ∧ Serving (asked 16 [3, 1] up) 16 (asks 16 [3, 1]) (bodyOf [3, 1])
      ∧ reported5.events.level1.isSome = true ∧ reported5.events.level2.isSome = true ∧ up.events.level1 = none
      ∧ (bodyOf [3, 1]).length = 8 ∧ word (bodyOf [3, 1]) 0 = 3 ∧ word (bodyOf [3, 1]) 1 = Port.number .b
      ∧ word (bodyOf [2, 23]) 1 = 23 ∧ word (bodyOf [4, 0]) 0 = 4 ∧ word (bodyOf [2, 24]) 1 = 24 :=
  ⟨serving_asked 14 [] reported5 rfl (by decide +kernel), serving_asked 15 [] reported5 rfl (by decide +kernel),
    serving_asked 16 [3, 1] up rfl (by decide +kernel), by decide +kernel⟩

/-- RESTART_SECTION of a DISABLED section is a request whose reply is other than OK. -/
theorem witness_RefusedRequestChangesNothing :
    (up.live = true ∧ 1 ≤ 19 ∧ 19 ≤ 24) ∧ (served 19 (bodyOf [1]) up).reply = .state ∧ ∀ a, Reply.state ≠ .ok a :=
  ⟨by decide, by decide +kernel, fun _ h => nomatch h⟩

/-- The fields of WRITE_SLOT for a STATE slot in slot 2 and for clearing it. -/
def stateFields : List Nat := [2, 1, 1, 0x00300001, 0, 0]

theorem witness_WriteSlot :
    Serving (asked 3 stateFields up) 3 (asks 3 stateFields) (bodyOf stateFields)
      ∧ writeSlotLength (bodyOf stateFields) = true ∧ word (bodyOf stateFields) 0 = 2
      ∧ slotDefOf (bodyOf stateFields) 2 up = .ok (some stateSlot) ∧ tiedToEnabled (up.slot 2).defn up = false
      ∧ tiedToEnabled (some stateSlot) up = false ∧ tiedToEnabled (some stateSlot) (inState .halted) = true
      ∧ isStateSlot (configured.slot 2).defn = true ∧ tiedToEnabled (configured.slot 2).defn configured = false
      ∧ (writeSlot 2 none configured).coupler.configured = false
      ∧ (writeSlot 2 (some stateSlot) up).coupler.unsure.noValue = true
      ∧ (writeSlot 2 (some stateSlot) up).sec2.inhibit.unsure = true :=
  ⟨serving_asked 3 stateFields up rfl (by decide +kernel), by decide +kernel⟩

/-- R15 at its boundaries: slot 24, a second STATE slot, compare mode 4, no binding, a taken binding, channel 8, point 8, and
coil 1 named twice. -/
theorem witness_WriteSlot_refused :
    ([[24, 0], [0, 2], [5, 1, 1, 7, 0, 0], [5, 1, 0, 7, 4, 1, 0, 2, 0], [5, 1, 0, 7, 0, 0], [5, 1, 0, 7, 0, 1, 0, 1, 3],
      [5, 1, 0, 7, 0, 2, 0, 2, 7, 1, 2, 8], [2, 1, 1, 7, 0, 8], [5, 1, 2, 7, 0, 1], [5, 1, 2, 7, 0, 2]].map fun fs =>
        (writeSlotLength (bodyOf fs), (serveWriteSlot (bodyOf fs) configured).reply))
      = [(true, .range 0 none), (true, .range 1 none), (true, .range 2 none), (true, .range 4 none), (true, .range 5 none),
         (true, .range 5 (some 0)), (true, .range 5 (some 1)), (true, .range 6 none), (true, .range 6 none),
         (true, .ok [])] := by decide +kernel

def masked : State := (inState .halted).modSlot 0 fun x => { x with defn := some { sampleSlot with mode := .maskA } }

theorem witness_WriteMasks :
    Serving (asked 4 [1, 2] masked) 4 (asks 4 [1, 2]) (bodyOf [1, 2]) ∧ (bodyOf [1, 2]).length = 8
      ∧ usesMask (masked.slot 0).defn = true ∧ tiedToEnabled (masked.slot 0).defn masked = true
      ∧ (configured.slot 0).defn = some sampleSlot
      ∧ ∀ i, usesMask (up.slot i).defn = false :=
  ⟨serving_asked 4 [1, 2] masked rfl (by decide +kernel), by decide +kernel⟩

theorem witness_EnableSlot :
    Serving (asked 5 [0] configured) 5 (asks 5 [0]) (bodyOf [0]) ∧ (bodyOf [0]).length = 4 ∧ word (bodyOf [0]) 0 = 0
      ∧ (configured.slot 0).defn.isSome = true ∧ (configured.slot 23).defn = none :=
  ⟨serving_asked 5 [0] configured rfl (by decide +kernel), by decide +kernel⟩

def tableFields : List Nat := [1, 2, 0, 1, 65535, 1000000]

theorem witness_WriteCoilTable :
    Serving (asked 7 tableFields up) 7 (asks 7 tableFields) (bodyOf tableFields) ∧ tableLength (bodyOf tableFields) = true
      ∧ word (bodyOf tableFields) 0 = CoilId.number .c1 ∧ word (bodyOf tableFields) 1 = 2
      ∧ badPoint 0 none (tablePoints (bodyOf tableFields) 2) = none
      ∧ badPoint 0 none (tablePoints (bodyOf [1, 2, 5, 1, 5, 2]) 2) = some 1
      ∧ tableLength (bodyOf [1, 1, 0, 1]) = true ∧ (up.sec CoilId.c1.sec).state = .disabled :=
  ⟨serving_asked 7 tableFields up rfl (by decide +kernel), by decide +kernel⟩

/-- The default settings of a section as WRITE_SECTION_SETTINGS carries them, for section 1. -/
def settingsFields (deadband interval inj : Nat) : List Nat :=
  [1, inj, 16, 3, 1, 200, 2, 8, 50, 100, 200, 400, 800, 1600, 3200, 20, 2000, 2, 16, 4294967246, deadband, interval,
   250000, 150000, 5, 25, 250]

theorem witness_WriteSettings :
    Serving (asked 9 (settingsFields 20 1 6) (inState .tracking)) 9 (asks 9 (settingsFields 20 1 6))
        (bodyOf (settingsFields 20 1 6))
      ∧ (bodyOf (settingsFields 20 1 6)).length = 108 ∧ word (bodyOf (settingsFields 20 1 6)) 0 = 1
      ∧ (∀ k ∈ (sectionSettingsOf (bodyOf (settingsFields 20 1 6))).checks, k.2 = true)
      ∧ sectionSettingsOf (bodyOf (settingsFields 10 4 6)) = SectionSettings.default
      ∧ (∀ k ∈ (sectionSettingsOf (bodyOf (settingsFields 20 1 7))).checks, k.2 = true)
      ∧ Serving (asked 11 [1, 60, 100, 4, 2000, 5000] up) 11 (asks 11 [1, 60, 100, 4, 2000, 5000])
        (bodyOf [1, 60, 100, 4, 2000, 5000])
      ∧ (∀ k ∈ (coilSettingsOf (bodyOf [1, 60, 100, 4, 2000, 5000])).checks, k.2 = true)
      ∧ (coilSettingsOf (bodyOf [1, 60, 29, 4, 2000, 10001])).checks
        = [(1, true)] ++ (2, false) :: [(3, true), (4, true), (5, false)]
      ∧ (sectionSettingsOf (bodyOf (settingsFields 20 1 8))).checks.head? = some (1, false) :=
  ⟨serving_asked 9 (settingsFields 20 1 6) (inState .tracking) rfl (by decide +kernel), by decide +kernel,
    by decide +kernel, by decide +kernel, by decide +kernel, by decide +kernel,
    serving_asked 11 [1, 60, 100, 4, 2000, 5000] up rfl (by decide +kernel), by decide +kernel⟩

def globalFields : List Nat := [60, 256, 50] ++ List.replicate 22 1

theorem witness_WriteGlobal :
    Serving (asked 12 globalFields up) 12 (asks 12 globalFields) (bodyOf globalFields)
      ∧ (bodyOf globalFields).length = 100 ∧ word (bodyOf globalFields) 0 = Nominal.hz60.hertz
      ∧ word (bodyOf globalFields) 1 = 256 ∧ word (bodyOf globalFields) 2 = 50
      ∧ (∀ k < 22, word (bodyOf globalFields) (3 + k) ≤ 1) ∧ (inState .tracking).sec1.state ≠ .disabled
      ∧ word (bodyOf [55, 257, 49]) 0 ≠ 50 ∧ word (bodyOf [55, 257, 49]) 0 ≠ 60 ∧ 256 < word (bodyOf [50, 257, 49]) 1
      ∧ word (bodyOf [50, 256, 49]) 2 < 50 ∧ 1 < word (bodyOf [50, 256, 50, 1, 2]) (3 + 1) :=
  ⟨serving_asked 12 globalFields up rfl (by decide +kernel), by decide +kernel⟩

theorem witness_EnableSection :
    Serving (asked 17 [1] configured) 17 (asks 17 [1]) (bodyOf [1]) ∧ mayEnable .s1 (asked 17 [1] configured) = true
      ∧ mayEnable .s2 (asked 17 [2] configured) = false :=
  ⟨serving_asked 17 [1] configured rfl (by decide +kernel), by decide +kernel⟩

theorem witness_DisableSection :
    Serving (asked 18 [1] (inState .tracking)) 18 (asks 18 [1]) (bodyOf [1])
      ∧ (inState .tracking).sec1.state ≠ .disabled ∧ (inState .tracking).sec1.state ≠ .joined
      ∧ (joined .starting).sec2.state = .joined :=
  ⟨serving_asked 18 [1] (inState .tracking) rfl (by decide +kernel), by decide +kernel⟩

theorem witness_RestartSection :
    Serving (asked 19 [1] (inState .halted)) 19 (asks 19 [1]) (bodyOf [1]) ∧ (inState .halted).sec1.state = .halted
      ∧ (∀ c ∈ (inState .halted).drives .s1, ((inState .halted).coil c).failed = false) ∧ word (bodyOf [3]) 0 = 3 :=
  ⟨serving_asked 19 [1] (inState .halted) rfl (by decide +kernel), by decide +kernel⟩

theorem witness_FreezeUnfreezeAndRelease :
    Serving (asked 20 [2] up) 20 (asks 20 [2]) (bodyOf [2]) ∧ Serving (asked 21 [2] up) 21 (asks 21 [2]) (bodyOf [2])
      ∧ Serving (asked 22 [1] { up with coil1 := { up.coil1 with failed := true } }) 22 (asks 22 [1]) (bodyOf [1])
      ∧ word (bodyOf [2]) 0 = SecId.number .s2 ∧ Coil.failed { up.coil1 with failed := true } = true
      ∧ Coil.rests { up.coil1 with failed := true } :=
  ⟨serving_asked 20 [2] up rfl (by decide +kernel), serving_asked 21 [2] up rfl (by decide +kernel),
    serving_asked 22 [1] _ rfl (by decide +kernel), by decide +kernel, rfl, by unfold Coil.rests; decide +kernel⟩

theorem witness_ManualMove :
    Serving (asked 23 [1, 12000] (inState .disabled)) 23 (asks 23 [1, 12000]) (bodyOf [1, 12000])
      ∧ inTableRange table1 12000 = true ∧ inTableRange table1 12001 = false
      ∧ ((inState .disabled).coil .c1).state = .idle
      ∧ ((inState .disabled).coil .c1).presentAim = some 6200 ∧ (up.coil .c1).state = .unbound :=
  ⟨serving_asked 23 [1, 12000] (inState .disabled) rfl (by decide +kernel), by decide +kernel⟩

def injecting : State := (inState .tracking).modCoil .c1 fun k => { k with heldInj := .on 6 }

theorem witness_ResetPart :
    Serving (asked 24 [] injecting) 24 (asks 24 []) [] ∧ (injecting.coil .c1).heldInj ≠ .off
      ∧ (injecting.coil .c1).toggle = some false ∧ (injecting.coil .c1).arrival = some .b
      ∧ (injecting.port .b).link = .up ∧ (injecting.port .b).origin = [] ∧ ∀ c, (injecting.coil c).waiting = [] :=
  ⟨serving_asked 24 [] injecting rfl (by decide +kernel), by decide +kernel, by decide +kernel, by decide +kernel,
    by decide +kernel, by decide +kernel, fun c => by cases c <;> rfl⟩

/-- An INJECT_ON formed while coil 1's arrival port was A, waiting for a place, after a status frame on B. -/
def waitingOn : State :=
  injecting.modCoil .c1 fun k =>
    let r : DriveRecord := { kind := .injectOn 6, toggle := true }
    { k with heldInj := .sent 6, inFlight := some { record := r, sends := 0, lastSend := none }
             waiting := [{ tracked := true, record := r, route := .one .a }] }

theorem witness_ResetPart_waiting :
    let r : DriveRecord := { kind := .injectOn 6, toggle := true }
    Serving (asked 24 [] waitingOn) 24 (asks 24 []) [] ∧ (waitingOn.coil .c1).heldInj ≠ .off
      ∧ (waitingOn.coil .c1).arrival = some .b
      ∧ (waitingOn.coil .c1).inFlight = some { record := r, sends := 0, lastSend := none }
      ∧ (waitingOn.coil .c1).waiting = [{ tracked := true, record := r, route := .one .a }]
      ∧ (waitingOn.coil .c2).waiting = [] ∧ (waitingOn.port .b).link = .up ∧ (waitingOn.port .b).origin = [] :=
  ⟨serving_asked 24 [] waitingOn rfl (by decide +kernel), by decide +kernel⟩

/-- R14: the kept record goes out of the arrival port of the moment of the reset, ahead of the INJECT_OFF. -/
theorem test_reset_part_routes_waiting :
    (resetPart waitingOn).portB.origin =
        [.record .c1 false { kind := .injectOn 6, toggle := true },
         .record .c1 false { kind := .injectOff, toggle := !((waitingOn.coil .c1).toggle.getD false) }]
      ∧ (resetPart waitingOn).portA.origin = [] := by decide +kernel

theorem witness_UnknownRequest :
    Request.holdsHeader { port := .a, msg := [0, 33, 0, 7, 0, 0, 15, 1] } = false
      ∧ (asks 25 []).holdsHeader = true ∧ (asks 25 []).kind = 25 ∧ (asks 0 []).kind = 0
      ∧ Request.body { port := .a, msg := [0, 33, 0, 9, 0, 0, 15, 1] } = none
      ∧ (asks 17 []).body = some [] ∧ bodyFits 17 [] = false ∧ bodyFits 1 (bodyOf [1]) = false := by decide +kernel

def crowded : State :=
  { up with portA := { up.portA with origin := List.replicate 8 (.notice (source .linkDown (.port .b) 0)) } }

theorem witness_ResponseOffered :
    (up.port .a).originOccupancy < 8 ∧ 8 ≤ (crowded.port .a).originOccupancy ∧ (State.reset.port .a).link = .down
      ∧ reported5.portA.originOccupancy < 7 ∧ reported5.portA.link = .up ∧ reported5.portB.link = .up
      ∧ ((serveReadEvents reported5).after.map Source.kind) = some .measureLost
      ∧ (answer (asks 14 []) (serveReadEvents reported5)).portA.origin.length = 2
      ∧ (answer (asks 14 []) (serveReadEvents reported5)).portB.origin
        = [.notice (source .measureLost (.busSection .s2) 2400)] := by decide +kernel

theorem witness_ConcludeFrame :
    up.coil1.waiting = [] ∧ up.coil2.waiting = [] ∧ (up.port .a).tx = .idle ∧ (crowded.port .a).origin ≠ [] := by
  decide +kernel

theorem witness_OwnFramesAreOwn :
    (List.replicate 1504 (0 : Byte)).length ≤ 1504 ∧ (up.port .a).tx = .idle
      ∧ (((conclude crowded).port .a).tx = .origin (.notice (source .linkDown (.port .b) 0)) true) := by decide +kernel

/-- The state of the invariants' witness: section 1 TRACKING, a tick away from its next state. -/
theorem witness_StepKeepsLevels : LevelsInOrder (inState .tracking) ∧ step (inState .tracking) = .next (tick (inState .tracking)) :=
  ⟨⟨by decide, fun _ => by
    constructor
    · intro h; exact absurd rfl h
    · intro ⟨_, h⟩; exact nomatch h⟩, rfl⟩

theorem witness_StepKeepsQueues : QueuesBounded (inState .tracking) ∧ DownPortsEmpty (inState .tracking) :=
  ⟨⟨⟨by decide, by decide, by simp [inState, configured, up, State.initial, PortState.initial, State.setSlot]⟩,
    ⟨by decide, by decide, by simp [inState, configured, up, State.initial, PortState.initial, State.setSlot]⟩, by decide⟩,
   fun _ p => by cases p <;> decide⟩

theorem witness_StepKeepsRings : RingsWellFormed (inState .tracking) := by
  intro n
  cases n <;> exact ⟨by decide, by simp [inState, configured, up, State.initial, Section.initial, Ring.cleared, State.sec,
    State.setSlot], by simp [inState, configured, up, State.initial, Section.initial, Ring.cleared, State.sec, State.setSlot],
    rfl⟩

theorem witness_StepKeepsSections :
    JoinFollowsCoupler (inState .tracking) ∧ EnginesFollow (inState .tracking) ∧ SupervisorsFollow (inState .tracking) :=
  ⟨⟨by decide, by decide⟩, fun n => by cases n <;> decide, fun n => by cases n <;> decide⟩

theorem witness_StepKeepsFailedCoils : FailedCoilsRest { up with coil1 := { up.coil1 with failed := true } } := by
  intro c; cases c <;> intro _ <;> (unfold Coil.rests; decide +kernel)

theorem witness_StepKeepsSettings : SettingsLegal (inState .tracking) ∧ EstimatesInRange (inState .tracking) := by
  refine ⟨⟨fun n => by cases n <;> decide +kernel, fun c => by cases c <;> decide +kernel,
    fun c => by cases c <;> (unfold tableLegal; decide +kernel), by decide, by decide, by decide⟩, fun n e h => ?_⟩
  cases n <;> cases h

/-- The bindings of a definition. -/
def bindingsIn (d : Option SlotDef) : List Binding :=
  match d with
  | some { tag := _, mode := _, body := .sample bs } => bs
  | _ => []

theorem configured_bindings :
    (∀ i j : Fin 24, ∀ x ∈ bindingsIn (configured.slot i).defn, ∀ y ∈ bindingsIn (configured.slot j).defn,
      x.role = y.role → x.sec = y.sec → i = j)
    ∧ ∀ i : Fin 24, (bindingsIn (configured.slot i).defn).length ≤ 1 := by decide +kernel

theorem bindingsIn_sample {o : Option SlotDef} {d : SlotDef} {bs : List Binding} (h : o = some d) (h' : d.body = .sample bs) :
    bindingsIn o = bs := by
  obtain ⟨_, _, b⟩ := d
  cases h' ; rw [h, bindingsIn]

theorem witness_StepKeepsStreamTable : StreamTableLegal configured ∧ BandsHold configured := by
  refine ⟨⟨?_, fun c => by cases c <;> decide +kernel, by decide +kernel, by decide +kernel⟩, ?_⟩
  · intro i j d e bs cs k l x y hd he hb hc hx hy hr hs
    obtain ⟨hu, h1⟩ := configured_bindings
    have hi := h1 i
    have hj := h1 j
    have h := hu i j
    rw [bindingsIn_sample hd hb] at hi h
    rw [bindingsIn_sample he hc] at hj h
    obtain ⟨hk, -⟩ := List.getElem?_eq_some_iff.1 hx
    obtain ⟨hl, -⟩ := List.getElem?_eq_some_iff.1 hy
    exact ⟨h x (List.mem_of_getElem? hx) y (List.mem_of_getElem? hy) hr hs, by omega⟩
  · unfold BandsHold
    decide +kernel

end Sys2Proof.Tests
end

/-! ### Origin queues, and what an offer of a frame does to a port (R5, R6, R7, R10, R11) -/

namespace Sys2Proof.Machine

theorem enqueueByClass_nil (m : OriginMsg) : enqueueByClass [] m = [m] := rfl

theorem enqueueByClass_cons (x : OriginMsg) (q : List OriginMsg) (m : OriginMsg) :
    enqueueByClass (x :: q) m = if x.rank ≤ m.rank then x :: enqueueByClass q m else m :: x :: q := by
  by_cases h : x.rank ≤ m.rank <;> simp [enqueueByClass, h]

theorem mem_enqueueByClass {x m : OriginMsg} {q : List OriginMsg} : x ∈ enqueueByClass q m ↔ x = m ∨ x ∈ q := by
  induction q with
  | nil => simp [enqueueByClass_nil]
  | cons y q ih =>
    rw [enqueueByClass_cons]
    split
    · simp only [List.mem_cons, ih]; tauto
    · simp only [List.mem_cons]

@[simp] theorem enqueueByClass_length (q : List OriginMsg) (m : OriginMsg) :
    (enqueueByClass q m).length = q.length + 1 := by
  induction q with
  | nil => rfl
  | cons y q ih => rw [enqueueByClass_cons]; split <;> simp [ih]

theorem enqueueByClass_pairwise {q : List OriginMsg} (h : q.Pairwise fun a b => a.rank ≤ b.rank) (m : OriginMsg) :
    (enqueueByClass q m).Pairwise fun a b => a.rank ≤ b.rank := by
  induction q with
  | nil => simp [enqueueByClass_nil]
  | cons y q ih =>
    obtain ⟨hy, hq⟩ := List.pairwise_cons.1 h
    rw [enqueueByClass_cons]
    split
    · next hm =>
      refine List.pairwise_cons.2 ⟨fun z hz => ?_, ih hq⟩
      rcases mem_enqueueByClass.1 hz with rfl | hz
      exacts [hm, hy z hz]
    · next hm =>
      refine List.pairwise_cons.2 ⟨fun z hz => ?_, h⟩
      rcases List.mem_cons.1 hz with rfl | hz
      · omega
      · have := hy z hz; omega

/-- A port as the acting part keeps it: queues within their places and in class order (R5, R6), and a DOWN port idle with
empty queues (R10, R11). -/
structure PortState.Sound (x : PortState) : Prop where
  bounds : x.inBounds
  empty : x.link = .down → x.tx = .idle ∧ x.forward = [] ∧ x.origin = []

theorem link_up_of_ne_down {l : Link} (h : l ≠ .down) : l = .up := by cases l <;> simp_all

/-- What an offer does to a port: only its origin queue and its origin drops change, frames that `keep` names stay in the
queue, and a saturating count of drops is not lost. -/
structure PortState.Offers (keep : OriginMsg → Prop) (x y : PortState) : Prop where
  rest : y = { x with origin := y.origin, originDrops := y.originDrops }
  sound : x.Sound → y.Sound
  stays : ∀ m ∈ x.origin, keep m → m ∈ y.origin
  drops : ∀ k ≤ counterMax, k ≤ x.originDrops → k ≤ y.originDrops

namespace PortState

variable {x y z : PortState} {keep keep' : OriginMsg → Prop}

theorem Offers.refl (keep : OriginMsg → Prop) (x : PortState) : x.Offers keep x :=
  ⟨rfl, id, fun _ h _ => h, fun _ _ h => h⟩

theorem Offers.trans (h : x.Offers keep y) (h' : y.Offers keep z) : x.Offers keep z where
  rest := by rw [h'.rest, h.rest]
  sound := h'.sound ∘ h.sound
  stays m hm hk := h'.stays m (h.stays m hm hk) hk
  drops k hk hx := h'.drops k hk (h.drops k hk hx)

theorem Offers.mono (h : x.Offers keep y) (hk : ∀ m, keep' m → keep m) : x.Offers keep' y :=
  ⟨h.rest, h.sound, fun m hm hm' => h.stays m hm (hk m hm'), h.drops⟩

theorem Offers.link (h : x.Offers keep y) : y.link = x.link := by rw [h.rest]
theorem Offers.forward (h : x.Offers keep y) : y.forward = x.forward := by rw [h.rest]
theorem Offers.tx (h : x.Offers keep y) : y.tx = x.tx := by rw [h.rest]
theorem Offers.latch (h : x.Offers keep y) : y.latch = x.latch := by rw [h.rest]
theorem Offers.framesIn (h : x.Offers keep y) : y.framesIn = x.framesIn := by rw [h.rest]
theorem Offers.framesInError (h : x.Offers keep y) : y.framesInError = x.framesInError := by rw [h.rest]
theorem Offers.framesOut (h : x.Offers keep y) : y.framesOut = x.framesOut := by rw [h.rest]
theorem Offers.forwardDrops (h : x.Offers keep y) : y.forwardDrops = x.forwardDrops := by rw [h.rest]
theorem Offers.unmatched (h : x.Offers keep y) : y.unmatched = x.unmatched := by rw [h.rest]

theorem Offers.forwardOccupancy (h : x.Offers keep y) : y.forwardOccupancy = x.forwardOccupancy := by
  simp only [PortState.forwardOccupancy, h.forward, h.tx]

/-- A port whose queue alone changes, within its places and its order, is as sound as before. -/
theorem Sound.withOrigin (h : x.Sound) {q : List OriginMsg} {n : Nat} (hl : q.length ≤ x.origin.length ∨
    x.link ≠ .down ∧ q.length = x.origin.length + 1 ∧ x.originOccupancy < Config.originPlaces)
    (hq : q.Pairwise fun a b => a.rank ≤ b.rank) : ({ x with origin := q, originDrops := n } : PortState).Sound := by
  obtain ⟨⟨hf, ho, -⟩, he⟩ := h
  refine ⟨⟨hf, ?_, hq⟩, fun hd => ?_⟩
  · simp only [PortState.originOccupancy] at ho hl ⊢; omega
  · obtain ⟨ht, hw, hn⟩ := he hd
    refine ⟨ht, hw, ?_⟩
    rcases hl with hl | ⟨hu, -⟩
    · exact List.length_eq_zero_iff.1 (by simpa [hn] using hl)
    · exact absurd hd hu

theorem satInc_keeps {k n : Nat} (hk : k ≤ counterMax) (h : k ≤ n) : k ≤ satInc n := by
  simp only [satInc, satAdd]; omega

theorem offers_dropOrigin (keep : OriginMsg → Prop) (x : PortState) : x.Offers keep x.dropOrigin where
  rest := rfl
  sound h := h.withOrigin (.inl le_rfl) h.bounds.2.2
  stays _ hm _ := hm
  drops _ := satInc_keeps

/-- A frame enters a queue that has a place for it (R6). -/
theorem offers_enqueue (keep : OriginMsg → Prop) (hl : x.link ≠ .down) (ho : x.originOccupancy < Config.originPlaces)
    (m : OriginMsg) : x.Offers keep { x with origin := enqueueByClass x.origin m } where
  rest := rfl
  sound h := h.withOrigin (.inr ⟨hl, enqueueByClass_length _ _, ho⟩) (enqueueByClass_pairwise h.bounds.2.2 m)
  stays _ hm _ := mem_enqueueByClass.2 (.inr hm)
  drops _ _ h := h

theorem isTracked_rank {c : CoilId} {m : OriginMsg} (h : m.isTracked c = true) (t : Bool) (r : DriveRecord) :
    m.rank = (OriginMsg.record c t r).rank := by
  cases m with
  | record d u r' =>
    obtain ⟨-, hd⟩ : u = true ∧ d = c := by simpa [OriginMsg.isTracked] using h
    subst hd; cases d <;> rfl
  | response r => cases h
  | notice e => cases h

/-- A record that a port admits enters it: only tracked records of its coil may leave the queue (R7). -/
theorem offers_enterRecord {c : CoilId} {t : Bool} (h : x.admits c t = true) (r : DriveRecord) :
    x.Offers (fun m => m.isTracked c = false) (x.enterRecord c t r) := by
  unfold enterRecord
  dsimp only
  split
  · exact offers_dropOrigin _ x
  · next hl =>
    split
    · refine ⟨rfl, fun hx => ?_, fun m hm hk => ?_, fun _ _ h => h⟩
      · refine hx.withOrigin (.inl (by simp)) (List.pairwise_map.2 (hx.bounds.2.2.imp fun {a b} hab => ?_))
        have rank (m : OriginMsg) : (if m.isTracked c = true then OriginMsg.record c t r else m).rank = m.rank := by
          split
          · next hm => exact (isTracked_rank hm t r).symm
          · rfl
        simpa only [rank] using hab
      · exact List.mem_map.2 ⟨m, hm, by simp [hk]⟩
    · next ht =>
      have ho : x.originOccupancy < Config.originPlaces := by
        simp only [admits, ht, Bool.or_false, Bool.or_eq_true, beq_iff_eq, hl, false_or, decide_eq_true_eq] at h
        exact h
      exact offers_enqueue _ hl ho _

/-- A record that enters an UP port stands in its queue (R7). -/
theorem mem_enterRecord {c : CoilId} {t : Bool} {r : DriveRecord} (h : x.link ≠ .down) :
    .record c t r ∈ (x.enterRecord c t r).origin := by
  unfold enterRecord
  dsimp only
  rw [if_neg h]
  split
  · next ha =>
    obtain ⟨m, hm, hc⟩ := List.any_eq_true.1 (Bool.and_eq_true_iff.1 ha).2
    exact List.mem_map.2 ⟨m, hm, by simp [hc]⟩
  · exact mem_enqueueByClass.2 (.inl rfl)

theorem enterRecord_down {c : CoilId} {t : Bool} {r : DriveRecord} (h : x.link = .down) :
    x.enterRecord c t r = x.dropOrigin := by
  simp [enterRecord, h]

/-- What the arbiter of an idle transmitter at an UP link takes (R9). -/
theorem arbitrate_origin {m : OriginMsg} {q : List OriginMsg} (ht : x.tx = .idle) (hl : x.link = .up)
    (ho : x.origin = m :: q) : x.arbitrate = { x with tx := .origin m true, origin := q } := by
  simp [PortState.arbitrate, ht, hl, ho]

theorem arbitrate_forward {f : Frame} {q : List Frame} (ht : x.tx = .idle) (hl : x.link = .up) (ho : x.origin = [])
    (hf : x.forward = f :: q) : x.arbitrate = { x with tx := .forward f true, forward := q } := by
  simp [PortState.arbitrate, ht, hl, ho, hf]

theorem arbitrate_empty (ho : x.origin = []) (hf : x.forward = []) : x.arbitrate = x := by
  unfold PortState.arbitrate
  split <;> simp [ho, hf]

theorem arbitrate_still (h : x.tx ≠ .idle ∨ x.link = .down) : x.arbitrate = x := by
  unfold PortState.arbitrate
  split
  · next ht hu => simp [ht, hu] at h
  · rfl

/-- The arbiter of R9 takes the first origin frame, or the head of the forward queue, or nothing. -/
theorem arbitrate_cases (x : PortState) :
    (∃ m q, x.tx = .idle ∧ x.link = .up ∧ x.origin = m :: q ∧ x.arbitrate = { x with tx := .origin m true, origin := q })
    ∨ (∃ f q, x.tx = .idle ∧ x.link = .up ∧ x.forward = f :: q
        ∧ x.arbitrate = { x with tx := .forward f true, forward := q })
    ∨ x.arbitrate = x := by
  by_cases h : x.tx ≠ .idle ∨ x.link = .down
  · exact .inr (.inr (arbitrate_still h))
  obtain ⟨ht, hl⟩ : x.tx = .idle ∧ x.link = .up := by
    obtain ⟨h1, h2⟩ := not_or.1 h
    exact ⟨not_not.1 h1, link_up_of_ne_down h2⟩
  rcases ho : x.origin with _ | ⟨m, q⟩
  · rcases hf : x.forward with _ | ⟨f, q⟩
    · exact .inr (.inr (arbitrate_empty ho hf))
    · exact .inr (.inl ⟨f, q, ht, hl, rfl, ho ▸ arbitrate_forward ht hl ho hf⟩)
  · exact .inl ⟨m, q, ht, hl, rfl, arbitrate_origin ht hl ho⟩

theorem Sound.arbitrate (h : x.Sound) : x.arbitrate.Sound := by
  obtain ⟨hf, ho, hq⟩ := h.bounds
  rcases arbitrate_cases x with ⟨m, q, ht, hl, hm, e⟩ | ⟨f, q, ht, hl, hw, e⟩ | e
  · rw [e]
    refine ⟨⟨?_, ?_, ?_⟩, fun hd => absurd (hl.symm.trans hd) (by simp)⟩
    · simpa [PortState.forwardOccupancy, ht] using hf
    · simpa [PortState.originOccupancy, ht, hm] using ho
    · exact (List.pairwise_cons.1 (hm ▸ hq)).2
  · rw [e]
    refine ⟨⟨?_, ?_, hq⟩, fun hd => absurd (hl.symm.trans hd) (by simp)⟩
    · simpa [PortState.forwardOccupancy, ht, hw] using hf
    · simpa [PortState.originOccupancy, ht] using ho
  · rwa [e]

theorem Sound.dropForward (h : x.Sound) : x.dropForward.Sound := ⟨h.bounds, h.empty⟩

theorem Sound.pushForward (h : x.Sound) (hl : x.link ≠ .down) (ho : x.forwardOccupancy < Config.forwardPlaces) (f : Frame) :
    ({ x with forward := x.forward ++ [f] } : PortState).Sound := by
  refine ⟨⟨?_, h.bounds.2⟩, fun hd => absurd hd hl⟩
  simp only [PortState.forwardOccupancy, List.length_append, List.length_singleton] at ho ⊢
  omega

/-- What RESET_HELD, a completed transmission and a lost link leave of a port. -/
theorem complete_eq (h : x.tx ≠ .idle) : x.complete = { x with tx := .idle, framesOut := satInc x.framesOut } := by
  unfold complete
  split <;> first | contradiction | rfl

theorem Sound.complete (h : x.Sound) : x.complete.Sound := by
  by_cases ht : x.tx = .idle
  · simpa [PortState.complete, ht] using h
  · obtain ⟨hf, ho, hq⟩ := h.bounds
    rw [complete_eq ht]
    refine ⟨⟨?_, ?_, hq⟩, fun hd => absurd (h.empty hd).1 ht⟩
    · simp only [PortState.forwardOccupancy] at hf ⊢; omega
    · simp only [PortState.originOccupancy] at ho ⊢; omega

theorem sound_lose (x : PortState) : x.lose.Sound :=
  ⟨⟨by simp [lose, PortState.forwardOccupancy], by simp [lose, PortState.originOccupancy], .nil⟩, fun _ => ⟨rfl, rfl, rfl⟩⟩

theorem sound_initial (l : Link) : (PortState.initial l).Sound :=
  ⟨⟨by simp [PortState.initial, PortState.forwardOccupancy], by simp [PortState.initial, PortState.originOccupancy], .nil⟩,
    fun _ => ⟨rfl, rfl, rfl⟩⟩

theorem inBounds_hold (h : x.inBounds) : x.hold.inBounds := by
  obtain ⟨-, ho, hq⟩ := h
  refine ⟨by simp [hold, PortState.forwardOccupancy], ?_, hq⟩
  simp only [hold, PortState.originOccupancy] at ho ⊢; omega

end PortState

end Sys2Proof.Machine

/-! ### What the drive link's operations do to the ports and to both coils (R7, R107 to R115) -/

namespace Sys2Proof.Machine

variable {c d : CoilId} {s t u : State}

theorem Coil.agrees.refl (k : Coil) : k.agrees k := ⟨rfl, rfl, rfl, rfl, rfl, rfl⟩

theorem Coil.agrees.trans {k l m : Coil} (h : k.agrees l) (h' : l.agrees m) : k.agrees m := by
  obtain ⟨h1, h2, h3, h4, h5, h6⟩ := h
  obtain ⟨g1, g2, g3, g4, g5, g6⟩ := h'
  exact ⟨g1.trans h1, g2.trans h2, g3.trans h3, g4.trans h4, g5.trans h5, g6.trans h6⟩

/-- An operation on coil `c` of the drive link: beyond the ports and this coil's context nothing changes, the context keeps
what R7 leaves alone, and the ports are offered frames, none but tracked records of this coil being replaced. -/
structure CoilActs (c : CoilId) (s t : State) : Prop where
  frame : DriveFrame s t
  own : (s.coil c).agrees (t.coil c)
  others : ∀ d, d ≠ c → t.coil d = s.coil d
  ports : ∀ p, (s.port p).Offers (fun m => m.isTracked c = false) (t.port p)

theorem CoilActs.refl (c : CoilId) (s : State) : CoilActs c s s :=
  ⟨.refl s, .refl _, fun _ _ => rfl, fun _ => .refl _ _⟩

theorem CoilActs.trans (h : CoilActs c s t) (h' : CoilActs c t u) : CoilActs c s u where
  frame := h.frame.trans h'.frame
  own := h.own.trans h'.own
  others d hd := (h'.others d hd).trans (h.others d hd)
  ports p := (h.ports p).trans (h'.ports p)

theorem CoilActs.modCoil (s : State) {f : Coil → Coil}
    (h : ∀ k : Coil, k.agrees (f k) := by exact fun _ => ⟨rfl, rfl, rfl, rfl, rfl, rfl⟩) : CoilActs c s (s.modCoil c f) where
  frame := .modCoil s c f
  own := by rw [State.coil_modCoil]; exact h _
  others d hd := State.coil_modCoil_other s c d f hd
  ports p := by rw [State.port_modCoil]; exact .refl _ _

/-- A change of one port, as a fact about every port. -/
theorem port_modPort_cases {P : PortState → PortState → Prop} (hr : ∀ x, P x x) {p : Port} {f : PortState → PortState}
    (h : P (s.port p) (f (s.port p))) (q : Port) : P (s.port q) ((s.modPort p f).port q) := by
  by_cases hq : q = p
  · subst hq; rwa [State.port_modPort]
  · rw [State.port_modPort_other s p q f hq]; exact hr _

theorem CoilActs.modPort {p : Port} {f : PortState → PortState}
    (h : (s.port p).Offers (fun m => m.isTracked c = false) (f (s.port p))) : CoilActs c s (s.modPort p f) where
  frame := .modPort s p f
  own := by rw [State.coil_modPort]; exact .refl _
  others d _ := State.coil_modPort s p f d
  ports := port_modPort_cases (P := PortState.Offers _) (.refl _) h

/-- Several coils' operations in a row: only tracked records may be replaced in the queues. -/
structure DriveActs (s t : State) : Prop where
  frame : DriveFrame s t
  coils : ∀ c, (s.coil c).agrees (t.coil c)
  ports : ∀ p, (s.port p).Offers (fun m => ∀ c, m.isTracked c = false) (t.port p)

theorem CoilActs.toDrive (h : CoilActs c s t) : DriveActs s t where
  frame := h.frame
  coils d := by
    by_cases hd : d = c
    · exact hd ▸ h.own
    · rw [h.others d hd]; exact .refl _
  ports p := (h.ports p).mono fun _ hm => hm c

theorem DriveActs.refl (s : State) : DriveActs s s := (CoilActs.refl .c1 s).toDrive

theorem DriveActs.trans (h : DriveActs s t) (h' : DriveActs t u) : DriveActs s u where
  frame := h.frame.trans h'.frame
  coils c := (h.coils c).trans (h'.coils c)
  ports p := (h.ports p).trans (h'.ports p)

theorem DriveActs.foldl {α : Type} {f : State → α → State} (h : ∀ s x, DriveActs s (f s x)) (xs : List α) (s : State) :
    DriveActs s (xs.foldl f s) := by
  induction xs generalizing s with
  | nil => exact .refl s
  | cons x xs ih => exact (h s x).trans (ih _)

/-! ### Records enter or wait (R7, R8, R11) -/

theorem sendMade_agrees (k : Coil) (now : Time) : k.agrees (k.sendMade now) := by
  unfold Coil.sendMade
  split <;> exact ⟨rfl, rfl, rfl, rfl, rfl, rfl⟩

/-- What a record leaves of each port of its route; the ports of a route differ, so each takes the record once. -/
theorem port_enterRecord (c : CoilId) (w : Waiting) (s : State) (p : Port) :
    (enterRecord c w s).port p =
      if p ∈ w.route.ports then (s.port p).enterRecord c w.tracked w.record else s.port p := by
  have h : (enterRecord c w s).port p =
      (w.route.ports.foldl (fun s p => s.modPort p fun x => x.enterRecord c w.tracked w.record) s).port p := by
    unfold enterRecord
    dsimp only
    split
    · rw [State.port_modCoil]
    · rfl
  rw [h]
  rcases hr : w.route with q | _ <;> cases p
  · cases q <;> rfl
  · cases q <;> rfl
  · rfl
  · rfl

/-- A record that enters leaves its coil as it is, but for the send that a tracked one makes (R114). -/
theorem coil_enterRecord (c : CoilId) (w : Waiting) (s : State) :
    (enterRecord c w s).coil c = if w.tracked then (s.coil c).sendMade s.ms else s.coil c := by
  have hm : (w.route.ports.foldl (fun s p => s.modPort p fun x => x.enterRecord c w.tracked w.record) s).coil c = s.coil c
      ∧ (w.route.ports.foldl (fun s p => s.modPort p fun x => x.enterRecord c w.tracked w.record) s).ms = s.ms := by
    rcases w.route with q | _ <;> simp [Route.ports]
  unfold enterRecord
  dsimp only
  split
  · rw [State.coil_modCoil, hm.1, hm.2]
  · exact hm.1

theorem enterRecord_acts {w : Waiting} (h : s.admits c w = true) : CoilActs c s (enterRecord c w s) where
  frame := enterRecord_frame c w s
  own := by
    rw [coil_enterRecord]
    split
    · exact sendMade_agrees _ _
    · exact .refl _
  others d hd := by
    unfold enterRecord
    dsimp only
    rcases w.route with q | _ <;> split <;> simp [Route.ports, hd]
  ports p := by
    rw [port_enterRecord]
    split
    · next hp => exact PortState.offers_enterRecord (List.all_eq_true.1 h p hp) _
    · exact .refl _ _

theorem waitRecord_acts (c : CoilId) (w : Waiting) (put : Waiting → List Waiting) (s : State) :
    CoilActs c s (waitRecord c w put s) := by
  unfold waitRecord
  split
  · exact (CoilActs.modPort (PortState.offers_dropOrigin _ _)).trans (.modCoil _)
  · exact .modCoil _

theorem offerRecord_acts (c : CoilId) (b : Bool) (r : DriveRecord) (s : State) : CoilActs c s (offerRecord c b r s) := by
  unfold offerRecord
  dsimp only
  split
  · next h => exact enterRecord_acts (Bool.and_eq_true_iff.1 h).2
  · exact waitRecord_acts _ _ _ _

theorem formTracked_acts (c : CoilId) (k : RecordKind) (s : State) : CoilActs c s (formTracked c k s) := by
  unfold formTracked
  split
  · exact .refl c s
  · exact (CoilActs.modCoil _).trans (offerRecord_acts _ _ _ _)

theorem formUntracked_acts (c : CoilId) (k : RecordKind) (s : State) : CoilActs c s (formUntracked c k s) := by
  unfold formUntracked
  split
  · exact (offerRecord_acts _ _ _ _).trans (offerRecord_acts _ _ _ _)
  · exact (CoilActs.modCoil _).trans (offerRecord_acts _ _ _ _)

/-! ### Pending work and requests (R111 to R113) -/

theorem takeMove_acts (c : CoilId) (s : State) : CoilActs c s (takeMove c s) := by
  unfold takeMove
  dsimp only
  split
  · exact .refl c s
  · split
    · split
      · exact (CoilActs.modCoil _).trans (formTracked_acts _ _ _)
      · exact .modCoil _
    · exact .refl c s

theorem takePending_acts (c : CoilId) (s : State) : CoilActs c s (takePending c s) := by
  unfold takePending
  dsimp only
  split
  · split
    · exact (CoilActs.modCoil _).trans (formTracked_acts _ _ _)
    · split
      · exact (CoilActs.modCoil _).trans (formTracked_acts _ _ _)
      · split
        · exact (CoilActs.modCoil _).trans (formTracked_acts _ _ _)
        · exact (CoilActs.modCoil _).trans (takeMove_acts _ _)
      · exact takeMove_acts _ _
  · exact .refl c s

theorem requestMove_acts (c : CoilId) (p : Nat) (o : MoveOrigin) (s : State) : CoilActs c s (requestMove c p o s) := by
  unfold requestMove
  split
  · exact (CoilActs.modCoil _).trans (takePending_acts _ _)
  · exact .refl c s

theorem clearTarget_acts (c : CoilId) (s : State) : CoilActs c s (clearTarget c s) :=
  .modCoil _

theorem requestStop_acts (c : CoilId) (s : State) : CoilActs c s (requestStop c s) := by
  unfold requestStop
  split
  · exact (CoilActs.modCoil _).trans (takePending_acts _ _)
  · exact .refl c s

theorem requestInjection_acts (c : CoilId) (q : InjReq) (s : State) : CoilActs c s (requestInjection c q s) := by
  unfold requestInjection
  split
  · exact (CoilActs.modCoil _).trans (takePending_acts _ _)
  · exact .refl c s

theorem clearTargets_acts (cs : List CoilId) (s : State) : DriveActs s (clearTargets cs s) :=
  DriveActs.foldl (fun s c => (clearTarget_acts c s).toDrive) cs s

theorem requestStops_acts (cs : List CoilId) (s : State) : DriveActs s (requestStops cs s) :=
  DriveActs.foldl (fun s c => by split; exacts [(requestStop_acts c s).toDrive, .refl s]) cs s

theorem requestInjector_acts (n : SecId) (q : InjReq) (s : State) : DriveActs s (requestInjector n q s) := by
  unfold requestInjector
  split
  · exact (requestInjection_acts _ _ _).toDrive
  · exact .refl s

theorem handOn_acts (c : CoilId) (w : Bool) (p : Option Nat) (s : State) : DriveActs s (handOn c w p s) := by
  unfold handOn
  split
  · exact (requestMove_acts _ _ _ _).toDrive
  · exact .refl s

theorem sendSafe_acts (c : CoilId) (s : State) : CoilActs c s (sendSafe c s) := by
  have form (b : Prop) [Decidable b] (k : RecordKind) (s : State) : CoilActs c s (if b then formUntracked c k s else s) := by
    split
    · exact formUntracked_acts _ _ _
    · exact .refl c s
  exact (form ((s.coil c).move.isSome = true) .stop s).trans (form _ .injectOff _)

/-! ### Withdrawal, and the end of a step (R7, R9, R115, R123) -/

theorem withdraw_acts (c : CoilId) (s : State) : CoilActs c s (withdraw c s) := by
  unfold withdraw
  split
  · exact .refl c s
  · refine (CoilActs.modCoil _ fun k => ?_).trans (takePending_acts _ _)
    dsimp only
    split <;> exact ⟨rfl, rfl, rfl, rfl, rfl, rfl⟩

theorem admits_modCoil (w : Waiting) (f : Coil → Coil) : (s.modCoil d f).admits c w = s.admits c w := by
  simp [State.admits]

theorem admitWaiting_acts (h : admitWaiting c s = some t) : CoilActs c s t := by
  unfold admitWaiting at h
  split at h
  · cases h
  · split at h
    · next w rest _ ha =>
      split at h
      · cases h; exact withdraw_acts c s
      · cases h
        exact (CoilActs.modCoil s).trans
          (enterRecord_acts ((admits_modCoil w _).trans ha))
    · split at h
      · cases h; exact waitRecord_acts _ _ _ _
      · cases h

/-- An invariant of every admission holds after all of them. -/
theorem admitAll_induct {P : State → Prop} (h : ∀ c s t, P s → admitWaiting c s = some t → P t) (n : Nat) {s : State}
    (hs : P s) : P (admitAll n s) := by
  induction n generalizing s with
  | zero => exact hs
  | succ n ih =>
    unfold admitAll
    split
    · next h1 => exact ih (h _ _ _ hs h1)
    · split
      · next h2 => exact ih (h _ _ _ hs h2)
      · exact hs

theorem admitRecords_acts (s : State) : DriveActs s (admitRecords s) :=
  admitAll_induct (P := DriveActs s) (fun _ _ _ h ha => h.trans (admitWaiting_acts ha).toDrive) _ (.refl s)

theorem superviseSilence_acts (c : CoilId) (s : State) : CoilActs c s (superviseSilence c s) := by
  unfold superviseSilence
  split
  · exact .modCoil _
  · exact .modCoil _
  · exact .refl c s

/-- The part of a step's end before the arbiters choose. -/
def settled (s : State) : State := superviseSilence .c2 (superviseSilence .c1 (admitRecords s))

theorem settled_acts (s : State) : DriveActs s (settled s) :=
  ((admitRecords_acts s).trans (superviseSilence_acts .c1 _).toDrive).trans (superviseSilence_acts .c2 _).toDrive

theorem conclude_eq (s : State) : conclude s = arbitrate (settled s) := rfl

theorem port_conclude (s : State) (p : Port) : (conclude s).port p = ((settled s).port p).arbitrate := by
  cases p <;> rfl

theorem coil_conclude (s : State) (c : CoilId) : (conclude s).coil c = (settled s).coil c := by
  cases c <;> rfl

end Sys2Proof.Machine

/-! ### What an event, a notice and a response do to the ports (R7, R11, R161 to R166) -/

namespace Sys2Proof.Machine

variable {s t u : State}

/-- An event or an offer of a notice or response: beyond ports and event unit nothing changes, and no frame leaves a queue. -/
structure EventActs (s t : State) : Prop where
  frame : LinkFrame s t
  ports : ∀ p, (s.port p).Offers (fun _ => True) (t.port p)

theorem EventActs.refl (s : State) : EventActs s s := ⟨.refl s, fun _ => .refl _ _⟩

theorem EventActs.trans (h : EventActs s t) (h' : EventActs t u) : EventActs s u :=
  ⟨h.frame.trans h'.frame, fun p => (h.ports p).trans (h'.ports p)⟩

theorem EventActs.modPort {p : Port} {f : PortState → PortState}
    (h : (s.port p).Offers (fun _ => True) (f (s.port p))) : EventActs s (s.modPort p f) :=
  ⟨.modPort s p f, port_modPort_cases (P := PortState.Offers _) (.refl _) h⟩

theorem port_fileEvent (e : Source) (s : State) (p : Port) : (fileEvent e s).port p = s.port p := by cases p <;> rfl

theorem fileEvent_acts (e : Source) (s : State) : EventActs s (fileEvent e s) :=
  ⟨rfl, fun p => port_fileEvent e s p ▸ .refl _ _⟩

theorem offerNotice_acts (e : Source) (p : Port) (s : State) : EventActs s (offerNotice e p s) := by
  unfold offerNotice
  split
  · exact .modPort (PortState.offers_dropOrigin _ _)
  · next hl =>
    split
    · next ho => exact .modPort (PortState.offers_enqueue _ hl ho _)
    · exact (EventActs.modPort (PortState.offers_dropOrigin _ _)).trans (fileEvent_acts _ _)

theorem raise_acts (k : EventKind) (o : Obj) (s : State) : EventActs s (raise k o s) := by
  unfold raise
  dsimp only
  split
  · exact ((fileEvent_acts _ s).trans (offerNotice_acts _ .a _)).trans (offerNotice_acts _ .b _)
  · exact fileEvent_acts _ s

theorem offerResponse_acts (r : Response) (p : Port) (s : State) : EventActs s (offerResponse r p s) := by
  unfold offerResponse
  split
  · exact .modPort (PortState.offers_dropOrigin _ _)
  · next hl =>
    split
    · next ho => exact .modPort (PortState.offers_enqueue _ hl ho _)
    · exact (EventActs.modPort (PortState.offers_dropOrigin _ _)).trans (raise_acts _ _ _)

/-! ### The queues of the acting part stay sound: sections, coils and coupler -/

/-- The ports of the acting part are sound, and the request queue holds at most its places (R5, R6, R10, R11, R171). -/
structure State.Sound (s : State) : Prop where
  ports : ∀ p, (s.port p).Sound
  requests : s.requests.length ≤ Config.requestPlaces

theorem State.Sound.of_same (h : s.Sound) (ha : t.portA = s.portA) (hb : t.portB = s.portB)
    (hr : t.requests = s.requests) : t.Sound where
  ports p := by
    cases p
    · rw [State.port_a, ha]; exact h.ports .a
    · rw [State.port_b, hb]; exact h.ports .b
  requests := hr ▸ h.requests

theorem State.Sound.withCoupler (h : s.Sound) (x : Coupler) : State.Sound { s with coupler := x } := h.of_same rfl rfl rfl

theorem State.Sound.withRet2 (h : s.Sound) (x : ReturnState) : State.Sound { s with ret2 := x } := h.of_same rfl rfl rfl

theorem State.Sound.withSecs (h : s.Sound) (x y : Section) : State.Sound { s with sec1 := x, sec2 := y } :=
  h.of_same rfl rfl rfl

theorem State.Sound.drive (h : s.Sound) (ha : DriveActs s t) : t.Sound where
  ports p := (ha.ports p).sound (h.ports p)
  requests := by rw [ha.frame]; exact h.requests

theorem State.Sound.coil {c : CoilId} (h : s.Sound) (ha : CoilActs c s t) : t.Sound := h.drive ha.toDrive

theorem State.Sound.event (h : s.Sound) (ha : EventActs s t) : t.Sound where
  ports p := (ha.ports p).sound (h.ports p)
  requests := by rw [ha.frame]; exact h.requests

theorem State.Sound.modPort {p : Port} {f : PortState → PortState} (h : s.Sound) (hf : (f (s.port p)).Sound) :
    (s.modPort p f).Sound where
  ports := fun q => by
    by_cases hq : q = p
    · subst hq; rwa [State.port_modPort]
    · rw [State.port_modPort_other s p q f hq]; exact h.ports q
  requests := by rw [State.modPort_requests]; exact h.requests

theorem State.Sound.modSec (h : s.Sound) (n : SecId) (f : Section → Section) : (s.modSec n f).Sound :=
  h.of_same (by simp) (by simp) (by simp)

theorem State.Sound.modCoil (h : s.Sound) (c : CoilId) (f : Coil → Coil) : (s.modCoil c f).Sound :=
  h.of_same (by simp) (by simp) (by simp)

theorem State.Sound.modSlot (h : s.Sound) (i : Fin 24) (f : Slot → Slot) : (s.modSlot i f).Sound := h.of_same rfl rfl rfl

theorem State.Sound.raise (h : s.Sound) (k : EventKind) (o : Obj) : (raise k o s).Sound := h.event (raise_acts k o s)

theorem State.Sound.ite {b : Prop} [Decidable b] (h : s.Sound) (h' : t.Sound) : (if b then s else t).Sound := by
  split
  exacts [h, h']

theorem setSectionState_sound (h : s.Sound) (n : SecId) (x : SecState) : (setSectionState n x s).Sound :=
  (h.modSec n _).of_same rfl rfl rfl

theorem enterStarting_sound (h : s.Sound) (n : SecId) : (enterStarting n s).Sound :=
  ((setSectionState_sound h n .starting).modSec n _).drive (requestInjector_acts _ _ _)

theorem stopAndSilence_acts (n : SecId) (s : State) : DriveActs s (stopAndSilence n s) :=
  ((clearTargets_acts _ s).trans (requestStops_acts _ _)).trans (requestInjector_acts _ _ _)

theorem enterFault_sound (h : s.Sound) (n : SecId) : (enterFault n s).Sound :=
  ((setSectionState_sound (h.modSec n _) n .fault).modSec n _).drive (stopAndSilence_acts _ _)

theorem enterHalted_sound (h : s.Sound) (n : SecId) (cause : HaltCause) : (enterHalted n cause s).Sound := by
  have h' := ((setSectionState_sound (h.modSec n fun x => { x with engine := x.engine.turnOff .state }) n .halted).modSec n
    fun x => { x with lastHalt := some cause }).drive (stopAndSilence_acts n _)
  exact .ite (h'.raise _ _) h'

theorem recordJoinedHalt_sound (h : s.Sound) (cause : HaltCause) : (recordJoinedHalt cause s).Sound := h.of_same rfl rfl rfl

theorem haltSection_sound (h : s.Sound) (n : SecId) (cause : HaltCause) : (haltSection n cause s).Sound := by
  unfold haltSection
  split
  case h_8 => exact recordJoinedHalt_sound h cause
  case h_6 | h_7 => exact h
  all_goals exact enterHalted_sound h n cause

theorem disableSection_sound (h : s.Sound) (n : SecId) : (disableSection n s).Sound := by
  have off (cs : List CoilId) := ((setSectionState_sound (h.modSec n fun x => { x with engine := x.engine.turnOff .state })
    n .disabled).drive (clearTargets_acts cs _)).drive (requestInjector_acts n .off _)
  unfold disableSection
  split
  case h_1 => exact h
  case h_2 => exact h.of_same rfl rfl rfl
  all_goals exact .ite ((off _).raise _ _) (off _)

theorem untrack_rank (c : CoilId) (m : OriginMsg) : (untrack c m).rank = m.rank := by
  cases m with
  | record d t r => cases d <;> rfl
  | response r => rfl
  | notice e => rfl

theorem PortState.Sound.untrack {x : PortState} (h : x.Sound) (c : CoilId) :
    ({ x with origin := x.origin.map (untrack c) } : PortState).Sound :=
  h.withOrigin (.inl (by simp)) (List.pairwise_map.2 (by simpa only [untrack_rank] using h.bounds.2.2))

theorem untrackQueues_sound (h : s.Sound) (c : CoilId) : (untrackQueues c s).Sound where
  ports p := by
    cases p
    · exact (h.ports .a).untrack c
    · exact (h.ports .b).untrack c
  requests := h.requests

theorem failCoil_sound (h : s.Sound) (c : CoilId) (k : EventKind) : (failCoil c k s).Sound := by
  have h' (n : SecId) (cause : HaltCause) := haltSection_sound ((untrackQueues_sound ((h.raise k (.coil c)).coil
    (sendSafe_acts c _)) c).modCoil c Coil.enterFailed) n cause
  exact .ite (recordJoinedHalt_sound (h' _ _) _) (h' _ _)

theorem faultConfirmed_sound (h : s.Sound) (m : SecId) : (faultConfirmed m s).Sound := by
  unfold faultConfirmed
  dsimp only
  split
  all_goals first | exact enterFault_sound h _ | exact h

theorem enterRecovery_sound (h : s.Sound) (n : SecId) : (enterRecovery n s).Sound := by
  have h' := (setSectionState_sound h n .recovery).modSec n fun x => { x with sup := { x.sup with holdOff := some 0 } }
  exact .ite (enterStarting_sound h' n) h'

theorem faultCleared_sound (h : s.Sound) (m : SecId) : (faultCleared m s).Sound := by
  unfold faultCleared
  exact .ite (enterRecovery_sound h _) h

theorem injectionConfirmed_sound (h : s.Sound) (n : SecId) : (injectionConfirmed n s).Sound :=
  .ite ((setSectionState_sound h n .measuring).modSec n _) h

theorem firstEstimate_sound (h : s.Sound) (n : SecId) : (firstEstimate n s).Sound :=
  .ite (setSectionState_sound h n .tracking) h

theorem setInhibit_sound (h : s.Sound) (n : SecId) (x : Inhibit) : (setInhibit n x s).Sound :=
  .ite ((h.modSec n _).drive (clearTargets_acts _ _)) (h.modSec n _)

theorem clearIf_sound {b : Bool} (h : s.Sound) (cs : List CoilId) : (if b then clearTargets cs s else s).Sound :=
  .ite (h.drive (clearTargets_acts cs s)) h

theorem becomeUnsure_sound (h : s.Sound) : (becomeUnsure s).Sound :=
  clearIf_sound (clearIf_sound ((((h.withSecs _ _).raise _ _).modSec _ _).modSec _ _) _) _

theorem setUnsure_sound (h : s.Sound) (x : Unsure) : (setUnsure x s).Sound :=
  .ite (becomeUnsure_sound (h.withCoupler _)) (.ite ((h.withCoupler _).withSecs _ _) (h.withCoupler _))

theorem reportAvailability_sound (h : s.Sound) (a : Bool) : (reportAvailability a s).Sound :=
  setUnsure_sound (h.withCoupler _) _

theorem couplerChangeSec1_sound (h : s.Sound) (cs : List CoilId) : (couplerChangeSec1 cs s).Sound := by
  have reset : (resetEstimate .s1 (discardWindow .s1 .coupler s)).Sound := (h.modSec _ _).modSec _ _
  exact .ite ((setSectionState_sound reset .s1 .measuring).drive (clearTargets_acts _ _)) reset

theorem joinSection2_sound (h : s.Sound) : (joinSection2 s).Sound := by
  have joined : (setHoldOff .s2 none (setSectionState .s2 .joined (turnEngineOff .s2 .coupler
      { s with ret2 := returnFor s.sec2.state }))).Sound :=
    State.Sound.modSec (setSectionState_sound ((h.withRet2 _).modSec _ _) _ _) _ _
  unfold joinSection2
  exact ((State.Sound.ite joined (joined.coil (clearTarget_acts .c2 _))).coil (requestInjection_acts .c2 .off _)).modSec _ _

theorem setHeld_sound (h : s.Sound) (x : Held) : (setHeld x s).Sound := h.withCoupler _

theorem tellEngines_sound (h : s.Sound) : (tellEngines s).Sound := h.withSecs _ _

theorem couplerCloses_sound (h : s.Sound) : (couplerCloses s).Sound := by
  have closed := couplerChangeSec1_sound (joinSection2_sound (setHeld_sound (h.raise .couplerChange (.busSection .s1))
    .closed)) [.c1]
  exact tellEngines_sound (.ite (closed.raise _ _) (.ite (enterFault_sound closed _) closed))

theorem leaveJoined_sound (h : s.Sound) : (leaveJoined s).Sound := by
  unfold leaveJoined
  refine State.Sound.withRet2 ?_ _
  split
  · exact .ite (setSectionState_sound h _ _) (enterStarting_sound h _)
  · exact setSectionState_sound h _ _
  · exact setSectionState_sound h _ _

theorem couplerOpens_sound (h : s.Sound) : (couplerOpens s).Sound := by
  have changed := couplerChangeSec1_sound (h.raise .couplerChange (.busSection .s1)) [.c1, .c2]
  exact tellEngines_sound (leaveJoined_sound (setHeld_sound (.ite (enterRecovery_sound changed .s1) changed) _))

theorem couplerValue_sound (h : s.Sound) (v : CouplerValue) : (couplerValue v s).Sound := by
  unfold couplerValue
  refine setUnsure_sound ?_ _
  split
  · exact couplerCloses_sound (h.withCoupler _)
  · exact couplerOpens_sound (h.withCoupler _)
  · exact h.withCoupler _

end Sys2Proof.Machine

/-! ### The queues of the acting part stay sound: estimates, supervision, status records, streams and receptions -/

namespace Sys2Proof.Machine

variable {s t u : State}

theorem takeDecision_sound (h : s.Sound) (n : SecId) (g : Trigger) (e : Int) : (takeDecision n g e s).Sound := by
  refine .ite (h.modSec n _) (State.Sound.drive (State.Sound.drive (.ite ?_ ?_) (handOn_acts _ _ _ _))
    (handOn_acts _ _ _ _))
  · exact (h.modSec n _).raise _ _
  · exact h.modSec n _

theorem targetTakes_sound (h : s.Sound) (n : SecId) (k : UpdateKind) (e : Int) : (targetTakes n k e s).Sound := by
  unfold targetTakes
  cases k
  case first | step => exact takeDecision_sound (h.modSec n _) _ _ _
  case filtered => exact .ite (takeDecision_sound (h.modSec n _) _ _ _) (h.modSec n _)

theorem rejectWindow_sound (h : s.Sound) (n : SecId) (w : Window) (f : Phasors) (why : RejectReason) :
    (rejectWindow n w f why s).Sound := by
  have rejected := (((h.modSec n fun x => { x with
    estimate := { x.estimate with run := min (x.estimate.run + 1) 255, reason := some why } }).raise .windowRejected
      (.busSection n)).modSec n fun x => { x with engine := x.engine.reject (w.completed f (.rejected why)) })
  exact .ite (haltSection_sound (rejected.raise _ _) _ _) rejected

theorem acceptWindow_sound (h : s.Sound) (n : SecId) (w : Window) (f : Phasors) (x : Int) : (acceptWindow n w f x s).Sound := by
  have accepted := h.modSec n fun z => { z with
    estimate := z.estimate.accept (s.sec n).settings s.ms (reY f) x }
  have told := (State.Sound.ite (b := updateKind (s.sec n).settings (s.sec n).estimate.e x = .step)
    (accepted.raise .stepDetected (.busSection n)) accepted).modSec n fun z =>
      { z with engine := z.engine.accept (s.sec n).settings (updateKind (s.sec n).settings (s.sec n).estimate.e x)
                (w.completed f .accepted) }
  exact targetTakes_sound (.ite (firstEstimate_sound told n) told) _ _ _

theorem estimateWindow_sound (h : s.Sound) (n : SecId) (w : Window) (f : Phasors) : (estimateWindow n w f s).Sound := by
  unfold estimateWindow
  dsimp only
  split
  · exact rejectWindow_sound (h.modSec n _) _ _ _ _
  · exact .ite (acceptWindow_sound ((h.modSec n _).modSec n _) _ _ _ _)
      (rejectWindow_sound ((h.modSec n _).modSec n _) _ _ _ _)

theorem completeWindow_sound (h : s.Sound) (n : SecId) (w : Window) : (completeWindow n w s).Sound := by
  unfold completeWindow
  dsimp only
  split
  · exact rejectWindow_sound (h.modSec n _) _ _ _ _
  · exact estimateWindow_sound (h.modSec n _) _ _ _

theorem engineTakes_sound (h : s.Sound) (n : SecId) (p : Pair) : (engineTakes n p s).Sound := by
  unfold engineTakes
  dsimp only
  split
  · exact h
  · exact .ite (h.modSec n _) (.ite (.ite (h.modSec n _) (h.modSec n _)) h)
  · exact .ite (completeWindow_sound h _ _) (h.modSec n _)

theorem discardWindow_sound (h : s.Sound) (n : SecId) (cause : DiscardCause) : (discardWindow n cause s).Sound := h.modSec n _

theorem confirmFault_sound (h : s.Sound) (n : SecId) (c : Capture) : (confirmFault n c s).Sound :=
  faultConfirmed_sound ((h.modSec n _).raise _ _) n

theorem judgeWatch_sound (h : s.Sound) (n : SecId) (m : Nat) (q : Int) : (judgeWatch n m q s).Sound :=
  .ite (.ite (confirmFault_sound h _ _) (h.modSec n _)) (h.modSec n _)

theorem clearFault_sound (h : s.Sound) (n : SecId) : (clearFault n s).Sound :=
  faultCleared_sound ((h.modSec n _).raise _ _) n

theorem judgeStanding_sound (h : s.Sound) (n : SecId) (q : Int) : (judgeStanding n q s).Sound := by
  unfold judgeStanding
  exact .ite (.ite (clearFault_sound (h.modSec n _) n) (h.modSec n _)) (h.modSec n _)

theorem closeCycle_sound (h : s.Sound) (n : SecId) (a : CycleAcc) : (closeCycle n a s).Sound := by
  refine .ite (h.modSec n _) ?_
  split
  · exact judgeWatch_sound (h.modSec n _) _ _ _
  · exact judgeStanding_sound (h.modSec n _) _ _
  · exact h.modSec n _

theorem supervisorTakes_sound (h : s.Sound) (n : SecId) (p : Pair) : (supervisorTakes n p s).Sound :=
  .ite h (.ite (closeCycle_sound h _ _) (h.modSec n _))

theorem handOver_sound (h : s.Sound) (n : SecId) (d : Delivery) : (handOver n d s).Sound := by
  unfold handOver
  split
  · exact supervisorTakes_sound (engineTakes_sound h _ _) _ _
  · exact State.Sound.modSec (s := engineTakesGap n s) (discardWindow_sound h n .gap) n _

theorem deliver_sound (h : s.Sound) (n : SecId) (ds : List Delivery) : (deliver n ds s).Sound := by
  induction ds generalizing s with
  | nil => exact h
  | cons d ds ih => exact .ite (handOver_sound h _ _) (ih (handOver_sound h _ _))

/-! Status records -/

theorem engineSeesStatus_sound (h : s.Sound) (n : SecId) (c : CoilId) (r : StatusRecord) : (engineSeesStatus n c r s).Sound := by
  unfold engineSeesStatus
  split
  · exact h
  · exact .ite (h.modSec n _) (.ite (h.modSec n _) h)

theorem clearMove_sound (h : s.Sound) (c : CoilId) : (clearMove c s).Sound := h.modCoil c _

theorem moveEndCounts_sound (h : s.Sound) (c : CoilId) : (moveEndCounts c s).Sound := h.modSec _ _

theorem moveStopped_sound (h : s.Sound) (c : CoilId) : (moveStopped c s).Sound :=
  discardWindow_sound (moveEndCounts_sound (clearMove_sound h c) c) _ .motion

theorem moveDone_sound (h : s.Sound) (c : CoilId) : (moveDone c s).Sound :=
  moveEndCounts_sound ((clearMove_sound h c).raise _ _) c

theorem acceptKind_sound (h : s.Sound) (c : CoilId) (k : RecordKind) : (acceptKind c k s).Sound := by
  unfold acceptKind
  split
  case h_2 => exact .ite (moveStopped_sound h c) h
  all_goals exact h.modCoil c _

theorem testAcceptance_sound (h : s.Sound) (c : CoilId) (e : Bool) : (testAcceptance c e s).Sound := by
  unfold testAcceptance
  split
  · exact h
  · exact .ite (acceptKind_sound (h.modCoil c _) _ _) h

theorem testFailure_sound (h : s.Sound) (c : CoilId) (r : StatusRecord) : (testFailure c r s).Sound := by
  refine .ite (failCoil_sound h _ _) ?_
  split
  · exact .ite (failCoil_sound h _ _) h
  · exact h

theorem testArrival_sound (h : s.Sound) (c : CoilId) (r : StatusRecord) : (testArrival c r s).Sound := by
  unfold testArrival
  split
  · exact h
  · exact .ite (moveDone_sound (h.modCoil c _) c) (h.modCoil c _)

theorem testConfirmed_sound (h : s.Sound) (c : CoilId) (r : StatusRecord) : (testConfirmed c r s).Sound := by
  unfold testConfirmed
  split
  · exact .ite (injectionConfirmed_sound (h.modCoil c _) _) h
  · exact h

theorem injectionLost_sound (h : s.Sound) (n : SecId) : (injectionLost n s).Sound :=
  .ite (enterStarting_sound ((h.raise _ _).drive (clearTargets_acts _ _)) n) h

theorem testLost_sound (h : s.Sound) (c : CoilId) (r : StatusRecord) : (testLost c r s).Sound := by
  unfold testLost
  split
  · exact .ite h (injectionLost_sound (h.modCoil c _) _)
  · exact h
  · exact h

theorem finishStatus_sound (h : s.Sound) (c : CoilId) (r : StatusRecord) : (finishStatus c r s).Sound :=
  .ite h ((testLost_sound (testConfirmed_sound (testArrival_sound h c r) c r) c r).coil (takePending_acts c _))

theorem treatStatus_sound (h : s.Sound) (c : CoilId) (r : StatusRecord) : (treatStatus c r s).Sound :=
  .ite (h.modCoil c _) (finishStatus_sound (testFailure_sound (testAcceptance_sound
    (engineSeesStatus_sound (engineSeesStatus_sound (h.modCoil c _) _ _ _) _ _ _) _ _) _ _) _ _)

/-! Expiries -/

theorem acceptanceExpires_sound (h : s.Sound) (c : CoilId) : (acceptanceExpires c s).Sound := by
  unfold acceptanceExpires
  split
  · exact .ite (failCoil_sound h _ _) (.ite ((h.modCoil c _).coil (offerRecord_acts _ _ _ _)) (h.coil (withdraw_acts c s)))
  · exact h

theorem staleExpires_sound (h : s.Sound) : (staleExpires s).Sound := .ite (setUnsure_sound (h.withCoupler _) _) h

theorem State.Sound.withEvents (h : s.Sound) (x : EventUnit) : State.Sound { s with events := x } := h.of_same rfl rfl rfl

theorem alarmReasserts_sound (h : s.Sound) : (alarmReasserts s).Sound := by
  unfold alarmReasserts
  split
  exacts [h.withEvents _, h, h]

theorem holdOffRunsOut_sound (h : s.Sound) (n : SecId) : (holdOffRunsOut n s).Sound :=
  .ite (enterStarting_sound (h.modSec n _) n) h

/-! Streams -/

theorem voltageLost_sound (h : s.Sound) (n : SecId) : (voltageLost n s).Sound :=
  .ite h (haltSection_sound (h.raise _ _) _ _)

theorem slotStateChanged_sound (h : s.Sound) (i : Fin 24) (b : SlotBody) (was now : SlotState) :
    (slotStateChanged i b was now s).Sound := by
  have lost {s : State} (h : s.Sound) (v : Bool) (n : SecId) : (if v then voltageLost n s else s).Sound :=
    .ite (voltageLost_sound h n) h
  have told := lost (lost (h.raise .streamState (.slot i)) (was == .warning && now == .passive && b.voltageFor .s1) .s1)
    (was == .warning && now == .passive && b.voltageFor .s2) .s2
  refine .ite h ?_
  cases b
  case state => exact .ite told (reportAvailability_sound told _)
  all_goals exact told

theorem ringTakes_sound (h : s.Sound) (n : SecId) (x : ValueRecord) : (ringTakes n x s).Sound := by
  have filed := h.modSec n fun y => { y with ring := ((s.sec n).ring.file s.nominal.modulus x).ring }
  unfold ringTakes
  refine deliver_sound ?_ _ _
  split
  · exact filed
  · exact .ite (filed.modSlot _ _) filed
  · exact .ite (filed.modSlot _ _) filed

theorem distributeBinding_sound (h : s.Sound) (i : Fin 24) (m : List Byte) (b : Binding) :
    (distributeBinding i m b s).Sound :=
  .ite (ringTakes_sound (.ite h (h.modSlot i _)) _ _) (ringTakes_sound h _ _)

theorem distribute_sound (h : s.Sound) (i : Fin 24) (b : SlotBody) (p : Port) (m : List Byte) :
    (distribute i b p m s).Sound := by
  unfold distribute
  split
  · next bs =>
    induction bs generalizing s with
    | nil => exact h
    | cons x xs ih => exact ih (distributeBinding_sound h i m x)
  · split
    · exact couplerValue_sound h _
    · exact h
  · exact treatStatus_sound h _ _

theorem slotTakes_sound (h : s.Sound) (i : Fin 24) (b : SlotBody) (p : Port) (m : List Byte) : (slotTakes i b p m s).Sound := by
  have judged (x : Slot) (was now : SlotState) := slotStateChanged_sound (h.modSlot i fun _ => x) i b was now
  exact .ite (distribute_sound (judged _ _ _) _ _ _ _) (judged _ _ _)

theorem State.Sound.count {p : Port} {f : PortState → PortState} (h : s.Sound)
    (hf : ∀ x, (f x).link = x.link ∧ (f x).tx = x.tx ∧ (f x).forward = x.forward ∧ (f x).origin = x.origin
      := by exact fun _ => ⟨rfl, rfl, rfl, rfl⟩) : (s.modPort p f).Sound := by
  refine h.modPort ?_
  obtain ⟨hl, ht, hw, ho⟩ := hf (s.port p)
  obtain ⟨hb, he⟩ := h.ports p
  refine ⟨?_, by rwa [hl, ht, hw, ho]⟩
  simpa only [PortState.inBounds, PortState.forwardOccupancy, PortState.originOccupancy, ht, hw, ho] using hb

theorem offerToMatcher_sound (h : s.Sound) (k : FrameClass) (p : Port) (m : List Byte) : (offerToMatcher k p m s).Sound := by
  refine .ite h.count ?_
  split
  · exact h.count
  · split
    · exact slotTakes_sound h _ _ _ _
    · exact h

/-! Receptions and links -/

theorem relay_sound (h : s.Sound) (p : Port) (f : Frame) : (relay p f s).Sound := by
  unfold relay
  dsimp only
  split
  · exact h.count
  · next hl =>
    split
    · next ho => exact h.modPort ((h.ports _).pushForward hl ho f)
    · exact State.Sound.raise h.count _ _

theorem enqueueRequest_sound (h : s.Sound) (p : Port) (m : List Byte) : (enqueueRequest p m s).Sound := by
  unfold enqueueRequest
  split
  · next hr =>
    refine ⟨fun q => ?_, by simpa using hr⟩
    cases q
    · exact h.ports .a
    · exact h.ports .b
  · exact h.of_same rfl rfl rfl

theorem handleGood_sound (h : s.Sound) (p : Port) (f : Frame) : (handleGood p f s).Sound := by
  have relayed := relay_sound h p f
  unfold handleGood
  dsimp only
  split
  case h_1 | h_2 => exact relayed
  case h_3 => exact relayed.count
  case h_7 => exact .ite (enqueueRequest_sound h _ _) relayed
  all_goals exact offerToMatcher_sound relayed _ _ _

theorem receive_sound (h : s.Sound) (p : Port) (f : Frame) (lost : Bool) : (receive p f lost s).Sound :=
  .ite (State.Sound.count h.count) (handleGood_sound h.count p f)

theorem loseLink_sound (h : s.Sound) (p : Port) : (loseLink p s).Sound :=
  .ite ((h.modPort (PortState.sound_lose _)).raise _ _) h

theorem conclude_sound (h : s.Sound) : (conclude s).Sound where
  ports p := by rw [port_conclude]; exact ((h.drive (settled_acts s)).ports p).arbitrate
  requests := by rw [conclude_frame s]; exact h.requests

end Sys2Proof.Machine

/-! ### The queues of the acting part stay sound: requests and RESET_PART -/

namespace Sys2Proof.Machine

variable {s t u : State}

theorem State.Sound.withRequests (h : s.Sound) {q : List Request} (hq : q.length ≤ Config.requestPlaces) :
    State.Sound { s with requests := q } where
  ports p := by
    cases p
    · exact h.ports .a
    · exact h.ports .b
  requests := hq

theorem answer_sound {x : Served} (h : x.state.Sound) (r : Request) : (answer r x).Sound := by
  have offered := h.event (offerResponse_acts (x.reply.response r) r.port x.state)
  have drop {s : State} (h : s.Sound) : State.Sound { s with requests := s.requests.drop 1 } :=
    h.withRequests (by have := h.requests; rw [List.length_drop]; omega)
  unfold answer
  cases x.after with
  | none => exact drop offered
  | some e => exact drop ((offered.event (offerNotice_acts e .a _)).event (offerNotice_acts e .b _))

theorem serve_sound {f : List Byte → State → Served} (hf : ∀ b s, s.Sound → (f b s).state.Sound) (h : s.Sound) (k : Nat) :
    (serve k f s).Sound := by
  unfold serve
  split
  · exact h
  · refine .ite ?_ h
    split
    · exact answer_sound h _
    · exact answer_sound (hf _ s h) _

theorem done_sound (h : s.Sound) : (done s).state.Sound := h

theorem serveUnknown_sound (h : s.Sound) : (serveUnknown s).Sound := by
  unfold serveUnknown
  split
  · exact h
  · exact .ite (answer_sound (x := unchanged s _) h _) h

/-! Streams and settings -/

theorem rewriteCoupler_sound (h : s.Sound) (was now : Bool) : (rewriteCoupler was now s).Sound := by
  unfold rewriteCoupler
  cases was <;> cases now
  · exact h
  · exact setUnsure_sound (h.withCoupler _) _
  · exact setUnsure_sound (h.withCoupler _) _
  · exact reportAvailability_sound h _

theorem writeSlot_sound (h : s.Sound) (i : Fin 24) (d : Option SlotDef) : (writeSlot i d s).Sound := by
  have written := h.modSlot i fun _ => Slot.fresh d
  exact rewriteCoupler_sound (State.Sound.modCoil (State.Sound.modCoil
    (.ite written (written.raise _ _)) _ _) _ _) _ _

theorem enableSlot_sound (h : s.Sound) (i : Fin 24) : (enableSlot i s).Sound := by
  have enabled := h.modSlot i fun x => { x with errors := 0, state := .active, last := none }
  have told : (if (s.slot i).state = .active then _ else raise .streamState (.slot i) _).Sound :=
    .ite enabled (enabled.raise _ _)
  exact .ite (reportAvailability_sound told _) told

theorem resetEstimate_sound (h : s.Sound) (n : SecId) : (resetEstimate n s).Sound := h.modSec n _

theorem writeNominal_sound (h : s.Sound) (f : Nominal) : (writeNominal f s).Sound := by
  have base : State.Sound { s with nominal := f, slots := s.slots.map Slot.forgetCount } := h.of_same rfl rfl rfl
  exact resetEstimate_sound (State.Sound.modSec (resetEstimate_sound (base.modSec .s1 _) .s1) .s2 _) .s2

theorem serveWriteSlot_sound (b : List Byte) (h : s.Sound) : (serveWriteSlot b s).state.Sound := by
  unfold serveWriteSlot
  split
  · exact h
  · split
    · exact h
    · split
      · exact h
      · split
        · exact h
        · exact writeSlot_sound h _ _

theorem serveWriteMasks_sound (b : List Byte) (h : s.Sound) : (serveWriteMasks b s).state.Sound := by
  unfold serveWriteMasks
  split
  · exact h
  · split
    · exact h
    · exact h.of_same rfl rfl rfl

theorem serveEnableSlot_sound (i : Fin 24) (h : s.Sound) : (serveEnableSlot i s).state.Sound := by
  unfold serveEnableSlot
  split
  · exact enableSlot_sound h i
  · exact h

theorem serveWriteCoilTable_sound (b : List Byte) (h : s.Sound) : (serveWriteCoilTable b s).state.Sound := by
  unfold serveWriteCoilTable
  split
  · exact h
  · split
    · exact h
    · split
      · exact h
      · dsimp only
        split
        · exact h
        · split
          · exact done_sound (h.modCoil _ _)
          · exact h

theorem serveWriteSectionSettings_sound (b : List Byte) (h : s.Sound) : (serveWriteSectionSettings b s).state.Sound := by
  unfold serveWriteSectionSettings
  split
  · exact h
  · split
    · exact h
    · dsimp only
      split
      · exact h
      · split
        · exact done_sound (h.modSec _ _)
        · exact h

theorem serveWriteCoilSettings_sound (b : List Byte) (h : s.Sound) : (serveWriteCoilSettings b s).state.Sound := by
  unfold serveWriteCoilSettings
  split
  · exact h
  · split
    · exact h
    · dsimp only
      split
      · exact h
      · split
        · exact done_sound (h.modCoil _ _)
        · exact h

theorem writeLive_sound (h : s.Sound) (g : Globals) : (writeLive g s).Sound := h.of_same rfl rfl rfl

theorem State.Sound.withTimeout (h : s.Sound) (n : Nat) : State.Sound { s with couplerTimeout := n } := h.of_same rfl rfl rfl

theorem serveWriteGlobal_sound (b : List Byte) (h : s.Sound) : (serveWriteGlobal b s).state.Sound := by
  unfold serveWriteGlobal
  split
  · exact h
  · split
    · exact h
    · dsimp only
      split
      · exact done_sound (writeLive_sound ((writeNominal_sound h _).withTimeout _) _)
      · split
        · exact done_sound (writeLive_sound h _)
        · exact h

theorem serveReadEvents_sound (h : s.Sound) : (serveReadEvents s).state.Sound := h.withEvents _

theorem serveReadCounters_sound (b : List Byte) (h : s.Sound) : (serveReadCounters b s).state.Sound := by
  unfold serveReadCounters
  split
  · exact h
  · split
    · split
      · exact h.modSlot _ _
      · exact h
    · split
      · exact h.count
      · exact h
    · exact h

/-! Commands on sections and coils -/

theorem serveEnableSection_sound (n : SecId) (h : s.Sound) : (serveEnableSection n s).state.Sound := by
  unfold serveEnableSection
  split
  · exact enterStarting_sound h n
  · exact h

theorem serveRestartSection_sound (n : SecId) (h : s.Sound) : (serveRestartSection n s).state.Sound := by
  unfold serveRestartSection
  split
  · exact enterStarting_sound h n
  · exact h

theorem serveReleaseCoil_sound (c : CoilId) (h : s.Sound) : (serveReleaseCoil c s).state.Sound := by
  unfold serveReleaseCoil
  split
  · exact h.modCoil c _
  · exact h

theorem manualMove_sound (h : s.Sound) (c : CoilId) (p : Nat) : (manualMove c p s).Sound :=
  .ite h (h.coil (requestMove_acts _ _ _ _))

theorem serveManualMove_sound (b : List Byte) (h : s.Sound) : (serveManualMove b s).state.Sound := by
  unfold serveManualMove
  split
  · exact h
  · split
    · exact h
    · split
      · exact h
      · split
        · exact manualMove_sound h _ _
        · exact h

/-! RESET_PART -/

theorem keepOrigin_rank {k1 k2 : Coil} {m m' : OriginMsg} (h : keepOrigin k1 k2 m = some m') : m'.rank = m.rank := by
  obtain ⟨c, t, r⟩ | r | e := m
  · cases t
    · cases h
    · unfold keepOrigin at h
      dsimp only at h
      obtain ⟨-, ⟨⟩⟩ := Option.ite_none_right_eq_some.1 h
      cases c <;> rfl
  · cases h
  · cases h

theorem PortState.Sound.resetPart {x : PortState} (h : x.Sound) (k1 k2 : Coil) : (x.resetPart k1 k2).Sound := by
  obtain ⟨⟨-, ho, hq⟩, he⟩ := h
  have hl : (x.origin.filterMap (keepOrigin k1 k2)).length ≤ x.origin.length := List.length_filterMap_le _ _
  refine ⟨⟨?_, ?_, ?_⟩, fun hd => ?_⟩
  · cases ht : x.tx <;> simp [PortState.resetPart, PortState.initial, PortState.forwardOccupancy, Tx.released, ht]
  · simp only [PortState.originOccupancy] at ho
    cases ht : x.tx <;> simp only [PortState.resetPart, PortState.originOccupancy, Tx.released, ht] <;> omega
  · refine List.pairwise_filterMap.2 (hq.imp fun {a b} hab a' ha b' hb => ?_)
    rw [keepOrigin_rank ha, keepOrigin_rank hb]
    exact hab
  · obtain ⟨ht, -, hn⟩ := he hd
    exact ⟨by simp [PortState.resetPart, Tx.released, ht], rfl, by simp [PortState.resetPart, hn]⟩

theorem sendResetOff_acts (c : CoilId) (b : Bool) (s : State) : CoilActs c s (sendResetOff c b s) := by
  unfold sendResetOff
  split
  · exact formUntracked_acts _ _ _
  · exact .refl c s

/-- Every block with its RESET_PART values, before any INJECT_OFF is formed (R178 step 1). -/
def resetBlocks (s : State) : State :=
  let h : Inhibit := { frozen := false, unsure := s.coupler.configured }
  { s with
    ms := 0
    portA := s.portA.resetPart s.coil1 s.coil2, portB := s.portB.resetPart s.coil1 s.coil2
    slots := s.slots.map Slot.resetPart
    sec1 := Section.initial s.sec1.settings h, sec2 := Section.initial s.sec2.settings h, ret2 := .disabled
    coil1 := s.coil1.resetPart, coil2 := s.coil2.resetPart
    coupler := s.coupler.resetPart
    events := EventUnit.initial s.events.enables
    requests := s.requests.take 1, requestDrops := 0 }

/-- RESET_PART with its INJECT_OFF records formed and admitted (R178 step 2). -/
def resetOffered (s : State) : State :=
  admitRecords (sendResetOff .c2 s.coil2.resetSends (sendResetOff .c1 s.coil1.resetSends (resetBlocks s)))

theorem resetPart_eq (s : State) :
    resetPart s = ((((resetOffered s).modPort .a fun x => { x with originDrops := 0 }).modPort .b fun x =>
      { x with originDrops := 0 }).modCoil .c1 fun k => { k with arrival := none }).modCoil .c2 fun k =>
      { k with arrival := none } := rfl

theorem resetOffered_acts (s : State) : DriveActs (resetBlocks s) (resetOffered s) :=
  ((sendResetOff_acts .c1 _ _).toDrive.trans (sendResetOff_acts .c2 _ _).toDrive).trans (admitRecords_acts _)

theorem resetBlocks_sound (h : s.Sound) : (resetBlocks s).Sound where
  ports p := by
    cases p
    · exact (h.ports .a).resetPart _ _
    · exact (h.ports .b).resetPart _ _
  requests := by
    have := h.requests
    simp only [resetBlocks, List.length_take]
    omega

theorem resetPart_sound (h : s.Sound) : (resetPart s).Sound := by
  rw [resetPart_eq]
  exact State.Sound.modCoil (State.Sound.modCoil (State.Sound.count (State.Sound.count
    ((resetBlocks_sound h).drive (resetOffered_acts s)))) _ _) _ _

/-! Every request -/

theorem noFields_sound {f : State → Served} (hf : ∀ s, s.Sound → (f s).state.Sound) (b : List Byte) (h : s.Sound) :
    (noFields f b s).state.Sound := by
  unfold noFields
  split
  exacts [hf s h, h]

theorem withSection_sound {f : SecId → State → Served} (hf : ∀ n s, s.Sound → (f n s).state.Sound) (b : List Byte)
    (h : s.Sound) : (withSection f b s).state.Sound := by
  unfold withSection
  split
  · split
    exacts [hf _ s h, h]
  · exact h

theorem withCoil_sound {f : CoilId → State → Served} (hf : ∀ n s, s.Sound → (f n s).state.Sound) (b : List Byte)
    (h : s.Sound) : (withCoil f b s).state.Sound := by
  unfold withCoil
  split
  · split
    exacts [hf _ s h, h]
  · exact h

theorem withSlot_sound {f : Fin 24 → State → Served} (hf : ∀ n s, s.Sound → (f n s).state.Sound) (b : List Byte)
    (h : s.Sound) : (withSlot f b s).state.Sound := by
  unfold withSlot
  split
  · split
    exacts [hf _ s h, h]
  · exact h

/-- What the responder makes of the state for a request of any kind (11.3). -/
theorem served_sound (k : Nat) (b : List Byte) (s : State) (h : s.Sound) : (served k b s).state.Sound := by
  unfold served
  split
  case h_1 => exact noFields_sound (fun _ h => h) b h
  case h_2 => exact withSlot_sound (fun _ _ h => h) b h
  case h_3 => exact serveWriteSlot_sound b h
  case h_4 => exact serveWriteMasks_sound b h
  case h_5 => exact withSlot_sound (fun i _ h => serveEnableSlot_sound i h) b h
  case h_6 => exact withCoil_sound (fun _ _ h => h) b h
  case h_7 => exact serveWriteCoilTable_sound b h
  case h_8 => exact withSection_sound (fun _ _ h => h) b h
  case h_9 => exact serveWriteSectionSettings_sound b h
  case h_10 => exact withCoil_sound (fun _ _ h => h) b h
  case h_11 => exact serveWriteCoilSettings_sound b h
  case h_12 => exact serveWriteGlobal_sound b h
  case h_13 => exact noFields_sound (fun _ h => h.withSecs _ _) b h
  case h_14 => exact noFields_sound (fun _ h => serveReadEvents_sound h) b h
  case h_15 => exact noFields_sound (fun _ h => h.withEvents _) b h
  case h_16 => exact serveReadCounters_sound b h
  case h_17 => exact withSection_sound (fun n _ h => serveEnableSection_sound n h) b h
  case h_18 => exact withSection_sound (fun n _ h => disableSection_sound h n) b h
  case h_19 => exact withSection_sound (fun n _ h => serveRestartSection_sound n h) b h
  case h_20 | h_21 => exact withSection_sound (fun n _ h => setInhibit_sound h n _) b h
  case h_22 => exact withCoil_sound (fun c _ h => serveReleaseCoil_sound c h) b h
  case h_23 => exact serveManualMove_sound b h
  case h_24 => exact noFields_sound (fun _ h => resetPart_sound h) b h
  case h_25 => exact h

/-! ### Every command keeps the queues -/

/-- What O54 asks of a state: bounded queues, and DOWN ports empty while the part acts. -/
def QueuesGood (s : State) : Prop := QueuesBounded s ∧ DownPortsEmpty s

theorem State.Sound.good (h : s.Sound) : QueuesGood s :=
  ⟨⟨(h.ports .a).bounds, (h.ports .b).bounds, h.requests⟩, fun _ p => (h.ports p).empty⟩

theorem QueuesGood.sound (h : QueuesGood s) (hl : s.live = true) : s.Sound where
  ports p := ⟨by cases p; exacts [h.1.1, h.1.2.1], h.2 hl p⟩
  requests := h.1.2.2

/-- Of a part out of action only the bounds are asked. -/
theorem QueuesGood.of_still (hl : s.live = false) (ha : s.portA.inBounds) (hb : s.portB.inBounds)
    (hr : s.requests.length ≤ Config.requestPlaces) : QueuesGood s :=
  ⟨⟨ha, hb, hr⟩, fun h => absurd (hl.symm.trans h) Bool.false_ne_true⟩

theorem sound_initial (straps : BitVec 4) (la lb : Link) : (State.initial straps la lb).Sound where
  ports p := by cases p <;> exact PortState.sound_initial _
  requests := Nat.zero_le _

/-- What a command answers keeps the queues. -/
def AnswersGood (o : Host.Outcome State Fault Refusal) : Prop := ∀ t, o = .next t → QueuesGood t

theorem answersGood_next (h : QueuesGood t) : AnswersGood (.next t) := by
  rintro _ ⟨⟩
  exact h

theorem answersGood_act {f : State → State} (h : QueuesGood s) (hf : s.Sound → (f s).Sound) : AnswersGood (.next (act f s)) := by
  refine answersGood_next ?_
  cases hl : s.live
  · rwa [act_still hl]
  · rw [act_live hl]
    exact (conclude_sound (hf (h.sound hl))).good

theorem answersGood_served (h : QueuesGood s) (k : Nat) : AnswersGood (.next (act (serve k (served k)) s)) :=
  answersGood_act h fun hs => serve_sound (served_sound k) hs k

/-- A link report to a part out of action changes the link state alone. -/
theorem queuesGood_linkReport (h : QueuesGood s) (hl : s.live = false) (p : Port) (l : Link) :
    QueuesGood (s.modPort p fun x => { x with link := l }) := by
  obtain ⟨⟨ha, hb, hr⟩, -⟩ := h
  refine .of_still (by simpa [State.live] using hl) ?_ ?_ (by simpa using hr) <;> cases p
  exacts [ha, ha, hb, hb]

theorem linkLoss_good (h : QueuesGood s) (p : Port) : AnswersGood (exec (.linkLoss p) s) := by
  show AnswersGood (.next (if s.live then _ else _))
  split
  · exact answersGood_act h fun hs => loseLink_sound hs p
  · next hl => exact answersGood_next (queuesGood_linkReport h (Bool.not_eq_true _ ▸ hl) p _)

theorem linkRestoration_good (h : QueuesGood s) (p : Port) : AnswersGood (exec (.linkRestoration p) s) := by
  show AnswersGood (.next (if s.live then _ else _))
  split
  · refine answersGood_act h fun hs => hs.modPort ⟨(hs.ports p).bounds, fun hd => ?_⟩
    cases hd
  · next hl => exact answersGood_next (queuesGood_linkReport h (Bool.not_eq_true _ ▸ hl) p _)

theorem resetHeld_good (h : QueuesGood s) : AnswersGood (exec .resetHeld s) := by
  show AnswersGood (.next (if s.supplyOk then _ else _))
  split
  · obtain ⟨⟨ha, hb, hr⟩, -⟩ := h
    exact answersGood_next (.of_still (by simp [State.live]) (PortState.inBounds_hold ha) (PortState.inBounds_hold hb) hr)
  · exact answersGood_next h

theorem resetRelease_good (h : QueuesGood s) (straps : BitVec 4) (la lb : Link) :
    AnswersGood (exec (.resetRelease straps la lb) s) := by
  show AnswersGood (.next (if s.supplyOk && s.held then _ else _))
  split
  · exact answersGood_next ((sound_initial straps la lb).of_same rfl rfl rfl).good
  · exact answersGood_next h

theorem exec_good (i : Instr) (h : QueuesGood s) : AnswersGood (exec i s) := by
  cases i with
  | frameReceptionComplete p f lost => exact answersGood_act h fun hs => receive_sound hs p f lost
  | holdOffRunOut n => exact answersGood_act h fun hs => holdOffRunsOut_sound hs n
  | transmitComplete p => exact answersGood_act h fun hs => hs.modPort (hs.ports p).complete
  | linkLoss p => exact linkLoss_good h p
  | linkRestoration p => exact linkRestoration_good h p
  | powerOn straps la lb => exact answersGood_next ((sound_initial straps la lb).of_same rfl rfl rfl).good
  | resetHeld => exact resetHeld_good h
  | resetRelease straps la lb => exact resetRelease_good h straps la lb
  | acceptTimeoutExpiry c => exact answersGood_act h fun hs => acceptanceExpires_sound hs c
  | confirmationTimerExpiry c => exact answersGood_act h fun hs => .ite (failCoil_sound hs c _) hs
  | moveTimeLimitExpiry c => exact answersGood_act h fun hs => .ite (failCoil_sound hs c _) hs
  | silenceExpiry c => exact answersGood_act h fun hs => .ite (failCoil_sound hs c _) hs
  | staleTimerExpiry => exact answersGood_act h staleExpires_sound
  | alarmReassertion => exact answersGood_act h alarmReasserts_sound
  | readInfo => exact answersGood_served h 1
  | readSlot => exact answersGood_served h 2
  | writeSlot => exact answersGood_served h 3
  | writeMasks => exact answersGood_served h 4
  | enableSlot => exact answersGood_served h 5
  | readCoilTable => exact answersGood_served h 6
  | writeCoilTable => exact answersGood_served h 7
  | readSectionSettings => exact answersGood_served h 8
  | writeSectionSettings => exact answersGood_served h 9
  | readCoilSettings => exact answersGood_served h 10
  | writeCoilSettings => exact answersGood_served h 11
  | writeGlobal => exact answersGood_served h 12
  | readState => exact answersGood_served h 13
  | readEvents => exact answersGood_served h 14
  | readSummary => exact answersGood_served h 15
  | readCounters => exact answersGood_served h 16
  | enableSection => exact answersGood_served h 17
  | disableSection => exact answersGood_served h 18
  | restartSection => exact answersGood_served h 19
  | freeze => exact answersGood_served h 20
  | unfreeze => exact answersGood_served h 21
  | releaseCoil => exact answersGood_served h 22
  | manualMove => exact answersGood_served h 23
  | resetPart => exact answersGood_served h 24
  | unknownRequest => exact answersGood_act h serveUnknown_sound
  | supplyOutOfRange =>
    obtain ⟨⟨ha, hb, hr⟩, -⟩ := h
    exact answersGood_next (.of_still rfl ha hb hr)

/-- Settles O54: every command keeps the queues, and so does the passing of a millisecond. -/
theorem stepKeepsQueues : Obligations.StepKeepsQueues := by
  intro s t hb hd ht
  have h : QueuesGood s := ⟨hb, hd⟩
  unfold step at ht
  split at ht
  · next i rest _ => exact exec_good i (s := { s with pending := rest }) h t ht
  · split at ht
    · next i _ => exact exec_good i h t ht
    · cases ht
      unfold tick
      split
      · exact h
      · exact h

end Sys2Proof.Machine

/-! ### Power, RESET and supply; a part out of action (R14, R165, R179, R183) -/

namespace Sys2Proof.Machine

variable {s t u : State} {p : Port}

/-- Settles O5: both commands answer the initial state with the command queue kept. -/
theorem powerOnLeaves : Obligations.PowerOnLeaves := by
  intro straps la lb s
  refine ⟨{ State.initial straps la lb with pending := s.pending }, rfl, fun hs hh => ?_, rfl, rfl, rfl, rfl, rfl, rfl, rfl,
    rfl, fun p => ?_, fun i => ?_, rfl, rfl, rfl, rfl, rfl, fun n => ?_, rfl, fun c => ?_, rfl, rfl, rfl, rfl, rfl, fun k => ?_⟩
  · simp [exec, execResetRelease, hs, hh]
  · cases p <;> exact ⟨rfl, rfl, rfl, rfl, rfl, rfl, rfl, rfl, rfl, rfl⟩
  · simp [State.slot, State.initial]
  · cases n <;> exact ⟨rfl, rfl, rfl, rfl, rfl, rfl, rfl, rfl, rfl, rfl, rfl⟩
  · cases c <;> rfl
  · cases k <;> rfl

/-- Settles O6: the three commands' equations, and the pin's own condition. -/
theorem resetHeldAndSupplyLost : Obligations.ResetHeldAndSupplyLost := by
  intro s
  refine ⟨fun hs => ?_, rfl, rfl⟩
  simp [exec, execResetHeld, hs, PortState.hold]

/-- Settles O4: every command but those of power, RESET and links is guarded by `act`. -/
theorem partOutOfActionIsInert : Obligations.PartOutOfActionIsInert := by
  intro i s h
  have inert (f : State → State) : (Host.Outcome.next (act f s) : Host.Outcome State Fault Refusal) = .next s := by
    rw [act_still h]
  cases i
  case linkLoss p => simp [exec, execLinkLoss, h]
  case linkRestoration p => simp [exec, execLinkRestoration, h]
  case powerOn | resetHeld | resetRelease | supplyOutOfRange => trivial
  all_goals exact inert _

/-! ### Events in the summary (R161, R162) -/

theorem mem_addKind_of_mem {k j : EventKind} {ks : List EventKind} (h : k ∈ ks) : k ∈ addKind j ks := by
  have all : k ∈ allKinds := by cases k <;> decide
  simp [addKind, all, h]

theorem summary_fileEvent (e : Source) (s : State) : (fileEvent e s).events.summary = addKind e.kind s.events.summary :=
  EventUnit.file_summary _ _

theorem mem_summary_offerNotice {k : EventKind} (h : k ∈ s.events.summary) (e : Source) (p : Port) :
    k ∈ (offerNotice e p s).events.summary := by
  unfold offerNotice
  split
  · simpa using h
  · split
    · simpa using h
    · rw [summary_fileEvent]
      exact mem_addKind_of_mem (by simpa using h)

/-- A raised event stands in the summary (R162). -/
theorem mem_summary_raise (k : EventKind) (o : Obj) (s : State) : k ∈ (raise k o s).events.summary := by
  have filed : k ∈ (fileEvent { kind := k, obj := o, time := s.ms } s).events.summary := by
    rw [summary_fileEvent]; exact mem_addKind _ _
  unfold raise
  dsimp only
  split
  · exact mem_summary_offerNotice (mem_summary_offerNotice filed _ _) _ _
  · exact filed

/-- What an event leaves alone, in the terms of the statements. -/
theorem LinkFrame.agreeBeyondLinks (h : LinkFrame s u) :
    AgreeBeyondLinks { s with events := u.events } u ∧ u.coil1 = s.coil1 ∧ u.coil2 = s.coil2 := by
  unfold LinkFrame at h
  refine ⟨?_, by rw [h], by rw [h]⟩
  unfold AgreeBeyondLinks
  rw [h]

/-! ### Links (R10, R11) -/

theorem loseLink_up (h : (s.port p).link = .up) : loseLink p s = raise .linkDown (.port p) (s.modPort p PortState.lose) := by
  simp [loseLink, h]

/-- Settles O7: the event after the loss offers notices, which a DOWN port discards and counts. -/
theorem linkLossDiscards : Obligations.LinkLossDiscards := by
  intro p s hl hup
  have acts := raise_acts .linkDown (.port p) (s.modPort p PortState.lose)
  have offers := acts.ports p
  rw [State.port_modPort] at offers
  have hd : ((raise .linkDown (.port p) (s.modPort p PortState.lose)).port p).link = .down := offers.link
  obtain ⟨ht, hf, ho⟩ := (offers.sound (PortState.sound_lose _)).empty hd
  refine ⟨raise .linkDown (.port p) (s.modPort p PortState.lose), ?_, hd, ht, hf, ho, offers.latch, offers.forwardDrops, ?_,
    offers.framesOut, mem_summary_raise _ _ _, ((LinkFrame.modPort s p _).trans acts.frame).agreeBeyondLinks⟩
  · simp only [exec, execLinkLoss, hl, if_true, act_live, loseLink_up hup]
  · exact offers.drops _ (by simp only [satAdd]; omega) le_rfl

/-! ### Receptions (R1 to R5, R171) -/

theorem other_ne (p : Port) : p.other ≠ p := by cases p <;> simp [Port.other]

/-- A frame in error counts twice, and nothing else happens (R1). -/
theorem receive_bad {f : Frame} {lost : Bool} (h : lost = true ∨ (s.port p).link = .down ∨ frameBad f = true) :
    receive p f lost s = s.modPort p fun x =>
      { x with framesIn := satInc x.framesIn, framesInError := satInc x.framesInError } := by
  unfold receive
  simp only [State.port_modPort]
  rw [if_pos (by simpa [or_assoc] using h)]
  cases p <;> rfl

/-- A good frame is counted in and handled (R1). -/
theorem receive_good {f : Frame} (hl : (s.port p).link = .up) (hf : frameBad f = false) :
    receive p f false s = handleGood p f (s.modPort p fun x => { x with framesIn := satInc x.framesIn }) := by
  simp [receive, hl, hf]

theorem exec_reception (hl : s.live = true) (f : Frame) (lost : Bool) :
    exec (.frameReceptionComplete p f lost) s = .next (conclude (receive p f lost s)) := by
  simp only [exec, execFrameReceptionComplete, act_live hl]

theorem exec_good_reception {f : Frame} (hl : s.live = true) (hu : (s.port p).link = .up) (hf : frameBad f = false) :
    exec (.frameReceptionComplete p f false) s
      = .next (conclude (handleGood p f (s.modPort p fun x => { x with framesIn := satInc x.framesIn }))) := by
  rw [exec_reception hl, receive_good hu hf]

theorem addressed_modPort (q : Port) (g : PortState → PortState) (m : List Byte) :
    (s.modPort q g).addressed m = s.addressed m := by simp [State.addressed]

/-- Settles O9. -/
theorem framesNotRelayed : Obligations.FramesNotRelayed := by
  intro p f s hl
  refine ⟨fun lost h => by rw [exec_reception hl, receive_bad h], fun hu hf hc ha => ?_⟩
  have queued : handleGood p f (s.modPort p fun x => { x with framesIn := satInc x.framesIn })
      = enqueueRequest p (messageOf f) (s.modPort p fun x => { x with framesIn := satInc x.framesIn }) := by
    simp [handleGood, hc, addressed_modPort, ha]
  rw [exec_good_reception hl hu hf, queued]
  refine ⟨fun hr => ?_, fun hr => ?_⟩
  · simp [enqueueRequest, Config.requestPlaces, hr]
  · simp [enqueueRequest, Config.requestPlaces, Nat.not_lt.2 hr]

/-- The three ways of a relayed copy (R5, R11). -/
theorem relay_down {f : Frame} (h : (s.port p.other).link = .down) : relay p f s = s.modPort p.other PortState.dropForward := by
  simp [relay, h]

theorem relay_placed {f : Frame} (h : (s.port p.other).link = .up) (ho : (s.port p.other).forwardOccupancy < 32) :
    relay p f s = s.modPort p.other fun x => { x with forward := x.forward ++ [f] } := by
  simp [relay, h, Config.forwardPlaces, ho]

theorem relay_full {f : Frame} (h : (s.port p.other).link = .up) (ho : 32 ≤ (s.port p.other).forwardOccupancy) :
    relay p f s = raise .forwardDrop (.port p.other) (s.modPort p.other PortState.dropForward) := by
  simp [relay, h, Config.forwardPlaces, Nat.not_lt.2 ho]

/-- Settles O10: the copy first, by the room at the other port, then what the class of the frame asks for. -/
theorem otherFramesRelayed : Obligations.OtherFramesRelayed := by
  intro p f s hl hu hf s₁ u
  have other : s₁.port p.other = s.port p.other := State.port_modPort_other s p _ _ (other_ne p)
  refine ⟨fun hd => ?_, fun ho hr => ?_, fun ho hr => ?_, fun hc => ?_, fun hc => ?_, fun hc => ?_⟩
  · exact relay_down (other ▸ hd)
  · exact relay_placed (other ▸ ho) (other ▸ hr)
  · have hu : u = raise .forwardDrop (.port p.other) (s₁.modPort p.other PortState.dropForward) :=
      relay_full (other ▸ ho) (other ▸ hr)
    have acts := raise_acts .forwardDrop (.port p.other) (s₁.modPort p.other PortState.dropForward)
    have out := acts.ports p.other
    have arr := acts.ports p
    rw [State.port_modPort, other] at out
    rw [State.port_modPort_other _ _ _ _ (other_ne p).symm, State.port_modPort] at arr
    rw [hu]
    exact ⟨out.forwardDrops, out.forward, arr.forward, arr.framesIn, arr.unmatched, mem_summary_raise _ _ _,
      (((LinkFrame.modPort s p _).trans (.modPort s₁ _ _)).trans acts.frame).agreeBeyondLinks⟩
  · rw [exec_good_reception hl hu hf]
    rcases hc with hc | hc | ⟨hc, ha⟩
    · simp only [handleGood, hc]; rfl
    · simp only [handleGood, hc]; rfl
    · simp only [handleGood, hc, addressed_modPort, ha, Bool.false_eq_true, if_false]; rfl
  · rw [exec_good_reception hl hu hf]
    simp only [handleGood, hc]; rfl
  · rw [exec_good_reception hl hu hf]
    rcases hc with hc | hc | hc <;> (simp only [handleGood, hc]; rfl)

theorem offerToMatcher_untaken {k : FrameClass} {m : List Byte} (h : msgLength m < 8 ∨ s.taker k (streamTag m) = none) :
    offerToMatcher k p m s = countUnmatched p s := by
  unfold offerToMatcher
  split
  · rfl
  · next hm => rw [h.resolve_left hm]

theorem LinkFrame.taker (h : LinkFrame s u) (k : FrameClass) (tag : Word32) : u.taker k tag = s.taker k tag := by
  rw [h]; rfl

theorem relayed_frame (s : State) (p : Port) (f : Frame) : LinkFrame s (s.relayed p f) :=
  (LinkFrame.modPort s p _).trans (relay_frame p f _)

/-- The relayed copy changes no counter of the arrival port but the frames in. -/
theorem relayed_port (s : State) (p : Port) (f : Frame) :
    ((s.relayed p f).port p).framesIn = satInc (s.port p).framesIn
      ∧ ((s.relayed p f).port p).unmatched = (s.port p).unmatched := by
  have same (g : PortState → PortState) :
      (((s.modPort p fun x => { x with framesIn := satInc x.framesIn }).modPort p.other g).port p)
        = { s.port p with framesIn := satInc (s.port p).framesIn } := by
    rw [State.port_modPort_other _ _ _ _ (other_ne p).symm, State.port_modPort]
  unfold State.relayed relay
  dsimp only
  split
  · rw [same]; exact ⟨rfl, rfl⟩
  · split
    · rw [same]; exact ⟨rfl, rfl⟩
    · have offers := (raise_acts .forwardDrop (.port p.other)
        ((s.modPort p fun x => { x with framesIn := satInc x.framesIn }).modPort p.other PortState.dropForward)).ports p
      rw [same] at offers
      exact ⟨offers.framesIn, offers.unmatched⟩

/-- Settles O11: the relayed copy leaves the stream table alone, so the matcher finds no slot and counts the frame. -/
theorem untakenFrameCountsUnmatched : Obligations.UntakenFrameCountsUnmatched := by
  intro p f s hl hu hf hc hn
  have frame := relayed_frame s p f
  obtain ⟨hin, hun⟩ := relayed_port s p f
  obtain ⟨-, -, -, -, -, matched⟩ := otherFramesRelayed p f s hl hu hf
  refine ⟨countUnmatched p (s.relayed p f), ?_, ?_, ?_, (frame.trans (countUnmatched_frame p _)).agreeBeyondLinks⟩
  · rw [matched hc, offerToMatcher_untaken (hn.imp_right fun h => (frame.taker _ _).trans h)]
  · rw [countUnmatched, State.port_modPort]; exact hin
  · rw [countUnmatched, State.port_modPort]; exact congrArg satInc hun

end Sys2Proof.Machine

/-! ### Requests: reads that clear, and how a response leaves (R7, R8, R11, R13, R32, R166 to R168, R171, R177) -/

namespace Sys2Proof.Machine

variable {s t u : State} {p : Port} {r : Request} {b : List Byte}

/-- A command of the responder with its request at the head, while the part acts (R171). -/
theorem act_serving {k : Nat} (h : Serving s k r b) (f : List Byte → State → Served) :
    act (serve k f) s = conclude (answer r (f b s)) := by rw [act_live h.1, serve_serving h]

theorem noFields_nil (f : State → Served) (s : State) : noFields f [] s = f s := rfl

theorem portOf_number (p : Port) : portOf (Port.number p) = some p := by cases p <;> rfl

theorem portOf_eq_none {n : Nat} (h : 2 ≤ n) : portOf n = none := by
  obtain ⟨m, rfl⟩ := Nat.exists_eq_add_of_le' h
  rfl

theorem slotOf_val (i : Fin 24) : slotOf i.val = some i := by simp [slotOf]

theorem slotOf_eq_none {n : Nat} (h : 24 ≤ n) : slotOf n = none := by simp [slotOf, Nat.not_lt.2 h]

/-- What R167 does to the levels, by what they hold. -/
theorem EventUnit.moveUp_empty {x : EventUnit} (h : x.level1 = none) (now : Time) : x.moveUp now = x := by
  simp [EventUnit.moveUp, h]

theorem EventUnit.moveUp_last {x : EventUnit} {l : Report × Bool} (h1 : x.level1 = some l) (h2 : x.level2 = none)
    (now : Time) : x.moveUp now = { x with level1 := none, alarm := .deasserted } := by
  simp [EventUnit.moveUp, h1, h2]

theorem EventUnit.moveUp_second {x : EventUnit} {l q : Report} {m : Bool} (h1 : x.level1 = some (l, m))
    (h2 : x.level2 = some q) (now : Time) :
    x.moveUp now = { x with
      level1 := some (q, q.kinds.any x.enabled), level2 := none
      alarm := if q.kinds.any x.enabled = false then .deasserted
               else if m = true then .reassertAt (now + 1) else .asserted } := by
  simp only [EventUnit.moveUp, h1, h2]
  cases q.kinds.any x.enabled <;> rfl

/-- READ_COUNTERS by its object type and number (R177). -/
theorem serveReadCounters_port (hb : b.length = 8) (h0 : word b 0 = 3) (h1 : word b 1 = Port.number p) :
    serveReadCounters b s = readPortCounters p s := by
  simp [serveReadCounters, hb, h0, h1, portOf_number]

theorem serveReadCounters_slot {i : Fin 24} (hb : b.length = 8) (h0 : word b 0 = 2) (h1 : word b 1 = i.val) :
    serveReadCounters b s = readSlotCounters i s := by
  simp [serveReadCounters, hb, h0, h1, slotOf_val]

theorem serveReadCounters_type (hb : b.length = 8) (h2 : word b 0 ≠ 2) (h3 : word b 0 ≠ 3) :
    serveReadCounters b s = unchanged s (.range 0 none) := by
  unfold serveReadCounters
  rw [if_neg (not_not.2 hb)]
  split
  · contradiction
  · contradiction
  · rfl

theorem serveReadCounters_number (hb : b.length = 8) (h : word b 0 = 2 ∧ 24 ≤ word b 1 ∨ word b 0 = 3 ∧ 2 ≤ word b 1) :
    serveReadCounters b s = unchanged s (.range 1 none) := by
  rcases h with ⟨h0, h1⟩ | ⟨h0, h1⟩
  · simp [serveReadCounters, hb, h0, slotOf_eq_none h1]
  · simp [serveReadCounters, hb, h0, portOf_eq_none h1]

/-- Settles O35. -/
theorem readsThatClearAnswer : Obligations.ReadsThatClearAnswer := by
  intro s r b
  refine ⟨fun h hb => ?_, fun h hb => ?_, fun h hb => ?_⟩
  · subst hb
    exact congrArg Host.Outcome.next (act_serving h _)
  · subst hb
    have reads : exec .readEvents s = .next (conclude (answer r (serveReadEvents s))) :=
      congrArg Host.Outcome.next (act_serving h _)
    refine ⟨fun h1 => ?_, fun l h1 h2 => ?_, fun l m q h1 h2 => ?_⟩
    · simp only [reads, serveReadEvents, EventUnit.moveUp_empty h1, h1]; rfl
    · simp only [reads, serveReadEvents, EventUnit.moveUp_last h1 h2, h1, h2]; rfl
    · simp only [reads, serveReadEvents, EventUnit.moveUp_second h1 h2, h1, h2]; rfl
  · have reads : exec .readCounters s = .next (conclude (answer r (serveReadCounters b s))) :=
      congrArg Host.Outcome.next (act_serving h _)
    rw [reads]
    refine ⟨fun p h0 h1 => ?_, fun i h0 h1 => ?_, fun h2 h3 => ?_, fun hn => ?_⟩
    · rw [serveReadCounters_port hb h0 h1]; rfl
    · rw [serveReadCounters_slot hb h0 h1]; rfl
    · rw [serveReadCounters_type hb h2 h3]
    · rw [serveReadCounters_number hb hn]

/-! ### Responses and notices leave (R6 to R8, R11, R166, R171) -/

/-- An answer without a notice behind it. -/
theorem answer_none {x : Served} (h : x.after = none) : answer r x =
    { offerResponse (x.reply.response r) r.port x.state with requests := x.state.requests.drop 1 } := by
  have frame := offerResponse_frame (x.reply.response r) r.port x.state
  simp only [answer, h]
  rw [frame]

theorem offerResponse_down {x : Response} (h : (s.port p).link = .down) :
    offerResponse x p s = s.modPort p PortState.dropOrigin := by simp [offerResponse, h]

theorem offerResponse_placed {x : Response} (h : (s.port p).link = .up) (ho : (s.port p).originOccupancy < 8) :
    offerResponse x p s = s.modPort p fun y => { y with origin := enqueueByClass y.origin (.response x) } := by
  simp [offerResponse, h, Config.originPlaces, ho]

theorem offerResponse_full {x : Response} (h : (s.port p).link = .up) (ho : 8 ≤ (s.port p).originOccupancy) :
    offerResponse x p s = raise .originDrop (.port p) (s.modPort p PortState.dropOrigin) := by
  simp [offerResponse, h, Config.originPlaces, Nat.not_lt.2 ho]

theorem offerNotice_full (h : (s.port p).link = .up) (ho : 8 ≤ (s.port p).originOccupancy) (e : Source) :
    offerNotice e p s =
      fileEvent { kind := .originDrop, obj := .port p, time := s.ms } (s.modPort p PortState.dropOrigin) := by
  simp [offerNotice, h, Config.originPlaces, Nat.not_lt.2 ho]

/-- A notice reaches one port alone. -/
theorem offerNotice_other {q : Port} (hq : q ≠ p) (e : Source) : (offerNotice e p s).port q = s.port q := by
  unfold offerNotice
  split
  · exact State.port_modPort_other s p q _ hq
  · split
    · exact State.port_modPort_other s p q _ hq
    · rw [port_fileEvent]; exact State.port_modPort_other s p q _ hq

/-- Notices leave the frames of a full queue alone. -/
theorem offerNotice_full_origin {q : Port} (ho : 8 ≤ (s.port p).originOccupancy) (e : Source) :
    ((offerNotice e q s).port p).origin = (s.port p).origin ∧ 8 ≤ ((offerNotice e q s).port p).originOccupancy := by
  by_cases hq : p = q
  · subst hq
    by_cases hd : (s.port p).link = .down
    · rw [offerNotice_down hd, State.port_modPort]; exact ⟨rfl, ho⟩
    · rw [offerNotice_full (link_up_of_ne_down hd) ho, port_fileEvent, State.port_modPort]; exact ⟨rfl, ho⟩
  · rw [offerNotice_other hq]; exact ⟨rfl, ho⟩

theorem raise_full_origin (ho : 8 ≤ (s.port p).originOccupancy) (k : EventKind) (o : Obj) :
    ((raise k o s).port p).origin = (s.port p).origin := by
  have filed (e : Source) : ((fileEvent e s).port p).origin = (s.port p).origin
      ∧ 8 ≤ ((fileEvent e s).port p).originOccupancy := by rw [port_fileEvent]; exact ⟨rfl, ho⟩
  unfold raise
  dsimp only
  split
  · obtain ⟨h1, o1⟩ := filed { kind := k, obj := o, time := s.ms }
    obtain ⟨h2, o2⟩ := offerNotice_full_origin (q := .a) o1 { kind := k, obj := o, time := s.ms }
    rw [(offerNotice_full_origin (q := .b) o2 _).1, h2, h1]
  · exact (filed _).1

/-- Where a queue has a place, a notice stands in it behind its class. -/
theorem offerNotice_origin (h : (s.port p).link = .up) (ho : (s.port p).originOccupancy < 8) (e : Source) :
    ((offerNotice e p s).port p).origin = enqueueByClass (s.port p).origin (.notice e) := by
  rw [offerNotice_placed (by simp [h]) ho, State.port_modPort]

/-- Both copies of a notice, where both queues have a place. -/
theorem offerNotices_origin (h : ∀ p, (s.port p).link = .up ∧ (s.port p).originOccupancy < 8) (e : Source) (p : Port) :
    ((offerNotice e .b (offerNotice e .a s)).port p).origin = enqueueByClass (s.port p).origin (.notice e) := by
  cases p
  · rw [offerNotice_other (by simp)]
    exact offerNotice_origin (h .a).1 (h .a).2 e
  · have b : (offerNotice e .a s).port .b = s.port .b := offerNotice_other (by simp) e
    rw [offerNotice_origin (b ▸ (h .b).1) (b ▸ (h .b).2), b]

/-- Offers do not look at the request queue, so the request may leave before or after them. -/
theorem offerNotice_withRequests (q : List Request) (e : Source) (p : Port) (s : State) :
    offerNotice e p { s with requests := q } = { offerNotice e p s with requests := q } := by
  have hp : ({ s with requests := q } : State).port p = s.port p := by cases p <;> rfl
  unfold offerNotice
  rw [hp]
  split
  · cases p <;> rfl
  · split <;> cases p <;> rfl

theorem answer_some {x : Served} {e : Source} (h : x.after = some e) :
    answer r x = offerNotice e .b (offerNotice e .a (answer r { x with after := none })) := by
  have frame := (offerResponse_frame (x.reply.response r) r.port x.state).trans ((offerNotice_frame e .a _).trans
    (offerNotice_frame e .b _))
  rw [answer_none (x := { x with after := none }) rfl]
  simp only [offerNotice_withRequests, answer, h]
  rw [frame]

/-- The response's port and the other one after an answer without a notice, where the queue has a place. -/
theorem answer_port {x : Served} (h : x.after = none) (hu : (x.state.port r.port).link = .up)
    (ho : (x.state.port r.port).originOccupancy < 8) (q : Port) :
    (answer r x).port q = if q = r.port then { x.state.port q with
      origin := enqueueByClass (x.state.port q).origin (.response (x.reply.response r)) } else x.state.port q := by
  have same (t : State) (y : List Request) : ({ t with requests := y } : State).port q = t.port q := by cases q <;> rfl
  rw [answer_none h, same, offerResponse_placed hu ho]
  split
  · next hq => subst hq; rw [State.port_modPort]
  · next hq => exact State.port_modPort_other _ _ _ _ hq

theorem response_leaves {x : Served} (hx : x.after = none) :
    ((x.state.port r.port).link = .down →
      answer r x = { x.state.modPort r.port PortState.dropOrigin with requests := x.state.requests.drop 1 })
    ∧ ((x.state.port r.port).link = .up → (x.state.port r.port).originOccupancy < 8 →
      answer r x = { x.state.modPort r.port fun y =>
          { y with origin := enqueueByClass y.origin (.response (x.reply.response r)) } with
        requests := x.state.requests.drop 1 })
    ∧ ((x.state.port r.port).link = .up → 8 ≤ (x.state.port r.port).originOccupancy →
      .originDrop ∈ (answer r x).events.summary
        ∧ ((answer r x).port r.port).origin = (x.state.port r.port).origin
        ∧ satInc (x.state.port r.port).originDrops ≤ ((answer r x).port r.port).originDrops
        ∧ (answer r x).requests = x.state.requests.drop 1) := by
  rw [answer_none hx]
  refine ⟨fun hd => by rw [offerResponse_down hd], fun hu ho => by rw [offerResponse_placed hu ho], fun hu ho => ?_⟩
  have same (t : State) (y : List Request) : ({ t with requests := y } : State).port r.port = t.port r.port := by
    cases r.port <;> rfl
  have dropped := State.port_modPort x.state r.port PortState.dropOrigin
  rw [offerResponse_full hu ho, same]
  refine ⟨mem_summary_raise _ _ _, ?_, ?_, rfl⟩
  · rw [raise_full_origin (by rw [dropped]; exact ho), dropped]; rfl
  · refine ((raise_acts .originDrop (.port r.port) _).ports r.port).drops _ ?_ ?_
    · simp only [satInc, satAdd]; omega
    · rw [dropped]; exact le_rfl

theorem originOccupancy_enqueue (x : PortState) (m : OriginMsg) :
    ({ x with origin := enqueueByClass x.origin m } : PortState).originOccupancy = x.originOccupancy + 1 := by
  simp only [PortState.originOccupancy, enqueueByClass_length]; omega

/-- Settles O50: the response by the room at its port, then the two copies of a notice. -/
theorem responseOffered : Obligations.ResponseOffered := by
  refine ⟨fun r x hx => response_leaves hx, fun r x e he => ⟨answer_some he, fun ha hb oa ob p => ?_⟩, fun e p s => ?_⟩
  · have link (q : Port) : (x.state.port q).link = .up := by cases q; exacts [ha, hb]
    have room (q : Port) : (x.state.port q).originOccupancy < 7 := by cases q; exacts [oa, ob]
    have ports := answer_port (r := r) (x := { x with after := none }) rfl (link r.port) ((room r.port).trans (by omega))
    have ready (q : Port) : ((answer r { x with after := none }).port q).link = .up
        ∧ ((answer r { x with after := none }).port q).originOccupancy < 8 := by
      rw [ports q]
      split
      · exact ⟨link q, (originOccupancy_enqueue _ _).trans_lt (Nat.succ_lt_succ (room q))⟩
      · exact ⟨link q, (room q).trans (Nat.lt_succ_self 7)⟩
    rw [answer_some he, offerNotices_origin ready, ports p]
    split <;> rfl
  · refine ⟨fun hd => offerNotice_down hd e, fun hu ho => offerNotice_placed (by simp [hu]) ho e, fun hu ho _ => ?_⟩
    dsimp only
    rw [offerNotice_full hu ho]
    exact ⟨by rw [summary_fileEvent]; exact mem_addKind _ _, rfl⟩

end Sys2Proof.Machine

/-! ### The frames the part sends (R1, R2, R5, R180, R181) -/

namespace Sys2Proof.Machine

/-- An originated frame before its check sequence (R181). -/
def originBody (st : BitVec 4) (m : List Byte) : List Byte :=
  [255, 255, 255, 255, 255, 255, 2, 0, 0, 0, 0xC2, st.setWidth 8, 0x88, 0xB5] ++ m
    ++ List.replicate (60 - (14 + m.length)) 0

theorem originFrame_eq (st : BitVec 4) (m : List Byte) :
    originFrame st m = originBody st m ++ crcBytes (originBody st m) := rfl

theorem originBody_length (st : BitVec 4) (m : List Byte) : (originBody st m).length = max 60 (14 + m.length) := by
  simp only [originBody, List.length_append, List.length_replicate, List.length_cons, List.length_nil]
  omega

theorem originFrame_length (st : BitVec 4) (m : List Byte) :
    (originFrame st m).length = (originBody st m).length + 4 := by
  rw [originFrame_eq, List.length_append, crcBytes_length]

theorem frameBody_originFrame (st : BitVec 4) (m : List Byte) : frameBody (originFrame st m) = originBody st m := by
  rw [frameBody, originFrame_length, Nat.add_sub_cancel, originFrame_eq, List.take_left]

/-- The check of R1 passes while the message fits a frame of 1522 bytes. -/
theorem frameBad_originFrame (st : BitVec 4) {m : List Byte} (h : m.length ≤ 1504) : frameBad (originFrame st m) = false := by
  have long : 60 ≤ (originBody st m).length ∧ (originBody st m).length ≤ 1518 := by
    rw [originBody_length]; omega
  have sum : (originFrame st m).drop ((originFrame st m).length - 4) = crcBytes (originBody st m) := by
    rw [originFrame_length, Nat.add_sub_cancel, originFrame_eq, List.drop_left]
  unfold frameBad
  rw [sum, frameBody_originFrame, originFrame_length]
  simp only [Config.minFrame, Config.maxFrame, bne_self_eq_false, Bool.or_false, Bool.or_eq_false_iff]
  exact ⟨decide_eq_false (by omega), decide_eq_false (by omega)⟩

theorem typeField_originFrame (st : BitVec 4) (m : List Byte) : field (originFrame st m) 12 2 = [0x88, 0xB5] := by
  simp [field, originFrame_eq, originBody]

theorem isTagged_originFrame (st : BitVec 4) (m : List Byte) : isTagged (originFrame st m) = false := by
  rw [isTagged, fieldNat, typeField_originFrame]; decide

theorem typeValue_originFrame (st : BitVec 4) (m : List Byte) : typeValue (originFrame st m) = 0x88B5 := by
  rw [typeValue, isTagged_originFrame, if_neg Bool.false_ne_true, fieldNat, typeField_originFrame]; decide

/-- A receiver reads the message with the padding behind it (R180). -/
theorem messageOf_originFrame (st : BitVec 4) (m : List Byte) :
    messageOf (originFrame st m) = m ++ List.replicate (60 - (14 + m.length)) 0 := by
  rw [messageOf, frameBody_originFrame, isTagged_originFrame]
  rfl

theorem message_length (k : Nat) (body : List Byte) : (message k body).length = body.length + 4 := by
  simp only [message, List.length_append, beBytes_length]; omega

/-- The kinds of the part's own messages, whatever follows them. -/
theorem msgKind_message (body pad : List Byte) :
    msgKind (message 17 body ++ pad) = 17 ∧ msgKind (message 34 body ++ pad) = 34 ∧ msgKind (message 35 body ++ pad) = 35 :=
  ⟨rfl, rfl, rfl⟩

theorem classify_message (st : BitVec 4) {k : Nat} (hk : k = 17 ∨ k = 34 ∨ k = 35) (body : List Byte) :
    classify (originFrame st (message k body)) = .own := by
  have long : ¬ (message k body ++ List.replicate (60 - (14 + (message k body).length)) (0 : Byte)).length < 4 := by
    rw [List.length_append, message_length]; omega
  obtain ⟨h17, h34, h35⟩ := msgKind_message body (List.replicate (60 - (14 + (message k body).length)) 0)
  unfold classify
  rw [if_neg (not_not.2 (typeValue_originFrame st _)), messageOf_originFrame]
  dsimp only
  rw [if_neg long]
  rcases hk with rfl | rfl | rfl
  · simp only [h17]
  · simp only [h34]
  · simp only [h35]

theorem beBytes_one (x : Nat) : beBytes 1 x = [BitVec.ofNat 8 x] := by simp [beBytes]

/-- A record's message, byte for byte (12.3). -/
theorem recordMessage_eq (c : CoilId) (r : DriveRecord) :
    recordMessage c r = [0, 17, 0, 10, BitVec.ofNat 8 r.kind.code, BitVec.ofNat 8 (CoilId.number c),
      if r.toggle then 1 else 0, 0] ++ beBytes 2 r.kind.parameter := by
  have toggle : BitVec.ofNat 8 (if r.toggle then 1 else 0) = if r.toggle then 1 else 0 := by cases r.toggle <;> rfl
  simp only [recordMessage, message, beBytes_one, toggle, List.length_append, List.length_cons, List.length_nil,
    beBytes_length]
  rfl

/-- A notice's message, byte for byte (12.3). -/
theorem noticeMessage_eq (st : BitVec 4) (e : Source) :
    noticeMessage st e = [0, 35, 0, 12, BitVec.ofNat 8 e.kind.code.val, BitVec.ofNat 8 e.obj.typeNumber.1,
      BitVec.ofNat 8 e.obj.typeNumber.2, st.setWidth 8] ++ beBytes 4 e.time.toNat := by
  simp only [noticeMessage, message, beBytes_one, BitVec.ofNat_toNat, List.length_append, List.length_cons,
    List.length_nil, beBytes_length]
  rfl

theorem responseMessage_length (r : Response) (h : r.tag.length = 2) :
    (responseMessage r).length = r.answer.length + 10 := by
  simp only [responseMessage, message_length, List.length_append, beBytes_length, List.length_cons, List.length_nil, h]
  omega

theorem classify_own (st : BitVec 4) (m : OriginMsg) : classify (m.frame st) = .own := by
  cases m with
  | record c t r => exact classify_message st (.inl rfl) _
  | response r => exact classify_message st (.inr (.inl rfl)) _
  | notice e => exact classify_message st (.inr (.inr rfl)) _

theorem originFrame_message (st : BitVec 4) (m : List Byte) : ((originFrame st m).drop 14).take m.length = m := by
  have rest : (originFrame st m).drop 14
      = m ++ (List.replicate (60 - (14 + m.length)) 0 ++ crcBytes (originBody st m)) := by
    rw [← List.append_assoc]; rfl
  rw [rest, List.take_left]

/-- Settles O52. -/
theorem ownFramesAreOwn : Obligations.OwnFramesAreOwn := by
  refine ⟨fun st m h => frameBad_originFrame st h, fun st m => ⟨classify_own st m, rfl, originFrame_message st _, ?_⟩,
    fun s p b => ⟨fun m h => ?_, fun f h => ?_⟩⟩
  · cases m with
    | record c t r =>
      refine ⟨recordMessage_eq c r, frameBad_originFrame st ?_⟩
      simp [OriginMsg.message, recordMessage_eq]
    | response r =>
      intro ht ha
      refine frameBad_originFrame st ?_
      simp only [OriginMsg.message, responseMessage_length r ht]
      omega
    | notice e =>
      refine ⟨noticeMessage_eq st e, frameBad_originFrame st ?_⟩
      simp [OriginMsg.message, noticeMessage_eq]
  · simp only [State.frameOnWire, h]
  · simp only [State.frameOnWire, h]

end Sys2Proof.Machine

/-! ### The end of a step, and a record's later sends (R7, R9, R114, R115, R123) -/

namespace Sys2Proof.Machine

variable {s t u : State} {c d : CoilId} {p : Port} {w : Waiting} {rest : List Waiting}

/-! Silence supervision -/

/-- Supervision starts or stops a timer, and changes nothing else. -/
theorem superviseSilence_eq (c : CoilId) (s : State) :
    ∃ x, x.isSome = silenceArmed c s ∧ superviseSilence c s = s.modCoil c fun k => { k with silenceTimer := x } := by
  have same : s = s.modCoil c fun k => { k with silenceTimer := (s.coil c).silenceTimer } := by cases c <;> rfl
  unfold superviseSilence
  split
  · next ha => exact ⟨some (s.ms + span (s.coil c).settings.silenceTimeout), ha.symm, by cases c <;> rfl⟩
  · next ha => exact ⟨none, ha.symm, rfl⟩
  · next h1 h2 =>
    refine ⟨(s.coil c).silenceTimer, ?_, same⟩
    cases ht : (s.coil c).silenceTimer <;> cases ha : silenceArmed c s
    · rfl
    · exact absurd ha (h1 ht)
    · exact absurd ha (h2 _ ht)
    · rfl

theorem port_superviseSilence (c : CoilId) (s : State) (p : Port) : (superviseSilence c s).port p = s.port p := by
  obtain ⟨x, -, e⟩ := superviseSilence_eq c s
  rw [e, State.port_modCoil]

/-- Whether supervision is armed does not depend on a silence timer. -/
theorem silenceArmed_modTimer (c d : CoilId) (x : Option Time) (s : State) :
    silenceArmed c (s.modCoil d fun k => { k with silenceTimer := x }) = silenceArmed c s := by
  cases c <;> cases d <;> rfl

theorem silenceArmed_superviseSilence (c d : CoilId) (s : State) : silenceArmed c (superviseSilence d s) = silenceArmed c s := by
  obtain ⟨x, -, e⟩ := superviseSilence_eq d s
  rw [e, silenceArmed_modTimer]

theorem silenceTimer_superviseSilence (c : CoilId) (s : State) :
    ((superviseSilence c s).coil c).silenceTimer.isSome = silenceArmed c s := by
  obtain ⟨x, hx, e⟩ := superviseSilence_eq c s
  rw [e, State.coil_modCoil]; exact hx

/-- Supervision of a coil runs exactly while it is armed (R123). -/
theorem silenceTimer_settled (c : CoilId) (s : State) :
    ((settled s).coil c).silenceTimer.isSome = silenceArmed c (settled s) := by
  unfold settled
  rw [silenceArmed_superviseSilence]
  cases c
  · rw [silenceArmed_superviseSilence, (superviseSilence_acts .c2 _).others .c1 (by simp), silenceTimer_superviseSilence]
  · exact silenceTimer_superviseSilence .c2 _

theorem silenceArmed_arbitrate (c : CoilId) (s : State) : silenceArmed c (arbitrate s) = silenceArmed c s := by
  cases c <;> rfl

/-! Admission -/

theorem admitWaiting_nil (h : (s.coil c).waiting = []) : admitWaiting c s = none := by simp [admitWaiting, h]

theorem admitRecords_nil (h1 : s.coil1.waiting = []) (h2 : s.coil2.waiting = []) : admitRecords s = s := by
  unfold admitRecords
  generalize 2 * (s.coil1.waiting.length + s.coil2.waiting.length) + 7 = n
  simp [admitAll, admitWaiting_nil (c := .c1) h1, admitWaiting_nil (c := .c2) h2]

theorem port_settled_nil (h1 : s.coil1.waiting = []) (h2 : s.coil2.waiting = []) (p : Port) :
    (settled s).port p = s.port p := by
  rw [settled, port_superviseSilence, port_superviseSilence, admitRecords_nil h1 h2]

theorem PortState.Offers.agrees {keep : OriginMsg → Prop} {x y : PortState} (h : x.Offers keep y) : x.agrees y :=
  ⟨h.link, h.latch, h.framesIn, h.framesInError, h.framesOut, h.forwardDrops, h.unmatched, h.forwardOccupancy⟩

/-- A frame that a transmitter takes from the forward queue keeps its place (R5). -/
theorem PortState.agrees_arbitrate (x : PortState) : x.agrees x.arbitrate := by
  rcases arbitrate_cases x with ⟨m, q, ht, -, -, e⟩ | ⟨f, q, ht, -, hf, e⟩ | e <;> rw [e]
  · exact ⟨rfl, rfl, rfl, rfl, rfl, rfl, rfl, by simp [PortState.forwardOccupancy, ht]⟩
  · exact ⟨rfl, rfl, rfl, rfl, rfl, rfl, rfl, by simp [PortState.forwardOccupancy, ht, hf]⟩
  · exact ⟨rfl, rfl, rfl, rfl, rfl, rfl, rfl, rfl⟩

theorem PortState.agrees.trans {x y z : PortState} (h : x.agrees y) (h' : y.agrees z) : x.agrees z := by
  obtain ⟨h1, h2, h3, h4, h5, h6, h7, h8⟩ := h
  obtain ⟨g1, g2, g3, g4, g5, g6, g7, g8⟩ := h'
  exact ⟨g1.trans h1, g2.trans h2, g3.trans h3, g4.trans h4, g5.trans h5, g6.trans h6, g7.trans h7, g8.trans h8⟩

/-- Settles O51. -/
theorem concludeFrame : Obligations.ConcludeFrame := by
  intro s
  refine ⟨conclude_frame s, fun c => ?_, fun p => ?_, fun c => ?_, fun h1 h2 p => ?_⟩
  · rw [coil_conclude]; exact (settled_acts s).coils c
  · rw [port_conclude]; exact ((settled_acts s).ports p).agrees.trans (PortState.agrees_arbitrate _)
  · rw [coil_conclude, conclude_eq, silenceArmed_arbitrate]; exact silenceTimer_settled c s
  · rw [port_conclude, port_settled_nil h1 h2]
    refine ⟨PortState.arbitrate_still, fun ht hl => ⟨fun m q ho => ?_, fun f q ho hf => ?_, fun ho hf => ?_⟩⟩
    · exact PortState.arbitrate_origin ht hl ho
    · exact PortState.arbitrate_forward ht hl ho hf
    · exact PortState.arbitrate_empty ho hf

/-! Untracked records are never replaced, and an admission that concerns no tracked record withdraws none -/

/-- An untracked record leaves every frame of a queue in place. -/
theorem PortState.offers_enterUntracked {x : PortState} (h : x.admits c false = true) (r : DriveRecord) :
    x.Offers (fun _ => True) (x.enterRecord c false r) := by
  by_cases hl : x.link = .down
  · rw [PortState.enterRecord_down hl]; exact PortState.offers_dropOrigin _ x
  · have ho : x.originOccupancy < Config.originPlaces := by simpa [PortState.admits, hl] using h
    simpa [PortState.enterRecord, hl] using PortState.offers_enqueue _ hl ho (.record c false r)

theorem admitWaiting_enters (h : (s.coil c).waiting = w :: rest) (ha : s.admits c w = true)
    (hs : w.tracked = true → recordMaySend c w.record.kind s = true) :
    admitWaiting c s = some (enterRecord c w (s.modCoil c fun k => { k with waiting := rest })) := by
  have sends : (w.tracked && !recordMaySend c w.record.kind s) = false := by
    cases hw : w.tracked
    · rfl
    · rw [hs hw]; rfl
  simp [admitWaiting, h, ha, sends]

theorem waiting_enterRecord (c : CoilId) (w : Waiting) (s : State) :
    ((enterRecord c w s).coil c).waiting = (s.coil c).waiting := by
  rw [coil_enterRecord]
  split
  · unfold Coil.sendMade; split <;> rfl
  · rfl

/-- The records of a coil that wait are all untracked. -/
def WaitsUntracked (c : CoilId) (s : State) : Prop := ∀ w ∈ (s.coil c).waiting, w.tracked = false

theorem admitWaiting_untracked (h : WaitsUntracked c s) (ha : admitWaiting c s = some t) :
    (∀ p, (s.port p).Offers (fun _ => True) (t.port p)) ∧ WaitsUntracked c t
      ∧ t.coil c = { s.coil c with waiting := (t.coil c).waiting } := by
  cases hw : (s.coil c).waiting with
  | nil => rw [admitWaiting_nil hw] at ha; cases ha
  | cons w rest =>
    have hu : w.tracked = false := h w (by simp [hw])
    have hr : ∀ y ∈ rest, y.tracked = false := fun y hy => h y (by simp [hw, hy])
    by_cases adm : s.admits c w = true
    · rw [admitWaiting_enters hw adm (by simp [hu])] at ha
      cases ha
      refine ⟨fun q => ?_, ?_, ?_⟩
      · rw [port_enterRecord, State.port_modCoil, hu]
        split
        · next hq => exact PortState.offers_enterUntracked (hu ▸ List.all_eq_true.1 adm q hq) _
        · exact .refl _ _
      · unfold WaitsUntracked
        rw [waiting_enterRecord, State.coil_modCoil]; exact hr
      · rw [coil_enterRecord, if_neg (by simp [hu]), State.coil_modCoil]
    · simp only [admitWaiting, hw, adm] at ha
      obtain ⟨hl, ⟨⟩⟩ := Option.ite_none_right_eq_some.1 ha
      obtain ⟨q, hq⟩ := Option.isSome_iff_exists.1 hl
      simp only [waitRecord, hq]
      refine ⟨fun q' => ?_, ?_, ?_⟩
      · rw [State.port_modCoil]
        exact port_modPort_cases (P := PortState.Offers _) (.refl _) (PortState.offers_dropOrigin _ _) q'
      · intro y hy
        simp only [State.coil_modCoil, List.mem_cons] at hy
        rcases hy with rfl | hy
        exacts [hu, hr y hy]
      · simp

/-- A record of a coil stands in a queue, and none of the coil's that wait could replace it (R7). -/
def RecordStands (c : CoilId) (b : Bool) (r : DriveRecord) (p : Port) (s : State) : Prop :=
  .record c b r ∈ (s.port p).origin ∧ WaitsUntracked c s

theorem RecordStands.admitWaiting {b : Bool} {r : DriveRecord} (h : RecordStands c b r p s)
    (ha : admitWaiting d s = some t) : RecordStands c b r p t := by
  obtain ⟨hm, hu⟩ := h
  by_cases hd : d = c
  · subst hd
    obtain ⟨hp, ht, -⟩ := admitWaiting_untracked hu ha
    exact ⟨(hp p).stays _ hm trivial, ht⟩
  · have acts := admitWaiting_acts ha
    refine ⟨(acts.ports p).stays _ hm (by simp [OriginMsg.isTracked, Ne.symm hd]), ?_⟩
    unfold WaitsUntracked
    rwa [acts.others c (Ne.symm hd)]

theorem RecordStands.admitAll {b : Bool} {r : DriveRecord} (h : RecordStands c b r p s) (n : Nat) :
    RecordStands c b r p (admitAll n s) :=
  admitAll_induct (P := RecordStands c b r p) (fun _ _ _ h ha => h.admitWaiting ha) n h

theorem admitAll_succ_c1 (h : admitWaiting .c1 s = some t) (n : Nat) : admitAll (n + 1) s = admitAll n t := by
  simp [admitAll, h]

theorem admitAll_succ_c2 (h1 : admitWaiting .c1 s = none) (h : admitWaiting .c2 s = some t) (n : Nat) :
    admitAll (n + 1) s = admitAll n t := by
  simp [admitAll, h1, h]

/-- The first waiting record, of coil 1 or of coil 2 while none of coil 1 waits, is the one that a turn of admission lets in
(R7). -/
theorem admitAll_enters (h : (s.coil c).waiting = w :: rest) (hc : c = .c1 ∨ s.coil1.waiting = [])
    (ha : s.admits c w = true) (hs : w.tracked = true → recordMaySend c w.record.kind s = true) (n : Nat) :
    admitAll (n + 1) s = admitAll n (enterRecord c w (s.modCoil c fun k => { k with waiting := rest })) := by
  have enters := admitWaiting_enters h ha hs
  cases c
  · exact admitAll_succ_c1 enters n
  · exact admitAll_succ_c2 (admitWaiting_nil (hc.resolve_left (by simp))) enters n

/-- A record that enters an UP port of its route stands there, where those that wait behind it are untracked. -/
theorem recordStands_enterRecord (hp : p ∈ w.route.ports) (hl : (s.port p).link ≠ .down)
    (hr : ∀ y ∈ rest, y.tracked = false) :
    RecordStands c w.tracked w.record p (enterRecord c w (s.modCoil c fun k => { k with waiting := rest })) := by
  refine ⟨?_, ?_⟩
  · rw [port_enterRecord, if_pos hp, State.port_modCoil]
    exact PortState.mem_enterRecord hl
  · unfold WaitsUntracked
    rw [waiting_enterRecord, State.coil_modCoil]; exact hr

/-- What the arbiter takes from a queue is being sent (R9). -/
theorem PortState.mem_arbitrate {x : PortState} {m : OriginMsg} (h : m ∈ x.origin) :
    m ∈ x.arbitrate.origin ∨ x.arbitrate.tx = .origin m true := by
  rcases arbitrate_cases x with ⟨m', q, -, -, ho, e⟩ | ⟨f, q, -, -, -, e⟩ | e <;> rw [e]
  · rcases List.mem_cons.1 (ho ▸ h) with rfl | hq
    exacts [.inr rfl, .inl hq]
  · exact .inl h
  · exact .inl h

theorem RecordStands.conclude_port {b : Bool} {r : DriveRecord} (h : RecordStands c b r p (admitRecords s)) :
    .record c b r ∈ ((conclude s).port p).origin ∨ ((conclude s).port p).tx = .origin (.record c b r) true := by
  rw [port_conclude, settled, port_superviseSilence, port_superviseSilence]
  exact PortState.mem_arbitrate h.1

theorem modPort_complete (h : (s.port p).tx ≠ .idle) :
    s.modPort p PortState.complete = s.modPort p fun x => { x with tx := .idle, framesOut := satInc x.framesOut } := by
  unfold State.modPort
  rw [PortState.complete_eq h]

theorem recordMaySend_modPort (c : CoilId) (k : RecordKind) (q : Port) (g : PortState → PortState) (s : State) :
    recordMaySend c k (s.modPort q g) = recordMaySend c k s := by
  cases q <;> cases c <;> cases k <;> rfl

/-- Settles O8: the first turn of admission lets the record in, and no later turn, and no arbiter, takes it away. -/
theorem transmissionCompletesAndLinkReturns : Obligations.TransmissionCompletesAndLinkReturns := by
  intro p s hl
  refine ⟨fun ht => ⟨?_, fun c w rest hw hc hr hu ho hs hrest => ?_⟩, ?_⟩
  · simp only [exec, execTransmitComplete, act_live hl, modPort_complete ht]
  · generalize hs1 : (s.modPort p fun x => { x with tx := .idle, framesOut := satInc x.framesOut }) = s₁ at ho ⊢
    have up : (s₁.port p).link = .up := by rw [← hs1, State.port_modPort]; exact hu
    have waits : (s₁.coil c).waiting = w :: rest := by rw [← hs1, State.coil_modPort]; exact hw
    have first : c = .c1 ∨ s₁.coil1.waiting = [] := by rwa [← hs1, State.modPort_coil1]
    have sends : w.tracked = true → recordMaySend c w.record.kind s₁ = true := by rwa [← hs1, recordMaySend_modPort]
    have adm : s₁.admits c w = true := by simp [State.admits, hr, Route.ports, PortState.admits, Config.originPlaces, ho]
    refine RecordStands.conclude_port ?_
    unfold admitRecords
    rw [admitAll_enters waits first adm sends]
    exact (recordStands_enterRecord (by simp [hr, Route.ports]) (by simp [up]) hrest).admitAll _
  · simp only [exec, execLinkRestoration, hl, if_true, act_live]

/-! ### A record is sent again, or withdrawn (R114, R115) -/

theorem acceptanceExpires_resends {f : InFlight} (hf : (s.coil c).inFlight = some f) (ht : (s.coil c).acceptTimer.isSome = true)
    (hn : f.sends < 3) (hs : recordMaySend c f.record.kind s = true) :
    acceptanceExpires c s = offerRecord c true f.record (s.modCoil c fun k => { k with acceptTimer := none }) := by
  obtain ⟨x, hx⟩ := Option.isSome_iff_exists.1 ht
  simp [acceptanceExpires, hf, hx, Nat.not_le.2 hn, hs]

theorem acceptanceExpires_withdraws {f : InFlight} (hf : (s.coil c).inFlight = some f)
    (ht : (s.coil c).acceptTimer.isSome = true) (hn : f.sends < 3) (hs : recordMaySend c f.record.kind s = false) :
    acceptanceExpires c s = withdraw c s := by
  obtain ⟨x, hx⟩ := Option.isSome_iff_exists.1 ht
  simp [acceptanceExpires, hf, hx, Nat.not_le.2 hn, hs]

theorem offerRecord_enters {b : Bool} {r : DriveRecord} (hw : (s.coil c).waiting = [])
    (ha : s.admits c { tracked := b, record := r, route := (s.coil c).route } = true) :
    offerRecord c b r s = enterRecord c { tracked := b, record := r, route := (s.coil c).route } s := by
  simp [offerRecord, hw, ha]

/-- Settles O27. -/
theorem acceptTimeoutResendsOrWithdraws : Obligations.AcceptTimeoutResendsOrWithdraws := by
  intro c s f hl hf ht hn
  have expires : exec (.acceptTimeoutExpiry c) s = .next (conclude (acceptanceExpires c s)) := by
    simp only [exec, execAcceptTimeoutExpiry, act_live hl]
  refine ⟨fun hs hw ha => ?_, fun hs => ?_⟩
  · let w : Waiting := { tracked := true, record := f.record, route := (s.coil c).route }
    let s₁ := s.modCoil c fun k => { k with acceptTimer := none }
    have own : s₁.coil c = { s.coil c with acceptTimer := none } := State.coil_modCoil s c _
    have adm : s₁.admits c w = true := (admits_modCoil w _).trans ha
    have sent : offerRecord c true f.record s₁ = enterRecord c w s₁ := by
      have route : (s₁.coil c).route = (s.coil c).route := by rw [own]; rfl
      rw [offerRecord_enters (by rw [own]; exact hw) (route ▸ adm), route]
    have coil : (enterRecord c w s₁).coil c = Coil.sendMade { s.coil c with acceptTimer := none } s.ms := by
      rw [coil_enterRecord, if_pos rfl, own, State.modCoil_ms]
    have ports (p : Port) (hp : p ∈ (s.coil c).route.ports) :
        (enterRecord c w s₁).port p = (s.port p).enterRecord c true f.record := by
      rw [port_enterRecord, if_pos hp, State.port_modCoil]
    refine ⟨enterRecord c w s₁, ?_, ?_, ?_, ?_, fun p hp hu => ?_, fun p hp hd => ?_, fun d hd => ?_, ?_⟩
    · rw [expires, acceptanceExpires_resends hf ht hn hs, sent]
    · rw [coil]; simp [Coil.sendMade, hf]
    · rw [coil]; simp [Coil.sendMade, hf]
    · rw [coil]; simp [Coil.sendMade, hf]
    · rw [ports p hp]; exact PortState.mem_enterRecord (by simp [hu])
    · rw [ports p hp, PortState.enterRecord_down hd]; rfl
    · rw [(enterRecord_acts adm).others d hd, State.coil_modCoil_other s c d _ hd]
    · exact (DriveFrame.modCoil s c _).trans (enterRecord_frame c w s₁)
  · rw [expires, acceptanceExpires_withdraws hf ht hn hs]
    cases hk : f.record.kind <;> simp only [withdraw, hf, hk]

end Sys2Proof.Machine

/-! ### RESET_PART: the blocks' values, and the records that silence the injection (R14, R130, R178) -/

namespace Sys2Proof.Machine

variable {s t u : State} {c d : CoilId} {p q : Port} {w x : Waiting} {rest : List Waiting}

/-- Untracked records are offered or admitted: of the coils only the waiting records change, and they stay untracked; no frame
leaves a queue. -/
structure UntrackedActs (s t : State) : Prop where
  coils : ∀ c, t.coil c = { s.coil c with waiting := (t.coil c).waiting }
  waits : (∀ c, WaitsUntracked c s) → ∀ c, WaitsUntracked c t
  ports : ∀ p, (s.port p).Offers (fun _ => True) (t.port p)

theorem UntrackedActs.refl (s : State) : UntrackedActs s s := ⟨fun _ => rfl, id, fun _ => .refl _ _⟩

theorem UntrackedActs.trans (h : UntrackedActs s t) (h' : UntrackedActs t u) : UntrackedActs s u where
  coils c := by rw [h'.coils c, h.coils c]
  waits := h'.waits ∘ h.waits
  ports p := (h.ports p).trans (h'.ports p)

/-- An operation on one coil that changes its waiting records alone. -/
theorem UntrackedActs.of_coil (acts : CoilActs c s t) (hc : t.coil c = { s.coil c with waiting := (t.coil c).waiting })
    (hw : WaitsUntracked c s → WaitsUntracked c t) (hp : ∀ p, (s.port p).Offers (fun _ => True) (t.port p)) :
    UntrackedActs s t where
  coils d := by
    by_cases hd : d = c
    · exact hd ▸ hc
    · rw [acts.others d hd]
  waits h d := by
    by_cases hd : d = c
    · exact hd ▸ hw (h c)
    · unfold WaitsUntracked; rw [acts.others d hd]; exact h d
  ports := hp

theorem offers_modPort_drop (s : State) (p q : Port) :
    (s.port q).Offers (fun _ => True) ((s.modPort p PortState.dropOrigin).port q) :=
  port_modPort_cases (P := PortState.Offers _) (.refl _) (PortState.offers_dropOrigin _ _) q

/-- The two ways of an offer (R7): the record enters, or it waits behind those that wait. -/
theorem offerRecord_cases (c : CoilId) (b : Bool) (r : DriveRecord) (s : State) :
    (s.admits c { tracked := b, record := r, route := (s.coil c).route } = true
        ∧ offerRecord c b r s = enterRecord c { tracked := b, record := r, route := (s.coil c).route } s)
    ∨ offerRecord c b r s = waitRecord c { tracked := b, record := r, route := (s.coil c).route }
        (fun w => (s.coil c).waiting ++ [w]) s := by
  unfold offerRecord
  dsimp only
  split
  · next h => exact .inl ⟨(Bool.and_eq_true_iff.1 h).2, rfl⟩
  · exact .inr rfl

/-- A record that waits changes the waiting records of its coil, and of the ports at most a count (R7, R11). -/
theorem waitRecord_cases (c : CoilId) (w : Waiting) (put : Waiting → List Waiting) (s : State) :
    (∃ q, s.lostCopy w.route = some q ∧ waitRecord c w put s
        = (s.modPort q PortState.dropOrigin).modCoil c fun k => { k with waiting := put { w with route := .one q.other } })
    ∨ s.lostCopy w.route = none ∧ waitRecord c w put s = s.modCoil c fun k => { k with waiting := put w } := by
  unfold waitRecord
  cases h : s.lostCopy w.route with
  | none => exact .inr ⟨rfl, rfl⟩
  | some q => exact .inl ⟨q, rfl, rfl⟩

theorem offerRecord_untracked (c : CoilId) (r : DriveRecord) (s : State) : UntrackedActs s (offerRecord c false r s) := by
  have acts := offerRecord_acts c false r s
  have appended {w : Waiting} (hw : w.tracked = false) (h : WaitsUntracked c s) :
      ∀ y ∈ (s.coil c).waiting ++ [w], y.tracked = false := by
    intro y hy
    rcases List.mem_append.1 hy with hy | hy
    exacts [h y hy, List.mem_singleton.1 hy ▸ hw]
  rcases offerRecord_cases c false r s with ⟨ha, e⟩ | e
  · rw [e] at acts ⊢
    refine .of_coil acts ?_ (fun h => ?_) fun p => ?_
    · rw [coil_enterRecord, if_neg (by simp)]
    · unfold WaitsUntracked; rw [waiting_enterRecord]; exact h
    · rw [port_enterRecord]
      split
      · next hp => exact PortState.offers_enterUntracked (List.all_eq_true.1 ha p hp) _
      · exact .refl _ _
  · rw [e] at acts ⊢
    rcases waitRecord_cases c { tracked := false, record := r, route := (s.coil c).route }
        (fun w => (s.coil c).waiting ++ [w]) s with ⟨q, -, e⟩ | ⟨-, e⟩ <;> rw [e] at acts ⊢
    · refine .of_coil acts (by simp) (fun h => ?_) fun p => ?_
      · unfold WaitsUntracked; rw [State.coil_modCoil]; exact appended rfl h
      · rw [State.port_modCoil]; exact offers_modPort_drop s q p
    · refine .of_coil acts (by simp) (fun h => ?_) fun p => ?_
      · unfold WaitsUntracked; rw [State.coil_modCoil]; exact appended rfl h
      · rw [State.port_modCoil]; exact .refl _ _

theorem admitWaiting_untrackedActs (h : ∀ c, WaitsUntracked c s) (ha : admitWaiting c s = some t) : UntrackedActs s t := by
  obtain ⟨hp, hw, hc⟩ := admitWaiting_untracked (h c) ha
  exact .of_coil (admitWaiting_acts ha) hc (fun _ => hw) hp

theorem admitRecords_untracked (h : ∀ c, WaitsUntracked c s) : UntrackedActs s (admitRecords s) :=
  admitAll_induct (P := UntrackedActs s) (fun _ _ _ hs ha => hs.trans (admitWaiting_untrackedActs (hs.waits h) ha)) _ (.refl s)

/-- An untracked record takes the next toggle, if there is one (R110). -/
def Coil.turned (k : Coil) : Coil := { k with toggle := k.toggle.map fun t => !t }

theorem modCoil_self {f : Coil → Coil} (h : f (s.coil c) = s.coil c) : s.modCoil c f = s := by
  unfold State.modCoil
  rw [h]
  cases c <;> rfl

theorem formUntracked_toggle {b : Bool} (h : (s.coil c).toggle = some b) (k : RecordKind) :
    formUntracked c k s = offerRecord c false { kind := k, toggle := !b } (s.modCoil c Coil.turned) := by
  have turned : s.modCoil c Coil.turned = s.modCoil c fun k => { k with toggle := some !b } := by
    unfold State.modCoil Coil.turned
    rw [h]; rfl
  rw [turned]
  unfold formUntracked
  rw [h]

theorem formUntracked_absent (h : (s.coil c).toggle = none) (k : RecordKind) :
    formUntracked c k s = offerRecord c false { kind := k, toggle := true }
      (offerRecord c false { kind := k, toggle := false } (s.modCoil c Coil.turned)) := by
  have turned : s.modCoil c Coil.turned = s := by
    refine modCoil_self ?_
    unfold Coil.turned
    rw [h, Option.map_none, ← h]
  rw [turned]
  unfold formUntracked
  rw [h]

theorem formUntracked_untracked (c : CoilId) (k : RecordKind) (s : State) :
    UntrackedActs (s.modCoil c Coil.turned) (formUntracked c k s) := by
  cases h : (s.coil c).toggle with
  | none =>
    rw [formUntracked_absent h]
    exact (offerRecord_untracked _ _ _).trans (offerRecord_untracked _ _ _)
  | some b =>
    rw [formUntracked_toggle h]
    exact offerRecord_untracked _ _ _

/-! What RESET_PART makes of coils and ports -/

theorem port_resetBlocks (s : State) (p : Port) : (resetBlocks s).port p = (s.port p).resetPart s.coil1 s.coil2 := by
  cases p <;> rfl

theorem coil_resetBlocks (s : State) (c : CoilId) : (resetBlocks s).coil c = (s.coil c).resetPart := by cases c <;> rfl

theorem resetSends_iff (k : Coil) : k.resetSends = true ↔ k.heldInj ≠ .off := by simp [Coil.resetSends]

/-- The toggle after the INJECT_OFF, if one is formed (R130). -/
def Coil.sent (b : Bool) (k : Coil) : Coil := if b then k.turned else k

theorem sendResetOff_untracked (c : CoilId) (b : Bool) (s : State) :
    UntrackedActs (s.modCoil c (Coil.sent b)) (sendResetOff c b s) := by
  unfold sendResetOff
  cases b
  · rw [modCoil_self (by rfl)]; exact .refl s
  · exact formUntracked_untracked c .injectOff s

/-- The states between the blocks' values and the admission of what waits (R178 step 2). -/
def resetSent1 (s : State) : State := sendResetOff .c1 s.coil1.resetSends (resetBlocks s)
def resetSent2 (s : State) : State := sendResetOff .c2 s.coil2.resetSends (resetSent1 s)

theorem resetOffered_eq (s : State) : resetOffered s = admitRecords (resetSent2 s) := rfl

theorem keepWaiting_untracked {k : Coil} (h : w ∈ k.keepWaiting) : w.tracked = false := by
  obtain ⟨y, -, rfl⟩ := List.mem_map.1 h
  rfl

theorem resetBlocks_waits (s : State) (c : CoilId) : WaitsUntracked c (resetBlocks s) := by
  unfold WaitsUntracked
  rw [coil_resetBlocks]
  exact fun _ => keepWaiting_untracked

theorem waitsUntracked_modSent (b : Bool) (h : ∀ c, WaitsUntracked c s) (d c : CoilId) :
    WaitsUntracked c (s.modCoil d (Coil.sent b)) := by
  unfold WaitsUntracked
  by_cases hd : c = d
  · subst hd
    rw [State.coil_modCoil]
    cases b <;> exact h c
  · rw [State.coil_modCoil_other s d c _ hd]; exact h c

theorem resetSent1_waits (s : State) : ∀ c, WaitsUntracked c (resetSent1 s) :=
  (sendResetOff_untracked .c1 _ _).waits (waitsUntracked_modSent _ (resetBlocks_waits s) .c1)

theorem resetSent2_waits (s : State) : ∀ c, WaitsUntracked c (resetSent2 s) :=
  (sendResetOff_untracked .c2 _ _).waits (waitsUntracked_modSent _ (resetSent1_waits s) .c2)

theorem resetSent2_to_offered (s : State) : UntrackedActs (resetSent2 s) (resetOffered s) :=
  admitRecords_untracked (resetSent2_waits s)

/-- A coil of the reset part, before its arrival port is forgotten: the values of R130, a toggle that the INJECT_OFF turned,
and what still waits. -/
theorem coil_resetOffered (s : State) (c : CoilId) : (resetOffered s).coil c =
    { (s.coil c).resetPart.sent (s.coil c).resetSends with waiting := ((resetOffered s).coil c).waiting } := by
  have one := sendResetOff_untracked .c1 s.coil1.resetSends (resetBlocks s)
  have two := sendResetOff_untracked .c2 s.coil2.resetSends (resetSent1 s)
  have all := (resetSent2_to_offered s).coils c
  rw [all]
  cases c
  · have h1 := one.coils .c1
    have h2 := two.coils .c1
    rw [State.coil_modCoil, coil_resetBlocks] at h1
    rw [State.coil_modCoil_other _ _ _ _ (by simp), resetSent1, h1] at h2
    rw [resetSent2, resetSent1, h2]
    rfl
  · have h1 := one.coils .c2
    have h2 := two.coils .c2
    rw [State.coil_modCoil_other _ _ _ _ (by simp), coil_resetBlocks] at h1
    rw [State.coil_modCoil, resetSent1, h1] at h2
    rw [resetSent2, resetSent1, h2]
    cases hb : s.coil2.resetSends <;> simp [hb, Coil.sent, Coil.turned]

theorem coil_resetPart (s : State) (c : CoilId) :
    (resetPart s).coil c = { (resetOffered s).coil c with arrival := none } := by
  rw [resetPart_eq]; cases c <;> rfl

theorem port_resetPart (s : State) (p : Port) :
    (resetPart s).port p = { (resetOffered s).port p with originDrops := 0 } := by
  rw [resetPart_eq]; cases p <;> rfl

theorem resetPart_frame (s : State) : DriveFrame (resetBlocks s) (resetPart s) := by
  rw [resetPart_eq]
  exact ((((resetOffered_acts s).frame.trans (.modPort _ .a _)).trans (.modPort _ .b _)).trans (.modCoil _ .c1 _)).trans
    (.modCoil _ .c2 _)

/-! The INJECT_OFF and the kept records find their place -/

/-- Frames in a port's origin queue and records of a coil that wait: an offer by this coil adds at most one, and an admission
none. -/
def load (p : Port) (c : CoilId) (s : State) : Nat := (s.port p).originOccupancy + (s.coil c).waiting.length

theorem originOccupancy_enterRecord (x : PortState) (c : CoilId) (b : Bool) (r : DriveRecord) :
    (x.enterRecord c b r).originOccupancy ≤ x.originOccupancy + 1 := by
  unfold PortState.enterRecord
  dsimp only
  split
  · exact Nat.le_succ _
  · split
    · simp [PortState.originOccupancy]
    · exact (originOccupancy_enqueue x _).le

theorem originOccupancy_enter (c : CoilId) (w : Waiting) (s : State) (p : Port) :
    ((enterRecord c w s).port p).originOccupancy ≤ (s.port p).originOccupancy + 1 := by
  rw [port_enterRecord]
  split
  · exact originOccupancy_enterRecord _ _ _ _
  · exact Nat.le_succ _

theorem originOccupancy_drop (s : State) (p q : Port) :
    ((s.modPort q PortState.dropOrigin).port p).originOccupancy = (s.port p).originOccupancy :=
  port_modPort_cases (P := fun x y => y.originOccupancy = x.originOccupancy) (fun _ => rfl) (by rfl) p

/-- A record that waits adds what the waiting list takes. -/
theorem load_waitRecord (c : CoilId) (w : Waiting) (put : Waiting → List Waiting) (s : State) {n : Nat}
    (h : ∀ w, (put w).length = n) : load p c (waitRecord c w put s) = (s.port p).originOccupancy + n := by
  rcases waitRecord_cases c w put s with ⟨q, -, e⟩ | ⟨-, e⟩ <;> rw [e] <;> unfold load
  · rw [State.port_modCoil, State.coil_modCoil, originOccupancy_drop, h]
  · rw [State.port_modCoil, State.coil_modCoil, h]

theorem load_offerRecord (p : Port) (c : CoilId) (b : Bool) (r : DriveRecord) (s : State) :
    load p c (offerRecord c b r s) ≤ load p c s + 1 := by
  rcases offerRecord_cases c b r s with ⟨-, e⟩ | e <;> rw [e]
  · unfold load
    rw [waiting_enterRecord]
    have := originOccupancy_enter c { tracked := b, record := r, route := (s.coil c).route } s p
    omega
  · rw [load_waitRecord (n := (s.coil c).waiting.length + 1) _ _ _ _ (by simp)]
    exact le_rfl

theorem load_turned (p : Port) (c : CoilId) (s : State) : load p c (s.modCoil c Coil.turned) = load p c s := by
  unfold load
  rw [State.port_modCoil, State.coil_modCoil]; rfl

theorem load_sendResetOff (p : Port) (c : CoilId) (b : Bool) (s : State) :
    load p c (sendResetOff c b s) ≤ load p c s + 2 := by
  unfold sendResetOff
  split
  · cases h : (s.coil c).toggle with
    | none =>
      rw [formUntracked_absent h]
      have one := load_offerRecord p c false { kind := .injectOff, toggle := false } (s.modCoil c Coil.turned)
      have two := load_offerRecord p c false { kind := .injectOff, toggle := true }
        (offerRecord c false { kind := .injectOff, toggle := false } (s.modCoil c Coil.turned))
      rw [load_turned] at one
      omega
    | some b =>
      rw [formUntracked_toggle h]
      have one := load_offerRecord p c false { kind := .injectOff, toggle := !b } (s.modCoil c Coil.turned)
      rw [load_turned] at one
      omega
  · exact Nat.le_add_right _ _

/-- A record offered while others of its coil wait, and its port is UP, waits behind them. -/
theorem offerRecord_waits {b : Bool} {r : DriveRecord} (hw : (s.coil c).waiting ≠ []) (hr : (s.coil c).arrival = some p)
    (hl : (s.port p).link = .up) : offerRecord c b r s
      = s.modCoil c fun k => { k with waiting := (s.coil c).waiting ++ [{ tracked := b, record := r, route := .one p }] } := by
  have route : (s.coil c).route = .one p := by simp [Coil.route, hr]
  have up : s.routeDown (.one p) = false := by simp [State.routeDown, Route.ports, hl]
  have behind : (s.coil c).waiting.isEmpty = false := by simpa using hw
  unfold offerRecord
  rw [route]
  simp [up, behind, waitRecord, State.lostCopy]

/-- The INJECT_OFF of a coil whose kept records wait for an UP port waits behind the first of them. -/
theorem sendResetOff_waits (hw : (s.coil c).waiting = x :: rest) (hr : (s.coil c).arrival = some p)
    (hl : (s.port p).link = .up) (b : Bool) :
    (∃ rest', ((sendResetOff c b s).coil c).waiting = x :: rest') ∧ ∀ q, (sendResetOff c b s).port q = s.port q := by
  have turned : (s.modCoil c Coil.turned).coil c = (s.coil c).turned := State.coil_modCoil s c _
  have one (r : DriveRecord) := offerRecord_waits (b := false) (r := r) (s := s.modCoil c Coil.turned) (c := c) (p := p)
    (by rw [turned]; simp [Coil.turned, hw]) (by rw [turned]; exact hr) (by rw [State.port_modCoil]; exact hl)
  unfold sendResetOff
  split
  · cases h : (s.coil c).toggle with
    | none =>
      rw [formUntracked_absent h, one, offerRecord_waits (p := p) (by simp) (by rw [State.coil_modCoil, turned]; exact hr)
        (by rw [State.port_modCoil, State.port_modCoil]; exact hl)]
      simp [Coil.turned, hw]
    | some b =>
      rw [formUntracked_toggle h, one]
      simp [Coil.turned, hw]
  · exact ⟨⟨rest, hw⟩, fun _ => rfl⟩

/-- Turns that the waiting records of a coil may take before another's turn comes: one to enter, and one to lose a copy. -/
def turns : List Waiting → Nat
  | [] => 0
  | w :: ws => (match w.route with | .one _ => 1 | .both => 2) + turns ws

theorem turns_le (ws : List Waiting) : turns ws ≤ 2 * ws.length := by
  induction ws with
  | nil => exact le_rfl
  | cons w ws ih =>
    simp only [turns, List.length_cons]
    split <;> omega

theorem lostCopy_both {r : Route} (h : s.lostCopy r = some q) : r = .both := by
  cases r
  · cases h
  · rfl

/-- A turn of a coil whose waiting records are untracked uses one up, and adds nothing to queue and waiting list together. -/
theorem admitWaiting_uses (h : WaitsUntracked c s) (ha : admitWaiting c s = some t) :
    turns (t.coil c).waiting < turns (s.coil c).waiting ∧ load p c t ≤ load p c s := by
  cases hw : (s.coil c).waiting with
  | nil => rw [admitWaiting_nil hw] at ha; cases ha
  | cons w rest =>
    have hu : w.tracked = false := h w (by simp [hw])
    by_cases adm : s.admits c w = true
    · rw [admitWaiting_enters hw adm (by simp [hu])] at ha
      cases ha
      refine ⟨?_, ?_⟩
      · rw [waiting_enterRecord, State.coil_modCoil]
        simp only [turns]
        split <;> omega
      · have := originOccupancy_enter c w (s.modCoil c fun k => { k with waiting := rest }) p
        rw [State.port_modCoil] at this
        simp only [load, waiting_enterRecord, State.coil_modCoil, hw, List.length_cons]
        omega
    · simp only [admitWaiting, hw, adm] at ha
      obtain ⟨hl, ⟨⟩⟩ := Option.ite_none_right_eq_some.1 ha
      refine ⟨?_, ?_⟩
      · rcases waitRecord_cases c w (fun w => w :: rest) s with ⟨q, hq, e⟩ | ⟨hq, -⟩
        · rw [e, State.coil_modCoil]
          simp [turns, lostCopy_both hq]
        · rw [hq] at hl; cases hl
      · rw [load_waitRecord (n := rest.length + 1) _ _ _ _ (by simp), load, hw]
        exact le_rfl

/-- While coil 1's waiting records, all untracked, leave a place at coil 2's UP port, the first record of coil 2 that waits
for this port enters (R7). -/
theorem admitAll_enters_c2 (n : Nat) (h1 : WaitsUntracked .c1 s) (h2 : WaitsUntracked .c2 s)
    (hn : turns s.coil1.waiting < n) (hw : s.coil2.waiting = x :: rest) (hr : x.route = .one p)
    (hl : (s.port p).link = .up) (hload : load p .c1 s < Config.originPlaces) :
    .record .c2 x.tracked x.record ∈ ((admitAll n s).port p).origin := by
  induction n generalizing s with
  | zero => omega
  | succ n ih =>
    cases ha : admitWaiting .c1 s with
    | none =>
      have adm : s.admits .c2 x = true := by
        have : (s.port p).originOccupancy < Config.originPlaces := by unfold load at hload; omega
        simp [State.admits, hr, Route.ports, PortState.admits, this]
      have hu : x.tracked = false := h2 x (by rw [State.coil_c2, hw]; simp)
      rw [admitAll_succ_c2 ha (admitWaiting_enters hw adm (by simp [hu]))]
      refine (RecordStands.admitAll (recordStands_enterRecord (by simp [hr, Route.ports]) (by simp [hl])
        fun y hy => h2 y ?_) n).1
      rw [State.coil_c2, hw]; exact List.mem_cons_of_mem _ hy
    | some t =>
      have acts := admitWaiting_acts ha
      have same : t.coil2 = s.coil2 := acts.others .c2 (by simp)
      obtain ⟨used, hload'⟩ := admitWaiting_uses (p := p) h1 ha
      rw [admitAll_succ_c1 ha]
      refine ih (admitWaiting_untracked h1 ha).2.1 ?_ ?_ (by rw [same]; exact hw) ((acts.ports p).link.trans hl) (by omega)
      · unfold WaitsUntracked; rw [State.coil_c2, same]; exact h2
      · simp only [State.coil_c1] at used; omega

/-! The port of a coil through RESET_PART -/

theorem originOccupancy_resetPart {x : PortState} (h : x.origin = []) (k1 k2 : Coil) :
    (x.resetPart k1 k2).originOccupancy = 0 := by
  cases ht : x.tx <;> simp [PortState.resetPart, PortState.originOccupancy, Tx.released, h, ht]

theorem occupancy_resetBlocks (h : (s.port p).origin = []) : ((resetBlocks s).port p).originOccupancy = 0 := by
  rw [port_resetBlocks]; exact originOccupancy_resetPart h _ _

theorem waiting_resetPart {k : Coil} (h : k.waiting = []) : k.resetPart.waiting = [] := by
  simp [Coil.resetPart, Coil.initial, Coil.keepWaiting, h]

theorem waiting_resetBlocks (h : (s.coil c).waiting = []) : ((resetBlocks s).coil c).waiting = [] := by
  rw [coil_resetBlocks]; exact waiting_resetPart h

theorem load_resetBlocks (ho : (s.port p).origin = []) (hw : (s.coil c).waiting = []) : load p c (resetBlocks s) = 0 := by
  unfold load
  rw [occupancy_resetBlocks ho, waiting_resetBlocks hw]; rfl

theorem load_resetSent1 (ho : (s.port p).origin = []) (hw : s.coil1.waiting = []) : load p .c1 (resetSent1 s) ≤ 2 :=
  (load_sendResetOff p .c1 _ _).trans (by rw [load_resetBlocks (c := .c1) ho hw])

theorem resetSent1_coil2 (s : State) : (resetSent1 s).coil2 = s.coil2.resetPart :=
  (sendResetOff_acts .c1 _ (resetBlocks s)).others .c2 (by simp)

theorem link_resetSent1 (s : State) (p : Port) : ((resetSent1 s).port p).link = (s.port p).link :=
  ((sendResetOff_acts .c1 s.coil1.resetSends (resetBlocks s)).ports p).link.trans (by rw [port_resetBlocks]; rfl)

theorem link_resetSent2 (s : State) (p : Port) : ((resetSent2 s).port p).link = (s.port p).link :=
  ((sendResetOff_acts .c2 s.coil2.resetSends (resetSent1 s)).ports p).link.trans (link_resetSent1 s p)

/-- An INJECT_OFF whose toggle is known, of a coil with an UP arrival port, a free place there and nothing waiting. -/
theorem sendResetOff_enters {b : Bool} (ht : (s.coil c).toggle = some b) (hr : (s.coil c).arrival = some p)
    (hl : (s.port p).link = .up) (hw : (s.coil c).waiting = []) (ho : (s.port p).originOccupancy < Config.originPlaces) :
    .record c false { kind := .injectOff, toggle := !b } ∈ ((sendResetOff c true s).port p).origin := by
  have turned : (s.modCoil c Coil.turned).coil c = (s.coil c).turned := State.coil_modCoil s c _
  have route : (s.coil c).turned.route = .one p := by simp [Coil.route, Coil.turned, hr]
  rw [show sendResetOff c true s = formUntracked c .injectOff s from rfl, formUntracked_toggle ht, offerRecord_enters
    (by rw [turned]; exact hw) (by simp [route, State.admits, Route.ports, PortState.admits, ho]), port_enterRecord,
    if_pos (by simp [route, Route.ports]), State.port_modCoil]
  exact PortState.mem_enterRecord (by simp [hl])

/-- R130: the INJECT_OFF of an injecting coil stands in the queue of its arrival port. -/
theorem injectOff_mem_resetOffered {b : Bool} (hs : (s.coil c).heldInj ≠ .off) (ht : (s.coil c).toggle = some b)
    (hr : (s.coil c).arrival = some p) (hl : (s.port p).link = .up) (ho : (s.port p).origin = [])
    (hw : ∀ d, (s.coil d).waiting = []) :
    .record c false { kind := .injectOff, toggle := !b } ∈ ((resetOffered s).port p).origin := by
  have sends : (s.coil c).resetSends = true := (resetSends_iff _).2 hs
  have toggle : (s.coil c).resetPart.toggle = some b := by simp [Coil.resetPart, Coil.initial, sends, ht]
  have late := (resetSent2_to_offered s).ports p
  have two := (sendResetOff_untracked .c2 s.coil2.resetSends (resetSent1 s)).ports p
  rw [State.port_modCoil] at two
  cases c
  · refine late.stays _ (two.stays _ ?_ trivial) trivial
    have sends : s.coil1.resetSends = true := sends
    rw [resetSent1, sends]
    refine sendResetOff_enters (by rw [coil_resetBlocks]; exact toggle) (by rw [coil_resetBlocks]; exact hr)
      (by rw [port_resetBlocks]; exact hl) (waiting_resetBlocks (hw .c1)) ?_
    rw [occupancy_resetBlocks ho]; decide
  · refine late.stays _ ?_ trivial
    have sends : s.coil2.resetSends = true := sends
    have room := load_resetSent1 ho (hw .c1)
    rw [resetSent2, sends]
    refine sendResetOff_enters (by rw [State.coil_c2, resetSent1_coil2]; exact toggle)
      (by rw [State.coil_c2, resetSent1_coil2]; exact hr) ((link_resetSent1 s p).trans hl) ?_ ?_
    · rw [State.coil_c2, resetSent1_coil2]; exact waiting_resetPart (hw .c2)
    · unfold load at room
      simp only [Config.originPlaces]; omega

/-- The kept copies of a record in flight that waits: untracked, and routed to the arrival port (R14, R130). -/
theorem keepWaiting_cons {k : Coil} {f : InFlight} (hs : k.heldInj ≠ .off) (hr : k.arrival = some p) (hw : w ∈ k.waiting)
    (ht : w.tracked = true) (hf : k.inFlight = some f) (hfw : f.record = w.record) :
    ∃ rest, k.keepWaiting = { tracked := false, record := w.record, route := .one p } :: rest := by
  have sends : k.resetSends = true := (resetSends_iff _).2 hs
  have kept : { w with tracked := false, route := k.keptRoute w.route } ∈ k.keepWaiting :=
    List.mem_map.2 ⟨w, List.mem_filter.2 ⟨hw, by simp [ht, sends, Coil.isInFlight, hf, hfw]⟩, rfl⟩
  cases he : k.keepWaiting with
  | nil => rw [he] at kept; cases kept
  | cons y rest =>
    obtain ⟨z, hz, rfl⟩ := List.mem_map.1 (show y ∈ k.keepWaiting by rw [he]; simp)
    obtain ⟨-, same⟩ : z.tracked = true ∧ f.record = z.record := by
      simpa [sends, Coil.isInFlight, hf] using (List.mem_filter.1 hz).2
    exact ⟨rest, by simp [Coil.keptRoute, hr, ← hfw, same]⟩

/-- R14, R130: the kept record of an injecting coil, whose records alone wait, stands in the queue of its arrival port. -/
theorem kept_mem_resetOffered {f : InFlight} (hs : (s.coil c).heldInj ≠ .off) (hr : (s.coil c).arrival = some p)
    (hw : w ∈ (s.coil c).waiting) (ht : w.tracked = true) (hf : (s.coil c).inFlight = some f) (hfw : f.record = w.record)
    (hl : (s.port p).link = .up) (ho : (s.port p).origin = []) (others : ∀ d, d ≠ c → (s.coil d).waiting = []) :
    .record c false w.record ∈ ((resetOffered s).port p).origin := by
  obtain ⟨rest, kept⟩ := keepWaiting_cons hs hr hw ht hf hfw
  rw [resetOffered_eq]
  unfold admitRecords
  cases c
  · obtain ⟨⟨rest', first⟩, ports⟩ := sendResetOff_waits (s := resetBlocks s) (c := .c1) (p := p)
      (by rw [coil_resetBlocks]; exact kept) (by rw [coil_resetBlocks]; exact hr) (by rw [port_resetBlocks]; exact hl)
      s.coil1.resetSends
    have same : (resetSent2 s).coil1 = (resetSent1 s).coil1 :=
      (sendResetOff_acts .c2 _ (resetSent1 s)).others .c1 (by simp)
    have waits : ((resetSent2 s).coil .c1).waiting = { tracked := false, record := w.record, route := .one p } :: rest' := by
      rw [State.coil_c1, same]; exact first
    have room : ((resetSent2 s).port p).originOccupancy ≤ 2 := by
      have before : load p .c2 (resetSent1 s) = 0 := by
        unfold load
        rw [resetSent1, ports p, occupancy_resetBlocks ho, ← resetSent1, State.coil_c2, resetSent1_coil2,
          waiting_resetPart (show s.coil2.waiting = [] from others .c2 (by simp))]
        rfl
      have after := load_sendResetOff p .c2 s.coil2.resetSends (resetSent1 s)
      rw [before] at after
      exact (Nat.le_add_right _ _).trans after
    have adm : (resetSent2 s).admits .c1 { tracked := false, record := w.record, route := .one p } = true := by
      have : ((resetSent2 s).port p).originOccupancy < Config.originPlaces := by simp only [Config.originPlaces]; omega
      simp [State.admits, Route.ports, PortState.admits, this]
    rw [admitAll_enters waits (.inl rfl) adm (by simp)]
    refine ((recordStands_enterRecord (by simp [Route.ports]) (by simp [link_resetSent2, hl]) fun y hy => ?_).admitAll _).1
    exact resetSent2_waits s .c1 y (by rw [waits]; exact List.mem_cons_of_mem _ hy)
  · obtain ⟨⟨rest', first⟩, ports⟩ := sendResetOff_waits (s := resetSent1 s) (c := .c2) (p := p)
      (by rw [State.coil_c2, resetSent1_coil2]; exact kept) (by rw [State.coil_c2, resetSent1_coil2]; exact hr)
      ((link_resetSent1 s p).trans hl) s.coil2.resetSends
    have same : (resetSent2 s).coil1 = (resetSent1 s).coil1 :=
      (sendResetOff_acts .c2 _ (resetSent1 s)).others .c1 (by simp)
    have room : load p .c1 (resetSent2 s) ≤ 2 := by
      have : load p .c1 (resetSent2 s) = load p .c1 (resetSent1 s) := by
        unfold load
        rw [State.coil_c1, same, resetSent2, ports p]; rfl
      rw [this]
      exact load_resetSent1 ho (others .c1 (by simp))
    have turn := turns_le (resetSent2 s).coil1.waiting
    exact admitAll_enters_c2 _ (resetSent2_waits s .c1) (resetSent2_waits s .c2) (by omega) first rfl
      ((link_resetSent2 s p).trans hl) (by simp only [Config.originPlaces]; omega)

/-! The statement -/

theorem port_resetOffered (s : State) (p : Port) :
    ((resetOffered s).port p).agrees { (s.port p).resetPart s.coil1 s.coil2 with origin := [] }
      ∧ ((resetOffered s).port p).forward = [] := by
  have offers := (resetOffered_acts s).ports p
  rw [port_resetBlocks] at offers
  obtain ⟨h1, h2, h3, h4, h5, h6, h7, h8⟩ := offers.agrees
  exact ⟨⟨h1.symm, h2.symm, h3.symm, h4.symm, h5.symm, h6.symm, h7.symm, h8.symm⟩, offers.forward⟩

/-- Settles O48: the blocks take their values, the offers change ports and coils alone, and the queues that the reset leaves
have a place for what R130 sends. -/
theorem resetPartKeepsConfiguration : Obligations.ResetPartKeepsConfiguration := by
  intro s r b h hb
  subst hb
  have frame := resetPart_frame s
  refine ⟨resetPart s, congrArg Host.Outcome.next (act_serving h _), ?_⟩
  refine ⟨by rw [frame]; rfl, by rw [frame]; rfl, by rw [frame]; rfl, by rw [frame]; rfl, fun i => ?_, by rw [frame]; rfl,
    by rw [frame]; rfl, by rw [frame]; rfl, by rw [frame]; rfl, by rw [frame]; rfl, fun n => ?_, by rw [frame]; rfl,
    by rw [frame]; rfl, by rw [frame]; rfl, fun c => ?_, fun p => ?_, ?_, ?_⟩
  · rw [frame]; simp [State.slot, resetBlocks, Slot.resetPart]
  · rw [frame]; cases n <;> rfl
  · rw [coil_resetPart, coil_resetOffered]
    have sent : ∀ b k, Coil.sent b k = { k with toggle := if b then k.toggle.map fun t => !t else k.toggle } := by
      intro b k; cases b <;> rfl
    rw [sent]
    refine ⟨rfl, rfl, rfl, ⟨rfl, rfl, rfl, rfl, rfl, rfl, rfl, rfl, rfl, rfl⟩, rfl, rfl, rfl, ?_⟩
    by_cases hs : (s.coil c).heldInj = .off <;> simp [Coil.resetPart, Coil.initial, Coil.resetSends, hs]
  · obtain ⟨⟨hl, hla, hi, he, hout, hfd, hu, -⟩, hf⟩ := port_resetOffered s p
    rw [port_resetPart]
    exact ⟨hl.symm, hf, hi.symm, he.symm, hout.symm, hfd.symm, rfl, hu.symm, hla.symm⟩
  · intro c p t hs ht hr hl ho hw
    rw [port_resetPart]
    exact injectOff_mem_resetOffered hs ht hr hl ho hw
  · intro c p w f hs hr hw ht hf hfw hl ho others
    rw [port_resetPart]
    exact kept_mem_resetOffered hs hr hw ht hf hfw hl ho others

end Sys2Proof.Machine

/-! ### A section halts, and a coil fails (R110, R125, R136, R137, R147) -/

namespace Sys2Proof.Machine

variable {s t u : State} {c d : CoilId} {n m : SecId} {p : Port}

theorem DriveFrame.sec (h : DriveFrame s t) (n : SecId) : t.sec n = s.sec n := by rw [h]; cases n <;> rfl
theorem DriveFrame.coupler (h : DriveFrame s t) : t.coupler = s.coupler := by rw [h]
theorem DriveFrame.events (h : DriveFrame s t) : t.events = s.events := by rw [h]
theorem DriveFrame.ms (h : DriveFrame s t) : t.ms = s.ms := by rw [h]
theorem LinkFrame.sec (h : LinkFrame s t) (n : SecId) : t.sec n = s.sec n := by rw [h]; cases n <;> rfl
theorem LinkFrame.coil (h : LinkFrame s t) (c : CoilId) : t.coil c = s.coil c := by rw [h]; cases c <;> rfl
theorem LinkFrame.coupler (h : LinkFrame s t) : t.coupler = s.coupler := by rw [h]
theorem LinkFrame.ms (h : LinkFrame s t) : t.ms = s.ms := by rw [h]

theorem mem_summary_raise_of_mem {k : EventKind} (h : k ∈ s.events.summary) (j : EventKind) (o : Obj) :
    k ∈ (raise j o s).events.summary := by
  have filed (e : Source) : k ∈ (fileEvent e s).events.summary := by
    rw [summary_fileEvent]; exact mem_addKind_of_mem h
  unfold raise
  dsimp only
  split
  · exact mem_summary_offerNotice (mem_summary_offerNotice (filed _) _ _) _ _
  · exact filed _

/-! Section states -/

theorem sec_followSections (s : State) (n : SecId) :
    (followSections s).sec n = { s.sec n with sup := (s.sec n).sup.follow (s.supervised n) } := by
  cases n <;> rfl

theorem port_followSections (s : State) (p : Port) : (followSections s).port p = s.port p := by cases p <;> rfl

theorem coil_followSections (s : State) (c : CoilId) : (followSections s).coil c = s.coil c := by cases c <;> rfl

theorem events_followSections (s : State) : (followSections s).events = s.events := rfl

theorem coupler_followSections (s : State) : (followSections s).coupler = s.coupler := rfl

/-- A change of section state: state and entry time of the section, and what the supervisors make of it (R131). -/
theorem sec_setSectionState (n m : SecId) (st : SecState) (s : State) :
    ∃ v, (setSectionState n st s).sec m =
      if m = n then { s.sec m with state := st, entryTime := s.ms, sup := v } else { s.sec m with sup := v } := by
  refine ⟨((setSectionState n st s).sec m).sup, ?_⟩
  unfold setSectionState
  rw [sec_followSections]
  split
  · next h => rw [h, State.sec_modSec]
  · next h => rw [State.sec_modSec_other _ _ _ _ h]

theorem port_setSectionState (n : SecId) (st : SecState) (s : State) (p : Port) :
    (setSectionState n st s).port p = s.port p := (port_followSections _ p).trans (State.port_modSec s n _ p)

theorem coil_setSectionState (n : SecId) (st : SecState) (s : State) (c : CoilId) :
    (setSectionState n st s).coil c = s.coil c := (coil_followSections _ c).trans (State.coil_modSec s n _ c)

theorem coupler_setSectionState (n : SecId) (st : SecState) (s : State) : (setSectionState n st s).coupler = s.coupler :=
  (coupler_followSections _).trans (State.modSec_coupler s n _)

theorem events_setSectionState (n : SecId) (st : SecState) (s : State) : (setSectionState n st s).events = s.events :=
  (events_followSections _).trans (State.modSec_events s n _)

/-- The sections as the entry into HALTED leaves them (R136, R137). -/
def haltedSections (n : SecId) (cause : HaltCause) (s : State) : State :=
  (setSectionState n .halted (turnEngineOff n .state s)).modSec n fun x => { x with lastHalt := some cause }

theorem sec_haltedSections (n m : SecId) (cause : HaltCause) (s : State) :
    ∃ v, (haltedSections n cause s).sec m =
      if m = n then { s.sec m with state := .halted, entryTime := s.ms, sup := v, lastHalt := some cause
                                   engine := (s.sec m).engine.turnOff .state }
      else { s.sec m with sup := v } := by
  obtain ⟨v, e⟩ := sec_setSectionState n m .halted (turnEngineOff n .state s)
  refine ⟨v, ?_⟩
  unfold haltedSections
  by_cases h : m = n
  · subst h
    rw [if_pos rfl] at e ⊢
    rw [State.sec_modSec, e, turnEngineOff, State.sec_modSec, State.modSec_ms]
  · rw [if_neg h] at e ⊢
    rw [State.sec_modSec_other _ _ _ _ h, e, turnEngineOff, State.sec_modSec_other _ _ _ _ h]

theorem port_haltedSections (n : SecId) (cause : HaltCause) (s : State) (p : Port) :
    (haltedSections n cause s).port p = s.port p := by
  rw [haltedSections, State.port_modSec, port_setSectionState, turnEngineOff, State.port_modSec]

theorem coil_haltedSections (n : SecId) (cause : HaltCause) (s : State) (c : CoilId) :
    (haltedSections n cause s).coil c = s.coil c := by
  rw [haltedSections, State.coil_modSec, coil_setSectionState, turnEngineOff, State.coil_modSec]

theorem events_haltedSections (n : SecId) (cause : HaltCause) (s : State) :
    (haltedSections n cause s).events = s.events := by
  rw [haltedSections, State.modSec_events, events_setSectionState, turnEngineOff, State.modSec_events]

theorem coupler_haltedSections (n : SecId) (cause : HaltCause) (s : State) :
    (haltedSections n cause s).coupler = s.coupler := by
  rw [haltedSections, State.modSec_coupler, coupler_setSectionState, turnEngineOff, State.modSec_coupler]

/-- The entry into HALTED ends with the requests of the exit, and with JOIN_UNTUNED where R137 raises it. -/
theorem enterHalted_cases (n : SecId) (cause : HaltCause) (s : State) :
    enterHalted n cause s = stopAndSilence n (haltedSections n cause s)
      ∨ enterHalted n cause s = raise .joinUntuned (.busSection .s1) (stopAndSilence n (haltedSections n cause s)) := by
  unfold enterHalted
  dsimp only
  split
  · exact .inr rfl
  · exact .inl rfl

/-! A FAILED coil at rest takes no part in an exit -/

theorem takesRequests_failed {k : Coil} (h : k.failed = true) : k.takesRequests = false := by
  simp [Coil.takesRequests, Coil.state, h]

theorem clearTargets_rests (h : (s.coil c).pendMove = none) (cs : List CoilId) :
    (clearTargets cs s).coil c = s.coil c := by
  unfold clearTargets
  induction cs generalizing s with
  | nil => rfl
  | cons d cs ih =>
    have same : (clearTarget d s).coil c = s.coil c := by
      unfold clearTarget
      by_cases hd : c = d
      · subst hd; rw [modCoil_self (by rw [← h])]
      · exact State.coil_modCoil_other s d c _ hd
    exact (ih (by rw [same]; exact h)).trans same

theorem requestStops_rests (h : (s.coil c).move = none) (cs : List CoilId) :
    (requestStops cs s).coil c = s.coil c := by
  unfold requestStops
  induction cs generalizing s with
  | nil => rfl
  | cons d cs ih =>
    have same : (if (s.coil d).move.isSome then requestStop d s else s).coil c = s.coil c := by
      by_cases hd : c = d
      · subst hd; simp [h]
      · split
        · exact (requestStop_acts d s).others c hd
        · rfl
    exact (ih (by rw [same]; exact h)).trans same

theorem requestInjector_failed (h : (s.coil c).failed = true) (n : SecId) (q : InjReq) :
    (requestInjector n q s).coil c = s.coil c := by
  unfold requestInjector
  split
  · next d _ =>
    by_cases hd : c = d
    · subst hd; simp [requestInjection, takesRequests_failed h]
    · exact (requestInjection_acts d q s).others c hd
  · rfl

theorem stopAndSilence_rests (hf : (s.coil c).failed = true) (hm : (s.coil c).move = none)
    (hp : (s.coil c).pendMove = none) (n : SecId) : (stopAndSilence n s).coil c = s.coil c := by
  unfold stopAndSilence
  have one := clearTargets_rests hp (s.drives n)
  have two := requestStops_rests (s := clearTargets (s.drives n) s) (c := c) (by rw [one]; exact hm) (s.drives n)
  rw [requestInjector_failed (by rw [two, one]; exact hf), two, one]

/-- A halting event that finds a coil FAILED and at rest: it leaves this coil, the coupler, and what a section keeps of its
measurements; the queues keep their untracked records, and the summary its kinds. -/
structure HaltActs (c : CoilId) (s t : State) : Prop where
  coil : t.coil c = s.coil c
  ports : ∀ p, (s.port p).Offers (fun m => ∀ c, m.isTracked c = false) (t.port p)
  coupler : t.coupler = s.coupler
  summary : ∀ k ∈ s.events.summary, k ∈ t.events.summary
  kept : ∀ n, (t.sec n).ring = (s.sec n).ring ∧ (t.sec n).estimate = (s.sec n).estimate
    ∧ (t.sec n).settings = (s.sec n).settings

theorem HaltActs.refl (c : CoilId) (s : State) : HaltActs c s s :=
  ⟨rfl, fun _ => .refl _ _, rfl, fun _ h => h, fun _ => ⟨rfl, rfl, rfl⟩⟩

theorem HaltActs.trans (h : HaltActs c s t) (h' : HaltActs c t u) : HaltActs c s u where
  coil := h'.coil.trans h.coil
  ports p := (h.ports p).trans (h'.ports p)
  coupler := h'.coupler.trans h.coupler
  summary k hk := h'.summary k (h.summary k hk)
  kept n := by
    obtain ⟨h1, h2, h3⟩ := h.kept n
    obtain ⟨g1, g2, g3⟩ := h'.kept n
    exact ⟨g1.trans h1, g2.trans h2, g3.trans h3⟩

theorem raise_haltActs (c : CoilId) (k : EventKind) (o : Obj) (s : State) : HaltActs c s (raise k o s) where
  coil := (raise_frame k o s).coil c
  ports p := ((raise_acts k o s).ports p).mono fun _ _ => trivial
  coupler := (raise_frame k o s).coupler
  summary _ h := mem_summary_raise_of_mem h k o
  kept n := by rw [(raise_frame k o s).sec n]; exact ⟨rfl, rfl, rfl⟩

theorem DriveActs.haltActs (h : DriveActs s t) (hc : t.coil c = s.coil c) : HaltActs c s t where
  coil := hc
  ports := h.ports
  coupler := h.frame.coupler
  summary k hk := by rw [h.frame.events]; exact hk
  kept n := by rw [h.frame.sec n]; exact ⟨rfl, rfl, rfl⟩

theorem haltedSections_haltActs (c : CoilId) (n : SecId) (cause : HaltCause) (s : State) :
    HaltActs c s (haltedSections n cause s) where
  coil := coil_haltedSections n cause s c
  ports p := by rw [port_haltedSections]; exact .refl _ _
  coupler := coupler_haltedSections n cause s
  summary k hk := by rw [events_haltedSections]; exact hk
  kept m := by
    obtain ⟨v, e⟩ := sec_haltedSections n m cause s
    rw [e]
    split <;> exact ⟨rfl, rfl, rfl⟩

theorem recordJoinedHalt_haltActs (c : CoilId) (cause : HaltCause) (s : State) : HaltActs c s (recordJoinedHalt cause s) where
  coil := by cases c <;> rfl
  ports p := by cases p <;> exact .refl _ _
  coupler := rfl
  summary _ h := h
  kept n := by cases n <;> exact ⟨rfl, rfl, rfl⟩

theorem enterHalted_haltActs (hf : (s.coil c).failed = true) (hr : (s.coil c).rests) (n : SecId) (cause : HaltCause) :
    HaltActs c s (enterHalted n cause s) := by
  obtain ⟨-, hm, hp, -⟩ := hr
  have same := coil_haltedSections n cause s c
  have exits : HaltActs c s (stopAndSilence n (haltedSections n cause s)) :=
    (haltedSections_haltActs c n cause s).trans ((stopAndSilence_acts n _).haltActs
      (stopAndSilence_rests (by rw [same]; exact hf) (by rw [same]; exact hm) (by rw [same]; exact hp) n))
  rcases enterHalted_cases n cause s with e | e <;> rw [e]
  · exact exits
  · exact exits.trans (raise_haltActs c _ _ _)

theorem haltSection_haltActs (hf : (s.coil c).failed = true) (hr : (s.coil c).rests) (n : SecId) (cause : HaltCause) :
    HaltActs c s (haltSection n cause s) := by
  unfold haltSection
  split
  case h_8 => exact recordJoinedHalt_haltActs c cause s
  case h_6 | h_7 => exact .refl c s
  all_goals exact enterHalted_haltActs hf hr n cause

theorem haltSection_active (h : (s.sec n).state.active = true) (cause : HaltCause) :
    haltSection n cause s = enterHalted n cause s := by
  unfold haltSection
  split <;> simp_all [SecState.active]

theorem haltSection_still (h : (s.sec n).state = .disabled ∨ (s.sec n).state = .halted) (cause : HaltCause) :
    haltSection n cause s = s := by
  rcases h with h | h <;> simp [haltSection, h]

/-- The section that halts (R136, R137). -/
theorem sec_enterHalted (n m : SecId) (cause : HaltCause) (s : State) :
    (enterHalted n cause s).sec m = (haltedSections n cause s).sec m := by
  have exits := (stopAndSilence_acts n (haltedSections n cause s)).frame.sec m
  rcases enterHalted_cases n cause s with e | e <;> rw [e]
  · exact exits
  · exact ((raise_frame _ _ _).sec m).trans exits

/-! The untracked records of a failing coil -/

/-- Where an untracked record stands or waits it goes on to do so. -/
theorem Offered.mono {r : DriveRecord} (h : Offered c r s t)
    (hw : ∀ w ∈ (t.coil c).waiting, w.tracked = false →
      ∃ w' ∈ (u.coil c).waiting, w'.tracked = false ∧ w'.record = w.record)
    (hp : ∀ p, .record c false r ∈ (t.port p).origin → .record c false r ∈ (u.port p).origin) : Offered c r s u := by
  rcases h with ⟨w, hm, ht, rfl⟩ | h
  · obtain ⟨w', hm', ht', hr'⟩ := hw w hm ht
    exact .inl ⟨w', hm', ht', hr'⟩
  · exact .inr fun p hr hl => hp p (h p hr hl)

/-- An offer is judged by the route of its coil and the links at the time. -/
theorem Offered.of_base {r : DriveRecord} (h : Offered c r s u) (hr : (t.coil c).route = (s.coil c).route)
    (hl : ∀ p, (t.port p).link = (s.port p).link) : Offered c r t u := by
  refine h.imp_right fun h p hp hu => h p (hr ▸ hp) (hl p ▸ hu)

theorem offerRecord_keepsWaiting {w : Waiting} (h : w ∈ (s.coil c).waiting) (b : Bool) (r : DriveRecord) :
    w ∈ ((offerRecord c b r s).coil c).waiting := by
  rcases offerRecord_cases c b r s with ⟨-, e⟩ | e <;> rw [e]
  · rw [waiting_enterRecord]; exact h
  · rcases waitRecord_cases c { tracked := b, record := r, route := (s.coil c).route } (fun w => (s.coil c).waiting ++ [w]) s
      with ⟨q, -, e⟩ | ⟨-, e⟩ <;> (rw [e, State.coil_modCoil]; exact List.mem_append_left _ h)

theorem offerRecord_offered (c : CoilId) (r : DriveRecord) (s : State) : Offered c r s (offerRecord c false r s) := by
  rcases offerRecord_cases c false r s with ⟨-, e⟩ | e <;> rw [e]
  · refine .inr fun p hp hl => ?_
    rw [port_enterRecord, if_pos hp]
    exact PortState.mem_enterRecord (by simp [hl])
  · refine .inl ?_
    rcases waitRecord_cases c { tracked := false, record := r, route := (s.coil c).route }
        (fun w => (s.coil c).waiting ++ [w]) s with ⟨q, -, e⟩ | ⟨-, e⟩ <;> rw [e, State.coil_modCoil]
    · exact ⟨_, List.mem_append_right _ (List.mem_singleton.2 rfl), rfl, rfl⟩
    · exact ⟨_, List.mem_append_right _ (List.mem_singleton.2 rfl), rfl, rfl⟩

/-- An offer of an untracked record leaves those before it offered. -/
theorem Offered.offerRecord {r : DriveRecord} (h : Offered c r s t) (r' : DriveRecord) :
    Offered c r s (offerRecord c false r' t) :=
  h.mono (fun w hw ht => ⟨w, offerRecord_keepsWaiting hw _ _, ht, rfl⟩)
    fun p hp => ((offerRecord_untracked c r' t).ports p).stays _ hp trivial

theorem Offered.turned {r : DriveRecord} (h : Offered c r s t) : Offered c r s (t.modCoil c Coil.turned) :=
  h.mono (fun w hw ht => ⟨w, by rw [State.coil_modCoil]; exact hw, ht, rfl⟩)
    fun p hp => by rw [State.port_modCoil]; exact hp

theorem Offered.formUntracked {r : DriveRecord} (h : Offered c r s t) (k : RecordKind) :
    Offered c r s (formUntracked c k t) := by
  cases ht : (t.coil c).toggle with
  | none => rw [formUntracked_absent ht]; exact (h.turned.offerRecord _).offerRecord _
  | some b => rw [formUntracked_toggle ht]; exact h.turned.offerRecord _

/-- An untracked record of this kind is on its way with the next toggle, or with both while the toggle is absent (R110). -/
def SentUntracked (c : CoilId) (k : RecordKind) (x : Option Bool) (s u : State) : Prop :=
  match x with
  | some t => Offered c { kind := k, toggle := !t } s u
  | none => Offered c { kind := k, toggle := false } s u ∧ Offered c { kind := k, toggle := true } s u

theorem SentUntracked.imp {k : RecordKind} {x : Option Bool} (h : SentUntracked c k x s t)
    (f : ∀ r, Offered c r s t → Offered c r s u) : SentUntracked c k x s u := by
  cases x with
  | none => exact ⟨f _ h.1, f _ h.2⟩
  | some b => exact f _ h

theorem formUntracked_sends (c : CoilId) (k : RecordKind) (s : State) :
    SentUntracked c k (s.coil c).toggle s (formUntracked c k s) := by
  have base {r : DriveRecord} {u : State} (h : Offered c r (s.modCoil c Coil.turned) u) : Offered c r s u :=
    h.of_base (by rw [State.coil_modCoil]; rfl) fun p => by rw [State.port_modCoil]
  cases ht : (s.coil c).toggle with
  | none =>
    rw [formUntracked_absent ht]
    have first := offerRecord_offered c { kind := k, toggle := false } (s.modCoil c Coil.turned)
    have second := offerRecord_offered c { kind := k, toggle := true }
      (offerRecord c false { kind := k, toggle := false } (s.modCoil c Coil.turned))
    have acts := offerRecord_acts c false { kind := k, toggle := false } (s.modCoil c Coil.turned)
    obtain ⟨-, -, -, -, -, arrival⟩ := acts.own
    exact ⟨base (first.offerRecord _), base (second.of_base (by unfold Coil.route; rw [arrival]) fun p => (acts.ports p).link.symm)⟩
  | some b =>
    rw [formUntracked_toggle ht]
    exact base (offerRecord_offered c _ _)

/-- An operation of the drive link keeps the route and the links by which offers are judged. -/
theorem CoilActs.offered_base (acts : CoilActs c s t) {r : DriveRecord} (h : Offered c r t u) : Offered c r s u := by
  obtain ⟨-, -, -, -, -, arrival⟩ := acts.own
  exact h.of_base (by unfold Coil.route; rw [arrival]) fun p => (acts.ports p).link.symm

theorem toggle_formUntracked (c : CoilId) (k : RecordKind) (s : State) :
    ((formUntracked c k s).coil c).toggle = (s.coil c).toggle.map fun t => !t := by
  rw [(formUntracked_untracked c k s).coils c, State.coil_modCoil]; rfl

/-- The STOP of a failing coil, and its INJECT_OFF with the toggle after it (R110, R125). -/
theorem sendSafe_sends (c : CoilId) (s : State) :
    ((s.coil c).move.isSome = true → SentUntracked c .stop (s.coil c).toggle s (sendSafe c s))
    ∧ ((s.coil c).heldInj ≠ .off → SentUntracked c .injectOff
        (if (s.coil c).move.isSome then (s.coil c).toggle.map fun t => !t else (s.coil c).toggle) s (sendSafe c s)) := by
  cases hm : (s.coil c).move.isSome
  · have safe : sendSafe c s = if (s.coil c).heldInj ≠ .off then formUntracked c .injectOff s else s := by
      simp [sendSafe, hm]
    refine ⟨fun h => absurd h (by simp), fun hh => ?_⟩
    rw [safe, if_pos hh]
    exact formUntracked_sends c .injectOff s
  · have stop := formUntracked_sends c .stop s
    have acts := formUntracked_acts c .stop s
    have held : ((formUntracked c .stop s).coil c).heldInj = (s.coil c).heldInj := by
      rw [(formUntracked_untracked c .stop s).coils c, State.coil_modCoil]; rfl
    have safe : sendSafe c s = if (s.coil c).heldInj ≠ .off then formUntracked c .injectOff (formUntracked c .stop s)
        else formUntracked c .stop s := by
      simp [sendSafe, hm, held]
    rw [safe]
    refine ⟨fun _ => ?_, fun hh => ?_⟩
    · split
      · exact stop.imp fun _ h => h.formUntracked _
      · exact stop
    · rw [if_pos hh, if_pos rfl, ← toggle_formUntracked c .stop s]
      have off := formUntracked_sends c .injectOff (formUntracked c .stop s)
      unfold SentUntracked at off ⊢
      split at off
      · exact acts.offered_base off
      · exact ⟨acts.offered_base off.1, acts.offered_base off.2⟩

/-- A coil has sent what makes its drive safe, and stands FAILED and at rest; its section has not been told yet (R125). -/
def failedAlone (c : CoilId) (k : EventKind) (s : State) : State :=
  (untrackQueues c (sendSafe c (raise k (.coil c) s))).modCoil c Coil.enterFailed

theorem Offered.failed {r : DriveRecord} (h : Offered c r s t) :
    Offered c r s ((untrackQueues c t).modCoil c Coil.enterFailed) := by
  have coil : (untrackQueues c t).coil c = t.coil c := by cases c <;> rfl
  refine h.mono (fun w hw ht => ?_) fun p hp => ?_
  · rw [State.coil_modCoil, coil]
    exact ⟨{ w with tracked := false }, List.mem_map.2 ⟨w, hw, rfl⟩, rfl, rfl⟩
  · rw [State.port_modCoil]
    have same : untrack c (.record c false r) = .record c false r := by simp [untrack]
    cases p <;> exact List.mem_map.2 ⟨_, hp, same⟩

theorem Offered.halted {r : DriveRecord} (h : Offered c r s t) (acts : HaltActs c t u) : Offered c r s u := by
  refine h.mono (fun w hw ht => ?_) fun p hp => (acts.ports p).stays _ hp fun d => by simp [OriginMsg.isTracked]
  rw [acts.coil]
  exact ⟨w, hw, ht, rfl⟩

theorem coil_failedAlone (c : CoilId) (k : EventKind) (s : State) :
    (failedAlone c k s).coil c = ((sendSafe c (raise k (.coil c) s)).coil c).enterFailed := by
  unfold failedAlone
  rw [State.coil_modCoil]
  cases c <;> rfl

theorem rests_enterFailed (k : Coil) : k.enterFailed.rests := ⟨rfl, rfl, rfl, rfl, rfl, rfl, rfl, rfl, rfl, rfl⟩

theorem untrackQueues_frame (c : CoilId) (s : State) : DriveFrame s (untrackQueues c s) := rfl

theorem failedAlone_frame (c : CoilId) (k : EventKind) (s : State) :
    DriveFrame (raise k (.coil c) s) (failedAlone c k s) :=
  ((sendSafe_frame c _).trans (untrackQueues_frame c _)).trans (.modCoil _ c Coil.enterFailed)

theorem sec_failedAlone (c : CoilId) (k : EventKind) (s : State) (n : SecId) : (failedAlone c k s).sec n = s.sec n := by
  rw [(failedAlone_frame c k s).sec, (raise_frame k _ s).sec]

theorem coupler_failedAlone (c : CoilId) (k : EventKind) (s : State) : (failedAlone c k s).coupler = s.coupler := by
  rw [(failedAlone_frame c k s).coupler, (raise_frame k _ s).coupler]

theorem summary_failedAlone (c : CoilId) (k : EventKind) (s : State) : k ∈ (failedAlone c k s).events.summary := by
  rw [(failedAlone_frame c k s).events]
  exact mem_summary_raise k _ s

theorem ms_failedAlone (c : CoilId) (k : EventKind) (s : State) : (failedAlone c k s).ms = s.ms := by
  rw [(failedAlone_frame c k s).ms, (raise_frame k _ s).ms]

theorem driver_failedAlone (c : CoilId) (k : EventKind) (s : State) (d : CoilId) :
    (failedAlone c k s).driver d = s.driver d := by
  unfold State.driver State.joined
  rw [coupler_failedAlone]

/-- The section that drives the coil is told, and after it a JOINED section 2 of its own coil (R137, R147). -/
theorem failCoil_cases (c : CoilId) (k : EventKind) (s : State) :
    let v := haltSection (s.driver c) { kind := k, obj := .coil c, time := s.ms } (failedAlone c k s)
    failCoil c k s = v
      ∨ v.sec2.state = .joined ∧ failCoil c k s = recordJoinedHalt { kind := k, obj := .coil c, time := s.ms } v := by
  intro v
  have told : failCoil c k s = if c = .c2 ∧ v.sec2.state = .joined
      then recordJoinedHalt { kind := k, obj := .coil c, time := s.ms } v else v := by
    have driver := driver_failedAlone c k s c
    unfold failedAlone at driver
    simp only [v, ← driver]
    rfl
  rw [told]
  split
  · next h => exact .inr ⟨h.2, rfl⟩
  · exact .inl rfl

theorem failCoil_haltActs (c : CoilId) (k : EventKind) (s : State) : HaltActs c (failedAlone c k s) (failCoil c k s) := by
  have coil := coil_failedAlone c k s
  have halts := haltSection_haltActs (s := failedAlone c k s) (c := c) (by rw [coil]; rfl)
    (by rw [coil]; exact rests_enterFailed _) (s.driver c) { kind := k, obj := .coil c, time := s.ms }
  rcases failCoil_cases c k s with e | ⟨-, e⟩ <;> rw [e]
  · exact halts
  · exact halts.trans (recordJoinedHalt_haltActs c _ _)

/-- A state that the driving section had or reached stands, whether or not section 2 records the halt as well. -/
theorem sec_failCoil (c : CoilId) (k : EventKind) (s : State) {n : SecId} (h :
    ((haltSection (s.driver c) { kind := k, obj := .coil c, time := s.ms } (failedAlone c k s)).sec n).state ≠ .joined) :
    (failCoil c k s).sec n
      = (haltSection (s.driver c) { kind := k, obj := .coil c, time := s.ms } (failedAlone c k s)).sec n := by
  rcases failCoil_cases c k s with e | ⟨hj, e⟩ <;> rw [e]
  cases n
  · rfl
  · exact absurd hj h

theorem failCoil_halts (k : EventKind) (h : (s.sec (s.driver c)).state.active = true) :
    ((failCoil c k s).sec (s.driver c)).state = .halted ∧ ((failCoil c k s).sec (s.driver c)).entryTime = s.ms
      ∧ ((failCoil c k s).sec (s.driver c)).lastHalt = some { kind := k, obj := .coil c, time := s.ms }
      ∧ ((failCoil c k s).sec (s.driver c)).engine.state = .off := by
  obtain ⟨v, e⟩ := sec_haltedSections (s.driver c) (s.driver c) { kind := k, obj := .coil c, time := s.ms } (failedAlone c k s)
  rw [if_pos rfl, ← sec_enterHalted, ← haltSection_active (by rw [sec_failedAlone]; exact h)] at e
  rw [sec_failCoil c k s (by rw [e]; simp), e]
  exact ⟨rfl, ms_failedAlone c k s, rfl, rfl⟩

theorem failCoil_still (k : EventKind) (h : (s.sec (s.driver c)).state = .disabled ∨ (s.sec (s.driver c)).state = .halted) :
    ((failCoil c k s).sec (s.driver c)).state = (s.sec (s.driver c)).state := by
  have still := haltSection_still (s := failedAlone c k s) (n := s.driver c) (by rw [sec_failedAlone]; exact h)
    { kind := k, obj := .coil c, time := s.ms }
  have same : ((haltSection (s.driver c) { kind := k, obj := .coil c, time := s.ms } (failedAlone c k s)).sec (s.driver c)).state
      = (s.sec (s.driver c)).state := by rw [still, sec_failedAlone]
  have other : (s.sec (s.driver c)).state ≠ .joined := by rcases h with h | h <;> simp [h]
  rw [sec_failCoil c k s (same ▸ other), same]

/-- A coil that fails has done what R125 asks, whatever the cause. -/
theorem failCoil_failedWith (c : CoilId) (k : EventKind) (s : State) : FailedWith k c s (failCoil c k s) := by
  have acts := failCoil_haltActs c k s
  have coil := acts.coil.trans (coil_failedAlone c k s)
  have raised := (raise_frame k (.coil c) s).coil c
  have base {r : DriveRecord} {u : State} (h : Offered c r (raise k (.coil c) s) u) : Offered c r s u :=
    h.of_base (by rw [raised]) fun p => ((raise_acts k (.coil c) s).ports p).link.symm
  have lasts {r : DriveRecord} (h : Offered c r (raise k (.coil c) s) (sendSafe c (raise k (.coil c) s))) :
      Offered c r s (failCoil c k s) := base (h.failed.halted acts)
  obtain ⟨stops, silences⟩ := sendSafe_sends c (raise k (.coil c) s)
  rw [raised] at stops silences
  have frame := failCoil_frame c k s
  refine ⟨by rw [coil]; rfl, by rw [coil]; exact rests_enterFailed _, acts.summary k (summary_failedAlone c k s),
    fun hm => ?_, fun hh => ?_, failCoil_halts k, failCoil_still k, fun n => ?_, by rw [frame],
    acts.coupler.trans (coupler_failedAlone c k s), by rw [frame], by rw [frame]⟩
  · have sent := stops hm
    cases ht : (s.coil c).toggle with
    | none => rw [ht] at sent; exact ⟨lasts sent.1, lasts sent.2⟩
    | some t => rw [ht] at sent; exact lasts sent
  · have sent := silences hh
    cases ht : (s.coil c).toggle with
    | none =>
      rw [ht, Option.map_none, ite_self] at sent
      exact ⟨lasts sent.1, lasts sent.2⟩
    | some t =>
      cases hm : (s.coil c).move.isSome
      · rw [ht, hm] at sent; exact lasts sent
      · rw [ht, hm] at sent
        have off : Offered c { kind := .injectOff, toggle := !!t } _ _ := sent
        rw [Bool.not_not] at off
        exact lasts off
  · obtain ⟨h1, h2, h3⟩ := acts.kept n
    rw [sec_failedAlone] at h1 h2 h3
    exact ⟨h1, h2, h3⟩

end Sys2Proof.Machine

/-! ### The treatment of a status record (R31, R63, R64, R110, R120, R124, R125) -/

namespace Sys2Proof.Machine

variable {s t u : State} {c d : CoilId} {n m : SecId} {r : StatusRecord}

/-! What the steps of the treatment keep of the coil -/

theorem coil_raise (k : EventKind) (o : Obj) (s : State) (c : CoilId) : (raise k o s).coil c = s.coil c :=
  (raise_frame k o s).coil c

theorem coil_engineSeesStatus (n : SecId) (c : CoilId) (r : StatusRecord) (s : State) (d : CoilId) :
    (engineSeesStatus n c r s).coil d = s.coil d := by
  unfold engineSeesStatus
  split
  · rfl
  · split
    · exact State.coil_modSec _ _ _ _
    · split
      · exact State.coil_modSec _ _ _ _
      · rfl

theorem agrees_modCoil {f : Coil → Coil} (h : (s.coil c).agrees (f (s.coil c))) :
    (s.coil c).agrees ((s.modCoil c f).coil c) := by
  rwa [State.coil_modCoil]

theorem agrees_of_eq (h : t.coil c = s.coil c) : (s.coil c).agrees (t.coil c) := h ▸ .refl _

theorem clearMove_agrees (c : CoilId) (s : State) : (s.coil c).agrees ((clearMove c s).coil c) :=
  agrees_modCoil ⟨rfl, rfl, rfl, rfl, rfl, rfl⟩

theorem moveStopped_agrees (c : CoilId) (s : State) : (s.coil c).agrees ((moveStopped c s).coil c) :=
  (clearMove_agrees c s).trans (agrees_of_eq ((State.coil_modSec _ _ _ c).trans (State.coil_modSec _ _ _ c)))

theorem moveDone_agrees (c : CoilId) (s : State) : (s.coil c).agrees ((moveDone c s).coil c) :=
  (clearMove_agrees c s).trans (agrees_of_eq ((State.coil_modSec _ _ _ c).trans (coil_raise _ _ _ c)))

theorem acceptKind_agrees (c : CoilId) (k : RecordKind) (s : State) : (s.coil c).agrees ((acceptKind c k s).coil c) := by
  unfold acceptKind
  split
  · refine agrees_modCoil ?_
    split <;> exact ⟨rfl, rfl, rfl, rfl, rfl, rfl⟩
  · split
    · exact moveStopped_agrees c s
    · exact .refl _
  · exact agrees_modCoil ⟨rfl, rfl, rfl, rfl, rfl, rfl⟩
  · exact agrees_modCoil ⟨rfl, rfl, rfl, rfl, rfl, rfl⟩

theorem testAcceptance_agrees (c : CoilId) (e : Bool) (s : State) : (s.coil c).agrees ((testAcceptance c e s).coil c) := by
  unfold testAcceptance
  split
  · exact .refl _
  · split
    · exact Coil.agrees.trans (agrees_modCoil ⟨rfl, rfl, rfl, rfl, rfl, rfl⟩) (acceptKind_agrees c _ _)
    · exact .refl _

theorem testArrival_agrees (c : CoilId) (r : StatusRecord) (s : State) :
    (s.coil c).agrees ((testArrival c r s).coil c) := by
  unfold testArrival
  split
  · exact .refl _
  · dsimp only
    split
    · exact Coil.agrees.trans (agrees_modCoil ⟨rfl, rfl, rfl, rfl, rfl, rfl⟩) (moveDone_agrees c _)
    · exact agrees_modCoil ⟨rfl, rfl, rfl, rfl, rfl, rfl⟩

theorem coil_injectionConfirmed (n : SecId) (s : State) (c : CoilId) : (injectionConfirmed n s).coil c = s.coil c := by
  unfold injectionConfirmed
  split
  · exact (State.coil_modSec _ _ _ c).trans (coil_setSectionState n .measuring s c)
  · rfl

theorem testConfirmed_agrees (c : CoilId) (r : StatusRecord) (s : State) :
    (s.coil c).agrees ((testConfirmed c r s).coil c) := by
  unfold testConfirmed
  split
  · split
    · exact Coil.agrees.trans (agrees_modCoil ⟨rfl, rfl, rfl, rfl, rfl, rfl⟩)
        (agrees_of_eq (coil_injectionConfirmed c.sec _ c))
    · exact .refl _
  · exact .refl _

/-- A section as its start leaves it, before the injection is asked for (R133). -/
def startedSections (n : SecId) (s : State) : State := (setSectionState n .starting s).modSec n Section.started

theorem enterStarting_acts (n : SecId) (s : State) : DriveActs (startedSections n s) (enterStarting n s) :=
  requestInjector_acts n _ _

theorem coil_startedSections (n : SecId) (s : State) (c : CoilId) : (startedSections n s).coil c = s.coil c :=
  (State.coil_modSec _ n _ c).trans (coil_setSectionState n .starting s c)

theorem injectionLost_agrees (n : SecId) (s : State) (c : CoilId) : (s.coil c).agrees ((injectionLost n s).coil c) := by
  unfold injectionLost
  split
  · exact ((agrees_of_eq (coil_raise _ _ s c)).trans ((clearTargets_acts _ _).coils c)).trans
      ((agrees_of_eq (coil_startedSections n _ c)).trans ((enterStarting_acts n _).coils c))
  · exact .refl _

theorem testLost_agrees (c : CoilId) (r : StatusRecord) (s : State) : (s.coil c).agrees ((testLost c r s).coil c) := by
  unfold testLost
  split
  · split
    · exact .refl _
    · exact Coil.agrees.trans (agrees_modCoil ⟨rfl, rfl, rfl, rfl, rfl, rfl⟩) (injectionLost_agrees _ _ c)
  · exact .refl _
  · exact .refl _

/-- A coil that fails keeps its reported state and its arrival port (R125). -/
theorem failCoil_keepsReport (c : CoilId) (k : EventKind) (s : State) :
    ((failCoil c k s).coil c).failed = true ∧ ((failCoil c k s).coil c).reported = (s.coil c).reported
      ∧ ((failCoil c k s).coil c).arrival = (s.coil c).arrival := by
  obtain ⟨-, -, -, -, reported, arrival⟩ := (sendSafe_acts c (raise k (.coil c) s)).own
  rw [(failCoil_haltActs c k s).coil, coil_failedAlone]
  exact ⟨rfl, reported.trans (by rw [coil_raise]), arrival.trans (by rw [coil_raise])⟩

/-! The three outcomes of step 4 (R120, R124) -/

/-- A move whose target lies strictly inside the table range cannot be what holds an end-stop (R120). -/
theorem insideTableRange_iff (ts : List TablePoint) (q : Nat) : insideTableRange ts q = true ↔
    ∃ x y, ts.head? = some x ∧ ts.getLast? = some y ∧ x.pos < q ∧ q < y.pos := by
  unfold insideTableRange tableEnds
  cases hx : ts.head? <;> cases hy : ts.getLast? <;> simp

theorem finishStatus_failed (h : (s.coil c).failed = true) (r : StatusRecord) : finishStatus c r s = s := by
  simp [finishStatus, h]

theorem finishStatus_ok (h : (s.coil c).failed = false) (r : StatusRecord) :
    finishStatus c r s = takePending c (testLost c r (testConfirmed c r (testArrival c r s))) := by
  simp [finishStatus, h]

/-- The end-stop of step 4 for the move in flight of `s`, by the table of its coil (R120). -/
def EndStops (c : CoilId) (r : StatusRecord) (s : State) (v : Move) : Prop :=
  (r.lower = true ∨ r.upper = true)
    ∧ ∃ x y, (s.coil c).table.head? = some x ∧ (s.coil c).table.getLast? = some y ∧ x.pos < v.target ∧ v.target < y.pos

theorem endStops_iff (c : CoilId) (r : StatusRecord) (s : State) (v : Move) :
    ((r.lower || r.upper) && insideTableRange (s.coil c).table v.target) = true ↔ EndStops c r s v := by
  rw [Bool.and_eq_true, Bool.or_eq_true, insideTableRange_iff]; rfl

theorem testFailure_faulted (h : r.motion = .haltedFault) : testFailure c r s = failCoil c .driveFaulted s := by
  simp [testFailure, h]

theorem testFailure_endStop (h : r.motion ≠ .haltedFault) {v : Move} (hv : (s.coil c).move = some v) (he : EndStops c r s v) :
    testFailure c r s = failCoil c .endStop s := by
  unfold testFailure
  rw [if_neg h]
  simp only [hv]
  rw [if_pos ((endStops_iff c r s v).2 he)]

theorem testFailure_passes (h : r.motion ≠ .haltedFault) (he : ∀ v, (s.coil c).move = some v → ¬ EndStops c r s v) :
    testFailure c r s = s := by
  unfold testFailure
  rw [if_neg h]
  split
  · next v hv => rw [if_neg fun hc => he v hv ((endStops_iff c r s v).1 hc)]
  · rfl

theorem testFailure_cases (c : CoilId) (r : StatusRecord) (s : State) :
    testFailure c r s = s ∨ ∃ k, testFailure c r s = failCoil c k s := by
  by_cases h : r.motion = .haltedFault
  · exact .inr ⟨_, testFailure_faulted h⟩
  · by_cases he : ∃ v, (s.coil c).move = some v ∧ EndStops c r s v
    · obtain ⟨v, hv, he⟩ := he
      exact .inr ⟨_, testFailure_endStop h hv he⟩
    · exact .inl (testFailure_passes h fun v hv hc => he ⟨v, hv, hc⟩)

/-- Steps 4 to 7 keep what step 1 reported (R124). -/
theorem finishStatus_keepsReport (c : CoilId) (r : StatusRecord) (s : State) :
    ((finishStatus c r (testFailure c r s)).coil c).reported = (s.coil c).reported
      ∧ ((finishStatus c r (testFailure c r s)).coil c).arrival = (s.coil c).arrival := by
  rcases testFailure_cases c r s with e | ⟨k, e⟩ <;> rw [e]
  · cases hf : (s.coil c).failed
    · rw [finishStatus_ok hf]
      obtain ⟨-, -, -, -, reported, arrival⟩ := (((testArrival_agrees c r s).trans (testConfirmed_agrees c r _)).trans
        (testLost_agrees c r _)).trans (takePending_acts c _).own
      exact ⟨reported, arrival⟩
    · rw [finishStatus_failed hf]; exact ⟨rfl, rfl⟩
  · obtain ⟨failed, reported, arrival⟩ := failCoil_keepsReport c k s
    rw [finishStatus_failed failed]
    exact ⟨reported, arrival⟩

/-! Window engines without a window keep their last outcome (R62) -/

/-- An engine that has no window in flight gets none, and keeps its count of discards and its outcome record. -/
def EngineKeeps (g g' : Engine) : Prop :=
  g.window = none → g'.window = none ∧ g'.discarded = g.discarded ∧ g'.outcome = g.outcome

theorem EngineKeeps.refl (g : Engine) : EngineKeeps g g := fun h => ⟨h, rfl, rfl⟩

theorem EngineKeeps.trans {g g' g'' : Engine} (h : EngineKeeps g g') (h' : EngineKeeps g' g'') : EngineKeeps g g'' := by
  intro hw
  obtain ⟨h1, h2, h3⟩ := h hw
  obtain ⟨g1, g2, g3⟩ := h' h1
  exact ⟨g1, g2.trans h2, g3.trans h3⟩

/-- A discard ends the window in flight, with its cause on record and in the count; without one it does nothing (R62). -/
theorem discard_run {g : Engine} {w : Window} (h : g.state = .run w) (cause : DiscardCause) : g.discard cause =
    { g with state := .wait, firstPair := false, discarded := satInc g.discarded
             outcome := some { result := .discarded cause, start := w.start, w := w.w, taken := w.taken, subst := w.subst,
                               phasors := none } } := by
  simp [Engine.discard, h]

theorem discard_idle {g : Engine} (h : g.window = none) (cause : DiscardCause) : g.discard cause = g := by
  unfold Engine.window at h
  unfold Engine.discard
  cases hs : g.state <;> simp_all

theorem engineKeeps_discard (g : Engine) (cause : DiscardCause) : EngineKeeps g (g.discard cause) := fun h => by
  rw [discard_idle h]; exact ⟨h, rfl, rfl⟩

theorem engineKeeps_turnOff (g : Engine) (cause : DiscardCause) : EngineKeeps g (g.turnOff cause) := fun h => by
  rw [Engine.turnOff, discard_idle h]; exact ⟨rfl, rfl, rfl⟩

theorem engineKeeps_ready (g : Engine) : EngineKeeps g g.ready := fun _ => ⟨rfl, rfl, rfl⟩

def EnginesKeep (s t : State) : Prop := ∀ n, EngineKeeps (s.sec n).engine (t.sec n).engine

theorem EnginesKeep.refl (s : State) : EnginesKeep s s := fun _ => .refl _

theorem EnginesKeep.trans (h : EnginesKeep s t) (h' : EnginesKeep t u) : EnginesKeep s u := fun n => (h n).trans (h' n)

theorem EnginesKeep.of_sec (h : ∀ n, t.sec n = s.sec n) : EnginesKeep s t := fun n => h n ▸ .refl _

theorem EnginesKeep.modCoil (s : State) (c : CoilId) (f : Coil → Coil) : EnginesKeep s (s.modCoil c f) :=
  .of_sec (State.sec_modCoil s c f)

theorem EnginesKeep.modSec (s : State) (n : SecId) {f : Section → Section}
    (h : ∀ x, EngineKeeps x.engine (f x).engine) : EnginesKeep s (s.modSec n f) := by
  intro m
  by_cases hm : m = n
  · subst hm; rw [State.sec_modSec]; exact h _
  · rw [State.sec_modSec_other s n m f hm]; exact .refl _

theorem EnginesKeep.setSectionState (n : SecId) (st : SecState) (s : State) :
    EnginesKeep s (setSectionState n st s) := by
  intro m
  obtain ⟨v, e⟩ := sec_setSectionState n m st s
  rw [e]
  split <;> exact .refl _

theorem moveEndCounts_engines (c : CoilId) (s : State) : EnginesKeep s (moveEndCounts c s) :=
  .modSec s _ fun _ h => ⟨h, rfl, rfl⟩

theorem moveStopped_engines (c : CoilId) (s : State) : EnginesKeep s (moveStopped c s) :=
  ((EnginesKeep.modCoil s c _).trans (moveEndCounts_engines c _)).trans (.modSec _ _ fun _ => engineKeeps_discard _ _)

theorem moveDone_engines (c : CoilId) (s : State) : EnginesKeep s (moveDone c s) :=
  ((EnginesKeep.modCoil s c _).trans (.of_sec (raise_frame _ _ _).sec)).trans (moveEndCounts_engines c _)

theorem testAcceptance_engines (c : CoilId) (e : Bool) (s : State) : EnginesKeep s (testAcceptance c e s) := by
  have kinds (k : RecordKind) (s : State) : EnginesKeep s (acceptKind c k s) := by
    unfold acceptKind
    split
    · exact .modCoil s c _
    · split
      · exact moveStopped_engines c s
      · exact .refl s
    · exact .modCoil s c _
    · exact .modCoil s c _
  unfold testAcceptance
  split
  · exact .refl s
  · split
    · exact (EnginesKeep.modCoil s c _).trans (kinds _ _)
    · exact .refl s

theorem recordJoinedHalt_engines (cause : HaltCause) (s : State) : EnginesKeep s (recordJoinedHalt cause s) := fun n => by
  cases n <;> exact .refl _

theorem haltSection_engines (n : SecId) (cause : HaltCause) (s : State) : EnginesKeep s (haltSection n cause s) := by
  have halted : EnginesKeep s (enterHalted n cause s) := by
    intro m
    obtain ⟨v, e⟩ := sec_haltedSections n m cause s
    rw [sec_enterHalted, e]
    split
    · exact engineKeeps_turnOff _ _
    · exact .refl _
  unfold haltSection
  split
  case h_8 => exact recordJoinedHalt_engines cause s
  case h_6 | h_7 => exact .refl s
  all_goals exact halted

theorem failCoil_engines (c : CoilId) (k : EventKind) (s : State) : EnginesKeep s (failCoil c k s) := by
  have halts := (EnginesKeep.of_sec (sec_failedAlone c k s)).trans
    (haltSection_engines (s.driver c) { kind := k, obj := .coil c, time := s.ms } (failedAlone c k s))
  rcases failCoil_cases c k s with e | ⟨-, e⟩ <;> rw [e]
  · exact halts
  · exact halts.trans (recordJoinedHalt_engines _ _)

theorem testFailure_engines (c : CoilId) (r : StatusRecord) (s : State) : EnginesKeep s (testFailure c r s) := by
  rcases testFailure_cases c r s with e | ⟨k, e⟩ <;> rw [e]
  · exact .refl s
  · exact failCoil_engines c k s

theorem testArrival_engines (c : CoilId) (r : StatusRecord) (s : State) : EnginesKeep s (testArrival c r s) := by
  unfold testArrival
  split
  · exact .refl s
  · dsimp only
    split
    · exact (EnginesKeep.modCoil s c _).trans (moveDone_engines c _)
    · exact .modCoil s c _

theorem injectionConfirmed_engines (n : SecId) (s : State) : EnginesKeep s (injectionConfirmed n s) := by
  unfold injectionConfirmed
  split
  · refine (EnginesKeep.setSectionState n .measuring s).trans (.modSec _ n fun x => ?_)
    dsimp only
    split
    · exact .refl _
    · exact engineKeeps_ready _
  · exact .refl s

theorem testConfirmed_engines (c : CoilId) (r : StatusRecord) (s : State) : EnginesKeep s (testConfirmed c r s) := by
  unfold testConfirmed
  split
  · split
    · exact (EnginesKeep.modCoil s c _).trans (injectionConfirmed_engines _ _)
    · exact .refl s
  · exact .refl s

/-- The section has just started, without a window (R133). -/
def StartsAfresh (n : SecId) (s : State) : Prop := (s.sec n).engine.window = none ∧ (s.sec n).state = .starting

theorem enterStarting_engine (n m : SecId) (s : State) :
    EngineKeeps (s.sec m).engine ((enterStarting n s).sec m).engine ∨ StartsAfresh m (enterStarting n s) := by
  unfold StartsAfresh
  rw [(enterStarting_acts n s).frame.sec]
  by_cases h : m = n
  · subst h
    obtain ⟨v, e⟩ := sec_setSectionState m m .starting s
    rw [if_pos rfl] at e
    rw [startedSections, State.sec_modSec, e]
    exact .inr ⟨rfl, rfl⟩
  · rw [startedSections, State.sec_modSec_other _ _ _ _ h]
    exact .inl (EnginesKeep.setSectionState n .starting s m)

theorem testLost_engine (c : CoilId) (r : StatusRecord) (s : State) (m : SecId) :
    EngineKeeps (s.sec m).engine ((testLost c r s).sec m).engine ∨ StartsAfresh m (testLost c r s) := by
  have lost (n : SecId) (s : State) : EngineKeeps (s.sec m).engine ((injectionLost n s).sec m).engine
      ∨ StartsAfresh m (injectionLost n s) := by
    unfold injectionLost
    split
    · refine (enterStarting_engine n m _).imp_left fun h => EngineKeeps.trans ?_ h
      rw [(clearTargets_frame _ _).sec, (raise_frame _ _ _).sec]
      exact .refl _
    · exact .inl (.refl _)
  unfold testLost
  split
  · split
    · exact .inl (.refl _)
    · refine (lost c.sec _).imp_left fun h => EngineKeeps.trans ?_ h
      rw [State.sec_modCoil]
      exact .refl _
  · exact .inl (.refl _)
  · exact .inl (.refl _)

/-- Steps 3 to 7 leave an engine without a window as it is, but where a lost injection starts its section anew. -/
theorem finishStatus_engine (c : CoilId) (r : StatusRecord) (s : State) (n : SecId) :
    EngineKeeps (s.sec n).engine ((finishStatus c r (testFailure c r (testAcceptance c r.echo s))).sec n).engine
      ∨ StartsAfresh n (finishStatus c r (testFailure c r (testAcceptance c r.echo s))) := by
  have before := (testAcceptance_engines c r.echo s).trans (testFailure_engines c r (testAcceptance c r.echo s))
  generalize testFailure c r (testAcceptance c r.echo s) = t at before ⊢
  cases hf : (t.coil c).failed
  · rw [finishStatus_ok hf]
    have upTo := (before.trans (testArrival_engines c r t)).trans (testConfirmed_engines c r _) n
    unfold StartsAfresh
    rw [(takePending_frame c _).sec n]
    exact (testLost_engine c r _ n).imp_left upTo.trans
  · rw [finishStatus_failed hf]
    exact .inl (before n)

/-! Step 2 (R63, R64) -/

theorem coupler_engineSeesStatus (n : SecId) (c : CoilId) (r : StatusRecord) (s : State) :
    (engineSeesStatus n c r s).coupler = s.coupler := by
  unfold engineSeesStatus
  split
  · rfl
  · split
    · exact State.modSec_coupler _ _ _
    · split
      · exact State.modSec_coupler _ _ _
      · rfl

theorem sec_engineSeesStatus_other (h : m ≠ n) (c : CoilId) (r : StatusRecord) (s : State) :
    (engineSeesStatus n c r s).sec m = s.sec m := by
  unfold engineSeesStatus
  split
  · rfl
  · split
    · exact State.sec_modSec_other _ _ _ _ h
    · split
      · exact State.sec_modSec_other _ _ _ _ h
      · rfl

/-- The record gives grounds for MOTION in a window of the section (R63). -/
def Moved (n : SecId) (c : CoilId) (r : StatusRecord) (w : Window) (s : State) : Prop :=
  c ∈ s.drives n ∧ (r.motion ≠ .still ∨ w.posOf c ≠ some r.pos)

theorem moved_iff (n : SecId) (c : CoilId) (r : StatusRecord) (w : Window) (s : State) :
    ((s.drives n).contains c && (r.motion != .still || w.posOf c != some r.pos)) = true ↔ Moved n c r w s := by
  simp [Moved]

theorem window_run {g : Engine} {w : Window} (h : g.state = .run w) : g.window = some w := by
  simp [Engine.window, h]

theorem engineSeesStatus_moved {w : Window} (hw : (s.sec n).engine.state = .run w) (hm : Moved n c r w s) :
    engineSeesStatus n c r s = discardWindow n .motion s := by
  simp only [engineSeesStatus, window_run hw, (moved_iff n c r w s).2 hm, if_true]

theorem engineSeesStatus_injection {w : Window} (hw : (s.sec n).engine.state = .run w) (hm : ¬ Moved n c r w s)
    (hi : s.injector n = some c) (hj : r.injection ≠ some w.j) :
    engineSeesStatus n c r s = discardWindow n .injection s := by
  have still : ((s.drives n).contains c && (r.motion != .still || w.posOf c != some r.pos)) = false :=
    Bool.eq_false_iff.2 fun h => hm ((moved_iff n c r w s).1 h)
  unfold engineSeesStatus
  simp only [window_run hw]
  rw [if_neg (Bool.eq_false_iff.1 still), if_pos (by simp [hi, hj])]

theorem drives_of_coupler (h : t.coupler = s.coupler) (n : SecId) : t.drives n = s.drives n ∧ t.injector n = s.injector n := by
  unfold State.drives State.injector State.joined
  rw [h]
  exact ⟨rfl, rfl⟩

/-- Steps 1 and 2 act on the engine of one section as on the state before the record. -/
theorem engine_afterStep2 {cause : DiscardCause} (h : ∀ t : State, (t.sec n).engine = (s.sec n).engine →
      t.coupler = s.coupler → engineSeesStatus n c r t = discardWindow n cause t) (f : Coil → Coil) :
    ((engineSeesStatus .s2 c r (engineSeesStatus .s1 c r (s.modCoil c f))).sec n).engine
      = (s.sec n).engine.discard cause := by
  cases n
  · rw [sec_engineSeesStatus_other (by simp), h _ (by rw [State.sec_modCoil]) (State.modCoil_coupler _ _ _), discardWindow,
      State.sec_modSec, State.sec_modCoil]
  · have same : (engineSeesStatus .s1 c r (s.modCoil c f)).sec .s2 = s.sec .s2 := by
      rw [sec_engineSeesStatus_other (by simp), State.sec_modCoil]
    rw [h _ (by rw [same]) (by rw [coupler_engineSeesStatus, State.modCoil_coupler]), discardWindow, State.sec_modSec, same]

/-- What the statement says of a section whose window a status record ends. -/
def Discarded (n : SecId) (w : Window) (cause : DiscardCause) (s t : State) : Prop :=
  (t.sec n).engine.window = none
    ∧ ((t.sec n).state ≠ .starting →
      (t.sec n).engine.discarded = satInc (s.sec n).engine.discarded
      ∧ (t.sec n).engine.outcome = some { result := .discarded cause, start := w.start, w := w.w, taken := w.taken,
                                          subst := w.subst, phasors := none })

theorem treatStatus_ok (h : (s.coil c).failed = false) (r : StatusRecord) : treatStatus c r s =
    finishStatus c r (testFailure c r (testAcceptance c r.echo (engineSeesStatus .s2 c r (engineSeesStatus .s1 c r
      (s.modCoil c fun k => k.report r s.ms))))) := by
  have ok : ((s.modCoil c fun k => k.report r s.ms).coil c).failed = false := by rw [State.coil_modCoil]; exact h
  simp only [treatStatus, ok, Bool.false_eq_true, if_false]

theorem treatStatus_failed (h : (s.coil c).failed = true) (r : StatusRecord) :
    treatStatus c r s = s.modCoil c fun k => k.report r s.ms := by
  have failed : ((s.modCoil c fun k => k.report r s.ms).coil c).failed = true := by rw [State.coil_modCoil]; exact h
  simp only [treatStatus, failed, if_true]

theorem treatStatus_discards (hf : (s.coil c).failed = false) {w : Window} (hw : (s.sec n).engine.state = .run w)
    {cause : DiscardCause} (h : ∀ t : State, (t.sec n).engine = (s.sec n).engine → t.coupler = s.coupler →
      engineSeesStatus n c r t = discardWindow n cause t) : Discarded n w cause s (treatStatus c r s) := by
  have engine := engine_afterStep2 h fun k => k.report r s.ms
  rw [discard_run hw] at engine
  rw [treatStatus_ok hf]
  rcases finishStatus_engine c r (engineSeesStatus .s2 c r (engineSeesStatus .s1 c r
    (s.modCoil c fun k => k.report r s.ms))) n with keeps | ⟨none, starts⟩
  · obtain ⟨window, discarded, outcome⟩ := keeps (by rw [engine]; rfl)
    rw [engine] at discarded outcome
    exact ⟨window, fun _ => ⟨discarded, outcome⟩⟩
  · exact ⟨none, fun h => absurd starts h⟩

/-! The statement -/

/-- Step 1 as the statement writes it (R110, R124). -/
theorem report_eq (k : Coil) (r : StatusRecord) (now : Time) : k.report r now =
    { k with
      reported := some { pos := r.pos, motion := r.motion, lower := r.lower, upper := r.upper, injection := r.injection,
                         echo := r.echo, time := now }
      arrival := some r.port, toggle := some (k.toggle.getD r.echo), silenceTimer := none } := by
  unfold Coil.report
  cases k.toggle <;> rfl

theorem modCoil_const (s : State) (c : CoilId) (f : Coil → Coil) : s.modCoil c f = s.modCoil c fun _ => f (s.coil c) := rfl

theorem treatStatus_report (c : CoilId) (r : StatusRecord) (s : State) :
    ((treatStatus c r s).coil c).reported = some { pos := r.pos, motion := r.motion, lower := r.lower, upper := r.upper,
                                                   injection := r.injection, echo := r.echo, time := s.ms }
      ∧ ((treatStatus c r s).coil c).arrival = some r.port := by
  cases hf : (s.coil c).failed
  · rw [treatStatus_ok hf]
    obtain ⟨reported, arrival⟩ := finishStatus_keepsReport c r (testAcceptance c r.echo (engineSeesStatus .s2 c r
      (engineSeesStatus .s1 c r (s.modCoil c fun k => k.report r s.ms))))
    obtain ⟨-, -, -, -, reported', arrival'⟩ := testAcceptance_agrees c r.echo (engineSeesStatus .s2 c r
      (engineSeesStatus .s1 c r (s.modCoil c fun k => k.report r s.ms)))
    rw [reported, arrival, reported', arrival', coil_engineSeesStatus, coil_engineSeesStatus, State.coil_modCoil]
    exact ⟨rfl, rfl⟩
  · rw [treatStatus_failed hf, State.coil_modCoil]
    exact ⟨rfl, rfl⟩

/-- The coil at the tests of steps 4 to 7: not failed, and with its own table. -/
theorem coil_beforeFailure (hf : (s.coil c).failed = false) (r : StatusRecord) (f : Coil → Coil)
    (failed : (f (s.coil c)).failed = (s.coil c).failed) (table : (f (s.coil c)).table = (s.coil c).table) :
    let u := testAcceptance c r.echo (engineSeesStatus .s2 c r (engineSeesStatus .s1 c r (s.modCoil c f)))
    (u.coil c).failed = false ∧ (u.coil c).table = (s.coil c).table := by
  obtain ⟨table', -, -, failed', -, -⟩ := testAcceptance_agrees c r.echo (engineSeesStatus .s2 c r
    (engineSeesStatus .s1 c r (s.modCoil c f)))
  rw [coil_engineSeesStatus, coil_engineSeesStatus, State.coil_modCoil] at table' failed'
  exact ⟨failed'.trans (failed.trans hf), table'.trans table⟩

/-- Settles O24: step 1 gives the report; a FAILED coil stops there; otherwise step 2 ends a window, which no later step
reopens, and step 4 splits on the fault, the end-stop within the table and neither. -/
theorem statusIsReported : Obligations.StatusIsReported := by
  intro c r s
  obtain ⟨reported, arrival⟩ := treatStatus_report c r s
  refine ⟨reported, arrival, fun hf => ?_, fun hf => ?_, fun n w hf hw => ⟨fun hm => ?_, fun hm hi hj => ?_⟩⟩
  · rw [treatStatus_failed hf, State.coil_modCoil, report_eq]
    refine ⟨rfl, hf, ?_⟩
    simp
  · intro k u ended
    have treated : treatStatus c r s = finishStatus c r (testFailure c r u) := by
      rw [treatStatus_ok hf, modCoil_const, report_eq]
    obtain ⟨ok, table⟩ := coil_beforeFailure hf r (fun _ => k) rfl rfl
    have ended_iff (v : Move) : ended v ↔ EndStops c r u v := by
      unfold EndStops
      rw [show (u.coil c).table = (s.coil c).table from table]
    have fails {e : EventKind} (h : testFailure c r u = failCoil c e u) : FailedWith e c u (treatStatus c r s) := by
      rw [treated, h, finishStatus_failed (failCoil_keepsReport c e u).1]
      exact failCoil_failedWith c e u
    refine ⟨fun hm => fails (testFailure_faulted hm), fun hm ⟨v, hv, he⟩ => ?_, fun hm he => ?_⟩
    · exact fails (testFailure_endStop hm hv ((ended_iff v).1 he))
    · rw [treated, testFailure_passes hm fun v hv hs => he v hv ((ended_iff v).2 hs)]
      exact finishStatus_ok ok r
  · refine treatStatus_discards hf hw fun t ht hc => engineSeesStatus_moved (by rw [ht]; exact hw) ?_
    unfold Moved
    rw [(drives_of_coupler hc n).1]
    exact hm
  · refine treatStatus_discards hf hw fun t ht hc => engineSeesStatus_injection (by rw [ht]; exact hw) ?_ ?_ hj
    · unfold Moved
      rw [(drives_of_coupler hc n).1]
      exact hm
    · rw [(drives_of_coupler hc n).2]; exact hi

end Sys2Proof.Machine

/-! ### What sections, coils and coupler keep: the configuration, the rings between starts, and the summary -/

namespace Sys2Proof.Machine

variable {s t u : State} {P : Prop} {c : CoilId} {n : SecId}

/-- What of a coil only a request of its own writes: table, settings and binding (R91, R109, R175). -/
def Coil.SameConfig (k k' : Coil) : Prop := k'.table = k.table ∧ k'.settings = k.settings ∧ k'.binding = k.binding

theorem Coil.SameConfig.refl (k : Coil) : k.SameConfig k := ⟨rfl, rfl, rfl⟩

theorem Coil.SameConfig.trans {k l m : Coil} (h : k.SameConfig l) (h' : l.SameConfig m) : k.SameConfig m := by
  obtain ⟨h1, h2, h3⟩ := h
  obtain ⟨g1, g2, g3⟩ := h'
  exact ⟨g1.trans h1, g2.trans h2, g3.trans h3⟩

theorem Coil.SameConfig.same_binding {k l : Coil} (h : k.SameConfig l) : l.binding = k.binding := by
  obtain ⟨-, -, hb⟩ := h
  exact hb

theorem Coil.agrees.sameConfig {k k' : Coil} (h : k.agrees k') : k.SameConfig k' := by
  obtain ⟨ht, hs, hb, -⟩ := h
  exact ⟨ht, hs, hb⟩

/-- An operation of the sections, the coils, the coupler or the event unit: it keeps the configuration and every kind in the
summary, and a ring stays or is cleared, which takes a start of its section and so `P`. -/
structure SectionActs (P : Prop) (s t : State) : Prop where
  frame : SectionFrame s t
  coils : ∀ c, (s.coil c).SameConfig (t.coil c)
  configured : t.coupler.configured = s.coupler.configured
  settings : ∀ n, (t.sec n).settings = (s.sec n).settings
  ring : ∀ n, (t.sec n).ring = (s.sec n).ring ∨ P ∧ (t.sec n).ring = Ring.cleared
  summary : ∀ k ∈ s.events.summary, k ∈ t.events.summary

namespace SectionActs

theorem refl (s : State) : SectionActs P s s :=
  ⟨.refl s, fun _ => .refl _, rfl, fun _ => rfl, fun _ => .inl rfl, fun _ h => h⟩

theorem trans (h : SectionActs P s t) (h' : SectionActs P t u) : SectionActs P s u where
  frame := h.frame.trans h'.frame
  coils c := (h.coils c).trans (h'.coils c)
  configured := h'.configured.trans h.configured
  settings n := (h'.settings n).trans (h.settings n)
  ring n := by
    rcases h'.ring n with e | e
    · rw [e]; exact h.ring n
    · exact .inr e
  summary k hk := h'.summary k (h.summary k hk)

theorem ite {b : Prop} [Decidable b] (h : SectionActs P s t) (h' : SectionActs P s u) :
    SectionActs P s (if b then t else u) := by
  split
  exacts [h, h']

theorem drive (h : SectionActs P s t) (ha : DriveActs t u) : SectionActs P s u :=
  h.trans
    { frame := ha.frame.toSection
      coils := fun c => (ha.coils c).sameConfig
      configured := by rw [ha.frame.coupler]
      settings := fun n => by rw [ha.frame.sec n]
      ring := fun n => by rw [ha.frame.sec n]; exact .inl rfl
      summary := fun k hk => by rwa [ha.frame.events] }

theorem coil (h : SectionActs P s t) (ha : CoilActs c t u) : SectionActs P s u := h.drive ha.toDrive

theorem raise (h : SectionActs P s t) (k : EventKind) (o : Obj) : SectionActs P s (raise k o t) :=
  h.trans
    { frame := raise_section k o t
      coils := fun c => by rw [coil_raise]; exact .refl _
      configured := by rw [(raise_frame k o t).coupler]
      settings := fun n => by rw [(raise_frame k o t).sec n]
      ring := fun n => by rw [(raise_frame k o t).sec n]; exact .inl rfl
      summary := fun _ hk => mem_summary_raise_of_mem hk k o }

/-- A change of one section that keeps its settings, and its ring or clears it. -/
theorem changeSec (h : SectionActs P s t) (n : SecId) {f : Section → Section} (hs : ∀ x, (f x).settings = x.settings)
    (hr : ∀ x, (f x).ring = x.ring ∨ P ∧ (f x).ring = Ring.cleared) : SectionActs P s (t.modSec n f) :=
  h.trans
    { frame := .modSec t n f
      coils := fun c => by rw [State.coil_modSec]; exact .refl _
      configured := by rw [State.modSec_coupler]
      settings := fun m => by
        by_cases hm : m = n
        · rw [hm, State.sec_modSec]; exact hs _
        · rw [State.sec_modSec_other t n m f hm]
      ring := fun m => by
        by_cases hm : m = n
        · rw [hm, State.sec_modSec]; exact hr _
        · rw [State.sec_modSec_other t n m f hm]; exact .inl rfl
      summary := fun k hk => by rwa [State.modSec_events] }

theorem modSec (h : SectionActs P s t) (n : SecId) {f : Section → Section}
    (hf : ∀ x : Section, (f x).settings = x.settings ∧ (f x).ring = x.ring := by exact fun _ => ⟨rfl, rfl⟩) :
    SectionActs P s (t.modSec n f) := h.changeSec n (fun x => (hf x).1) fun x => .inl (hf x).2

theorem modCoil (h : SectionActs P s t) (c : CoilId) {f : Coil → Coil}
    (hf : ∀ k : Coil, k.SameConfig (f k) := by exact fun _ => ⟨rfl, rfl, rfl⟩) : SectionActs P s (t.modCoil c f) :=
  h.trans
    { frame := .modCoil t c f
      coils := fun d => by
        by_cases hd : d = c
        · rw [hd, State.coil_modCoil]; exact hf _
        · rw [State.coil_modCoil_other t c d f hd]; exact .refl _
      configured := by rw [State.modCoil_coupler]
      settings := fun n => by rw [State.sec_modCoil]
      ring := fun n => by rw [State.sec_modCoil]; exact .inl rfl
      summary := fun k hk => by rwa [State.modCoil_events] }

/-- A change of the ports, the coupler record or the return state that leaves the configured mark. -/
theorem withRest (h : SectionActs P s t) {a b : PortState} {x : Coupler} {r : ReturnState}
    (hx : x.configured = t.coupler.configured) :
    SectionActs P s { t with portA := a, portB := b, coupler := x, ret2 := r } :=
  h.trans
    { frame := rfl
      coils := fun c => by cases c <;> exact .refl _
      configured := hx
      settings := fun n => by cases n <;> rfl
      ring := fun n => by cases n <;> exact .inl rfl
      summary := fun _ hk => hk }

theorem withCoupler (h : SectionActs P s t) {x : Coupler} (hx : x.configured = t.coupler.configured) :
    SectionActs P s { t with coupler := x } := h.withRest hx

theorem withRet2 (h : SectionActs P s t) (r : ReturnState) : SectionActs P s { t with ret2 := r } := h.withRest rfl

/-- A change of both sections that leaves their settings and rings. -/
theorem withSecs (h : SectionActs P s t) {x y : Section} (hx : x.settings = t.sec1.settings ∧ x.ring = t.sec1.ring)
    (hy : y.settings = t.sec2.settings ∧ y.ring = t.sec2.ring) : SectionActs P s { t with sec1 := x, sec2 := y } :=
  h.trans
    { frame := rfl
      coils := fun c => by cases c <;> exact .refl _
      configured := rfl
      settings := fun n => by cases n; exacts [hx.1, hy.1]
      ring := fun n => by cases n; exacts [.inl hx.2, .inl hy.2]
      summary := fun _ hk => hk }

end SectionActs

/-! Sections -/

theorem followSections_sectionActs (h : SectionActs P s t) : SectionActs P s (followSections t) :=
  h.withSecs ⟨rfl, rfl⟩ ⟨rfl, rfl⟩

theorem setSectionState_sectionActs (h : SectionActs P s t) (n : SecId) (st : SecState) :
    SectionActs P s (setSectionState n st t) := followSections_sectionActs (h.modSec n)

theorem enterStarting_sectionActs (hp : P) (h : SectionActs P s t) (n : SecId) : SectionActs P s (enterStarting n t) :=
  have started : SectionActs P s (startedSections n t) :=
    (setSectionState_sectionActs h n .starting).changeSec n (fun _ => rfl) fun _ => .inr ⟨hp, rfl⟩
  started.drive (enterStarting_acts n t)

theorem enterFault_sectionActs (h : SectionActs P s t) (n : SecId) : SectionActs P s (enterFault n t) :=
  SectionActs.drive ((setSectionState_sectionActs (h.modSec n) n .fault).modSec n) (stopAndSilence_acts n _)

theorem enterHalted_sectionActs (h : SectionActs P s t) (n : SecId) (cause : HaltCause) :
    SectionActs P s (enterHalted n cause t) := by
  have exits : SectionActs P s (stopAndSilence n (haltedSections n cause t)) :=
    SectionActs.drive ((setSectionState_sectionActs (h.modSec n) n .halted).modSec n) (stopAndSilence_acts n _)
  exact .ite (exits.raise _ _) exits

theorem recordJoinedHalt_sectionActs (h : SectionActs P s t) (cause : HaltCause) : SectionActs P s (recordJoinedHalt cause t) :=
  (h.modSec .s2).withRet2 _

theorem haltSection_sectionActs (h : SectionActs P s t) (n : SecId) (cause : HaltCause) :
    SectionActs P s (haltSection n cause t) := by
  unfold haltSection
  split
  case h_8 => exact recordJoinedHalt_sectionActs h cause
  case h_6 | h_7 => exact h
  all_goals exact enterHalted_sectionActs h n cause

theorem disableSection_sectionActs (h : SectionActs P s t) (n : SecId) : SectionActs P s (disableSection n t) := by
  have off : SectionActs P s (setSectionState n .disabled (turnEngineOff n .state t)) :=
    setSectionState_sectionActs (h.modSec n) n .disabled
  have silent (cs : List CoilId) := (off.drive (clearTargets_acts cs _)).drive (requestInjector_acts n .off _)
  unfold disableSection
  split
  · exact h
  · exact h.withRet2 _
  all_goals exact .ite ((silent _).raise _ _) (silent _)

theorem untrackQueues_sectionActs (h : SectionActs P s t) (c : CoilId) : SectionActs P s (untrackQueues c t) :=
  h.withRest (x := t.coupler) (r := t.ret2) rfl

theorem failCoil_sectionActs (h : SectionActs P s t) (c : CoilId) (k : EventKind) : SectionActs P s (failCoil c k t) := by
  have failed : SectionActs P s (failedAlone c k t) :=
    (untrackQueues_sectionActs ((h.raise k _).coil (sendSafe_acts c _)) c).modCoil c
  have halted := haltSection_sectionActs failed (t.driver c) { kind := k, obj := .coil c, time := t.ms }
  rcases failCoil_cases c k t with e | ⟨-, e⟩ <;> rw [e]
  · exact halted
  · exact recordJoinedHalt_sectionActs halted _

theorem faultConfirmed_sectionActs (h : SectionActs P s t) (m : SecId) : SectionActs P s (faultConfirmed m t) := by
  unfold faultConfirmed
  dsimp only
  split
  case h_1 | h_2 | h_3 | h_4 => exact enterFault_sectionActs h _
  all_goals exact h

/-- Some section passes RECOVERY in no time (R156; notes/assumptions/8.md). -/
def RecoversAtOnce (s : State) : Prop := ∃ n, (s.sec n).settings.recoveryCycles = 0

theorem enterRecovery_sectionActs (hp : RecoversAtOnce s → P) (h : SectionActs P s t) (n : SecId) :
    SectionActs P s (enterRecovery n t) := by
  have entered : SectionActs P s (setHoldOff n (some 0) (setSectionState n .recovery t)) :=
    (setSectionState_sectionActs h n .recovery).modSec n
  unfold enterRecovery
  dsimp only
  split
  · next hr => exact enterStarting_sectionActs (hp ⟨n, entered.settings n ▸ hr⟩) entered n
  · exact entered

theorem faultCleared_sectionActs (hp : RecoversAtOnce s → P) (h : SectionActs P s t) (m : SecId) :
    SectionActs P s (faultCleared m t) := .ite (enterRecovery_sectionActs hp h _) h

theorem injectionConfirmed_sectionActs (h : SectionActs P s t) (n : SecId) : SectionActs P s (injectionConfirmed n t) :=
  .ite ((setSectionState_sectionActs h n .measuring).modSec n) h

theorem firstEstimate_sectionActs (h : SectionActs P s t) (n : SecId) : SectionActs P s (firstEstimate n t) :=
  .ite (setSectionState_sectionActs h n .tracking) h

theorem setInhibit_sectionActs (h : SectionActs P s t) (n : SecId) (x : Inhibit) : SectionActs P s (setInhibit n x t) :=
  .ite ((h.modSec n).drive (clearTargets_acts _ _)) (h.modSec n)

/-! The coupler -/

theorem clearIf_sectionActs {b : Bool} (h : SectionActs P s t) (cs : List CoilId) :
    SectionActs P s (if b then clearTargets cs t else t) := .ite (h.drive (clearTargets_acts cs t)) h

theorem turnEngineOff_sectionActs (h : SectionActs P s t) (n : SecId) (cause : DiscardCause) :
    SectionActs P s (turnEngineOff n cause t) := h.modSec n

theorem becomeUnsure_sectionActs (h : SectionActs P s t) : SectionActs P s (becomeUnsure t) := by
  have inhibited {x y : Inhibit} : SectionActs P s
      { t with sec1 := { t.sec1 with inhibit := x }, sec2 := { t.sec2 with inhibit := y } } :=
    h.withSecs ⟨rfl, rfl⟩ ⟨rfl, rfl⟩
  exact clearIf_sectionActs (clearIf_sectionActs
    (turnEngineOff_sectionActs (turnEngineOff_sectionActs (inhibited.raise _ _) .s1 .coupler) .s2 .coupler) _) _

theorem setUnsure_sectionActs (h : SectionActs P s t) (x : Unsure) : SectionActs P s (setUnsure x t) := by
  have written : SectionActs P s { t with coupler := { t.coupler with unsure := x } } := h.withCoupler rfl
  exact .ite (becomeUnsure_sectionActs written) (.ite (written.withSecs ⟨rfl, rfl⟩ ⟨rfl, rfl⟩) written)

theorem reportAvailability_sectionActs (h : SectionActs P s t) (a : Bool) : SectionActs P s (reportAvailability a t) :=
  setUnsure_sectionActs (h.withCoupler (x := { t.coupler with available := a }) rfl) _

theorem couplerChangeSec1_sectionActs (h : SectionActs P s t) (cs : List CoilId) :
    SectionActs P s (couplerChangeSec1 cs t) := by
  have changed : SectionActs P s (resetEstimate .s1 (discardWindow .s1 .coupler t)) := (h.modSec .s1).modSec .s1
  exact .ite ((setSectionState_sectionActs changed _ _).drive (clearTargets_acts _ _)) changed

theorem joinSection2_sectionActs (h : SectionActs P s t) : SectionActs P s (joinSection2 t) := by
  have joined : SectionActs P s (setHoldOff .s2 none (setSectionState .s2 .joined (turnEngineOff .s2 .coupler
      { t with ret2 := returnFor t.sec2.state }))) :=
    (setSectionState_sectionActs ((h.withRet2 _).modSec .s2) _ _).modSec .s2
  have cleared := joined.coil (clearTarget_acts .c2 _)
  unfold joinSection2
  dsimp only
  split
  · exact SectionActs.modSec (joined.coil (requestInjection_acts .c2 .off _)) .s2
  · exact SectionActs.modSec (cleared.coil (requestInjection_acts .c2 .off _)) .s2

theorem tellEngines_sectionActs (h : SectionActs P s t) : SectionActs P s (tellEngines t) :=
  h.withSecs ⟨rfl, rfl⟩ ⟨rfl, rfl⟩

theorem couplerCloses_sectionActs (h : SectionActs P s t) : SectionActs P s (couplerCloses t) := by
  have held : SectionActs P s (setHeld .closed (raise .couplerChange (.busSection .s1) t)) := (h.raise _ _).withCoupler rfl
  have closed := couplerChangeSec1_sectionActs (joinSection2_sectionActs held) [.c1]
  exact tellEngines_sectionActs (.ite (closed.raise _ _) (.ite (enterFault_sectionActs closed _) closed))

theorem leaveJoined_sectionActs (hp : P) (h : SectionActs P s t) : SectionActs P s (leaveJoined t) := by
  unfold leaveJoined
  refine SectionActs.withRet2 ?_ _
  split
  · exact .ite (setSectionState_sectionActs h _ _) (enterStarting_sectionActs hp h _)
  · exact setSectionState_sectionActs h _ _
  · exact setSectionState_sectionActs h _ _

theorem setHeld_sectionActs (h : SectionActs P s t) (x : Held) : SectionActs P s (setHeld x t) := h.withCoupler rfl

theorem couplerOpens_sectionActs (hp : P) (h : SectionActs P s t) : SectionActs P s (couplerOpens t) := by
  have changed := couplerChangeSec1_sectionActs (h.raise .couplerChange (.busSection .s1)) [.c1, .c2]
  exact tellEngines_sectionActs (leaveJoined_sectionActs hp
    (setHeld_sectionActs (.ite (enterRecovery_sectionActs (fun _ => hp) changed .s1) changed) _))

theorem couplerValue_sectionActs (hp : P) (h : SectionActs P s t) (v : CouplerValue) : SectionActs P s (couplerValue v t) := by
  unfold couplerValue
  refine setUnsure_sectionActs ?_ _
  split
  · exact couplerCloses_sectionActs (h.withCoupler rfl)
  · exact couplerOpens_sectionActs hp (h.withCoupler rfl)
  · exact h.withCoupler rfl

/-! Estimates and decisions -/

theorem takeDecision_sectionActs (h : SectionActs P s t) (n : SecId) (g : Trigger) (e : Int) :
    SectionActs P s (takeDecision n g e t) := by
  have decided {x : Decision} : SectionActs P s (t.modSec n fun y => { y with decision := some x }) := h.modSec n
  exact .ite decided
    (SectionActs.drive (SectionActs.drive (.ite (decided.raise _ _) decided) (handOn_acts .c1 _ _ _)) (handOn_acts .c2 _ _ _))

theorem targetTakes_sectionActs (h : SectionActs P s t) (n : SecId) (k : UpdateKind) (e : Int) :
    SectionActs P s (targetTakes n k e t) := by
  have counted {x : Nat} : SectionActs P s (t.modSec n fun y => { y with counter := x }) := h.modSec n
  cases k with
  | first => exact takeDecision_sectionActs counted _ _ _
  | step => exact takeDecision_sectionActs counted _ _ _
  | filtered => exact .ite (takeDecision_sectionActs counted _ _ _) counted

theorem rejectWindow_sectionActs (h : SectionActs P s t) (n : SecId) (w : Window) (f : Phasors) (why : RejectReason) :
    SectionActs P s (rejectWindow n w f why t) := by
  have counted : SectionActs P s (t.modSec n fun x => { x with
      estimate := { x.estimate with run := min (x.estimate.run + 1) 255, reason := some why } }) := h.modSec n
  have recorded : SectionActs P s ((raise .windowRejected (.busSection n) _).modSec n fun x => { x with
      engine := x.engine.reject (w.completed f (.rejected why)) }) := (counted.raise _ _).modSec n
  exact .ite (haltSection_sectionActs (recorded.raise _ _) _ _) recorded

theorem acceptWindow_sectionActs (h : SectionActs P s t) (n : SecId) (w : Window) (f : Phasors) (x : Int) :
    SectionActs P s (acceptWindow n w f x t) := by
  have taken : SectionActs P s (t.modSec n fun z => { z with
      estimate := z.estimate.accept (t.sec n).settings t.ms (reY f) x }) := h.modSec n
  have told (k : UpdateKind) : SectionActs P s
      (if k = .step then raise .stepDetected (.busSection n) (t.modSec n fun z => { z with
        estimate := z.estimate.accept (t.sec n).settings t.ms (reY f) x })
      else t.modSec n fun z => { z with estimate := z.estimate.accept (t.sec n).settings t.ms (reY f) x }) :=
    .ite (taken.raise _ _) taken
  exact targetTakes_sectionActs (.ite (firstEstimate_sectionActs ((told _).modSec n) _) ((told _).modSec n)) _ _ _

theorem estimateWindow_sectionActs (h : SectionActs P s t) (n : SecId) (w : Window) (f : Phasors) :
    SectionActs P s (estimateWindow n w f t) := by
  have given {x : Option Int} : SectionActs P s (t.modSec n fun z => { z with
      estimate := { z.estimate with lastReY := some (reY f), lastImY := some (imY f), lastBL := x } }) := h.modSec n
  unfold estimateWindow
  dsimp only
  split
  · exact rejectWindow_sectionActs given _ _ _ _
  · exact .ite (acceptWindow_sectionActs (given.modSec n) _ _ _ _) (rejectWindow_sectionActs (given.modSec n) _ _ _ _)

theorem completeWindow_sectionActs (h : SectionActs P s t) (n : SecId) (w : Window) :
    SectionActs P s (completeWindow n w t) := by
  unfold completeWindow
  dsimp only
  split
  · exact rejectWindow_sectionActs (h.modSec n) _ _ _ _
  · exact estimateWindow_sectionActs (h.modSec n) _ _ _

theorem setEngine_sectionActs (h : SectionActs P s t) (n : SecId) (g : Engine) : SectionActs P s (t.setEngine n g) := h.modSec n

theorem setSup_sectionActs (h : SectionActs P s t) (n : SecId) (v : Supervisor) : SectionActs P s (t.setSup n v) := h.modSec n

theorem engineTakes_sectionActs (h : SectionActs P s t) (n : SecId) (p : Pair) : SectionActs P s (engineTakes n p t) := by
  unfold engineTakes
  dsimp only
  split
  · exact h
  · exact .ite (setEngine_sectionActs h _ _) (.ite (.ite (setEngine_sectionActs h _ _) (setEngine_sectionActs h _ _)) h)
  · exact .ite (completeWindow_sectionActs h _ _) (setEngine_sectionActs h _ _)

/-! Supervision and deliveries -/

theorem confirmFault_sectionActs (h : SectionActs P s t) (n : SecId) (c : Capture) : SectionActs P s (confirmFault n c t) :=
  faultConfirmed_sectionActs (SectionActs.raise (h.modSec n) _ _) n

theorem judgeWatch_sectionActs (h : SectionActs P s t) (n : SecId) (m : Nat) (q : Int) :
    SectionActs P s (judgeWatch n m q t) :=
  .ite (.ite (confirmFault_sectionActs h _ _) (setSup_sectionActs h _ _)) (setSup_sectionActs h _ _)

theorem clearFault_sectionActs (hp : RecoversAtOnce s → P) (h : SectionActs P s t) (n : SecId) :
    SectionActs P s (clearFault n t) := faultCleared_sectionActs hp (SectionActs.raise (h.modSec n) _ _) n

theorem judgeStanding_sectionActs (hp : RecoversAtOnce s → P) (h : SectionActs P s t) (n : SecId) (q : Int) :
    SectionActs P s (judgeStanding n q t) :=
  .ite (.ite (clearFault_sectionActs hp (setSup_sectionActs h _ _) n) (setSup_sectionActs h _ _)) (setSup_sectionActs h _ _)

theorem closeCycle_sectionActs (hp : RecoversAtOnce s → P) (h : SectionActs P s t) (n : SecId) (a : CycleAcc) :
    SectionActs P s (closeCycle n a t) := by
  unfold closeCycle
  refine .ite (setSup_sectionActs h _ _) ?_
  dsimp only
  split
  · exact judgeWatch_sectionActs (setSup_sectionActs h _ _) _ _ _
  · exact judgeStanding_sectionActs hp (setSup_sectionActs h _ _) _ _
  · exact setSup_sectionActs h _ _

theorem supervisorTakes_sectionActs (hp : RecoversAtOnce s → P) (h : SectionActs P s t) (n : SecId) (p : Pair) :
    SectionActs P s (supervisorTakes n p t) := .ite h (.ite (closeCycle_sectionActs hp h _ _) (setSup_sectionActs h _ _))

theorem discardWindow_sectionActs (h : SectionActs P s t) (n : SecId) (cause : DiscardCause) :
    SectionActs P s (discardWindow n cause t) := h.modSec n

theorem handOver_sectionActs (hp : RecoversAtOnce s → P) (h : SectionActs P s t) (n : SecId) (d : Delivery) :
    SectionActs P s (handOver n d t) := by
  cases d with
  | pair p => exact supervisorTakes_sectionActs hp (engineTakes_sectionActs h n p) n p
  | gap first count =>
    show SectionActs P s ((engineTakesGap n t).modSec n fun x => { x with sup := x.sup.takeGap first count })
    exact (discardWindow_sectionActs h n .gap).modSec n

theorem deliver_sectionActs (hp : RecoversAtOnce s → P) (h : SectionActs P s t) (n : SecId) (ds : List Delivery) :
    SectionActs P s (deliver n ds t) := by
  induction ds generalizing t with
  | nil => exact h
  | cons d ds ih => exact .ite (handOver_sectionActs hp h n d) (ih (handOver_sectionActs hp h n d))

/-! Status records and expiries -/

theorem engineSeesStatus_sectionActs (h : SectionActs P s t) (n : SecId) (c : CoilId) (r : StatusRecord) :
    SectionActs P s (engineSeesStatus n c r t) := by
  unfold engineSeesStatus
  split
  · exact h
  · exact .ite (discardWindow_sectionActs h n _) (.ite (discardWindow_sectionActs h n _) h)

theorem moveEndCounts_sectionActs (h : SectionActs P s t) (c : CoilId) : SectionActs P s (moveEndCounts c t) := h.modSec _

theorem clearMove_sectionActs (h : SectionActs P s t) (c : CoilId) : SectionActs P s (clearMove c t) := h.modCoil c

theorem moveStopped_sectionActs (h : SectionActs P s t) (c : CoilId) : SectionActs P s (moveStopped c t) :=
  discardWindow_sectionActs (moveEndCounts_sectionActs (clearMove_sectionActs h c) c) _ _

theorem moveDone_sectionActs (h : SectionActs P s t) (c : CoilId) : SectionActs P s (moveDone c t) :=
  moveEndCounts_sectionActs ((clearMove_sectionActs h c).raise _ _) c

theorem acceptKind_sectionActs (h : SectionActs P s t) (c : CoilId) (k : RecordKind) :
    SectionActs P s (acceptKind c k t) := by
  unfold acceptKind
  split
  · refine h.modCoil c fun k => ?_
    split <;> exact ⟨rfl, rfl, rfl⟩
  · exact .ite (moveStopped_sectionActs h c) h
  · exact h.modCoil c
  · exact h.modCoil c

theorem testAcceptance_sectionActs (h : SectionActs P s t) (c : CoilId) (e : Bool) :
    SectionActs P s (testAcceptance c e t) := by
  unfold testAcceptance
  split
  · exact h
  · exact .ite (acceptKind_sectionActs (h.modCoil c) _ _) h

theorem testFailure_sectionActs (h : SectionActs P s t) (c : CoilId) (r : StatusRecord) :
    SectionActs P s (testFailure c r t) := by
  rcases testFailure_cases c r t with e | ⟨k, e⟩ <;> rw [e]
  · exact h
  · exact failCoil_sectionActs h c k

theorem testArrival_sectionActs (h : SectionActs P s t) (c : CoilId) (r : StatusRecord) :
    SectionActs P s (testArrival c r t) := by
  unfold testArrival
  split
  · exact h
  · exact .ite (moveDone_sectionActs (h.modCoil c) _) (h.modCoil c)

theorem testConfirmed_sectionActs (h : SectionActs P s t) (c : CoilId) (r : StatusRecord) :
    SectionActs P s (testConfirmed c r t) := by
  unfold testConfirmed
  split
  · exact .ite (injectionConfirmed_sectionActs (h.modCoil c) _) h
  · exact h

theorem injectionLost_sectionActs (hp : P) (h : SectionActs P s t) (n : SecId) : SectionActs P s (injectionLost n t) :=
  .ite (enterStarting_sectionActs hp ((h.raise _ _).drive (clearTargets_acts _ _)) n) h

theorem testLost_sectionActs (hp : P) (h : SectionActs P s t) (c : CoilId) (r : StatusRecord) :
    SectionActs P s (testLost c r t) := by
  unfold testLost
  split
  · exact .ite h (injectionLost_sectionActs hp (h.modCoil c) _)
  · exact h
  · exact h

theorem finishStatus_sectionActs (hp : P) (h : SectionActs P s t) (c : CoilId) (r : StatusRecord) :
    SectionActs P s (finishStatus c r t) :=
  .ite h (SectionActs.coil (testLost_sectionActs hp (testConfirmed_sectionActs (testArrival_sectionActs h c r) c r) c r)
    (takePending_acts c _))

theorem treatStatus_sectionActs (hp : P) (h : SectionActs P s t) (c : CoilId) (r : StatusRecord) :
    SectionActs P s (treatStatus c r t) := by
  have reported : SectionActs P s (t.modCoil c fun k => k.report r t.ms) := h.modCoil c
  exact .ite reported (finishStatus_sectionActs hp (testFailure_sectionActs (testAcceptance_sectionActs
    (engineSeesStatus_sectionActs (engineSeesStatus_sectionActs reported .s1 c r) .s2 c r) c _) c r) c r)

theorem acceptanceExpires_sectionActs (h : SectionActs P s t) (c : CoilId) : SectionActs P s (acceptanceExpires c t) := by
  unfold acceptanceExpires
  split
  · exact .ite (failCoil_sectionActs h _ _)
      (.ite (SectionActs.coil (h.modCoil c) (offerRecord_acts _ _ _ _)) (h.coil (withdraw_acts c t)))
  · exact h

theorem staleExpires_sectionActs (h : SectionActs P s t) : SectionActs P s (staleExpires t) :=
  .ite (setUnsure_sectionActs (h.withCoupler (x := { t.coupler with staleTimer := none }) rfl) _) h

theorem holdOffRunsOut_sectionActs (hp : P) (h : SectionActs P s t) (n : SecId) : SectionActs P s (holdOffRunsOut n t) :=
  .ite (enterStarting_sectionActs hp (h.modSec n) n) h

/-! Slot states and the end of a step -/

theorem voltageLost_sectionActs (h : SectionActs P s t) (n : SecId) : SectionActs P s (voltageLost n t) :=
  .ite h (haltSection_sectionActs (h.raise _ _) _ _)

theorem slotStateChanged_sectionActs (h : SectionActs P s t) (i : Fin 24) (b : SlotBody) (was now : SlotState) :
    SectionActs P s (slotStateChanged i b was now t) := by
  have lost {u : State} {x : Bool} (n : SecId) (h : SectionActs P s u) :
      SectionActs P s (if x then voltageLost n u else u) := .ite (voltageLost_sectionActs h n) h
  have told := h.raise .streamState (.slot i)
  cases b with
  | state k => exact .ite h (.ite (lost .s2 (lost .s1 told)) (reportAvailability_sectionActs (lost .s2 (lost .s1 told)) _))
  | sample bs => exact .ite h (lost .s2 (lost .s1 told))
  | drive c => exact .ite h (lost .s2 (lost .s1 told))

theorem conclude_sectionActs (h : SectionActs P s t) : SectionActs P s (conclude t) :=
  (h.drive (settled_acts t)).withRest rfl

end Sys2Proof.Machine

/-! ### The definition a WRITE_SLOT spells (R15, R172, R182) -/

namespace Sys2Proof.Machine

variable {b : List Byte} {i j : Fin 24} {s : State} {c : CoilId}

/-! List values are read by the numbers they are sent with -/

theorem roleOf_eq_some {n : Nat} {r : Role} : roleOf n = some r ↔ n = r.code := by
  unfold roleOf
  cases r <;> split <;> simp_all [Role.code]

theorem secOf_eq_some {n : Nat} {m : SecId} : secOf n = some m ↔ n = SecId.number m := by
  unfold secOf
  cases m <;> split <;> simp_all [SecId.number]

theorem coilOf_eq_some {n : Nat} : coilOf n = some c ↔ n = CoilId.number c := by
  unfold coilOf
  cases c <;> split <;> simp_all [CoilId.number]

theorem compareModeOf_eq_some {n : Nat} {m : CompareMode} : compareModeOf n = some m ↔ n = m.code := by
  unfold compareModeOf
  cases m <;> split <;> simp_all [CompareMode.code]

theorem compareModeOf_eq_none {n : Nat} (h : 3 < n) : compareModeOf n = none := by
  unfold compareModeOf
  split <;> first | omega | rfl

theorem exists_compareModeOf {n : Nat} (h : n ≤ 3) : ∃ m, compareModeOf n = some m := by
  obtain rfl | rfl | rfl | rfl : n = 0 ∨ n = 1 ∨ n = 2 ∨ n = 3 := by omega
  all_goals exact ⟨_, rfl⟩

theorem Role.code_inj {x y : Role} (h : x.code = y.code) : x = y := by cases x <;> cases y <;> simp_all [Role.code]

theorem SecId.number_inj {x y : SecId} (h : SecId.number x = SecId.number y) : x = y := by
  cases x <;> cases y <;> simp_all [SecId.number]

/-! What the other slots of the table hold -/

theorem bindingTaken_iff {x : Binding} : bindingTaken i x s = true ↔
    ∃ j, j ≠ i ∧ ∃ e cs, (s.slot j).defn = some e ∧ e.body = .sample cs
      ∧ ∃ y ∈ cs, y.role = x.role ∧ y.sec = x.sec := by
  unfold bindingTaken
  rw [List.any_eq_true]
  refine exists_congr fun j => ?_
  rw [Bool.and_eq_true, bne_iff_ne]
  constructor
  · rintro ⟨-, hj, h⟩
    refine ⟨hj, ?_⟩
    split at h
    · next tag mode bs hd =>
      obtain ⟨y, hy, hr⟩ := List.any_eq_true.1 h
      exact ⟨_, bs, hd, rfl, y, hy, by simpa using hr⟩
    · cases h
  · rintro ⟨hj, ⟨tag, mode, body⟩, cs, hd, rfl, y, hy, hr⟩
    refine ⟨List.mem_finRange j, hj, ?_⟩
    rw [hd]
    exact List.any_eq_true.2 ⟨y, hy, by simpa using hr⟩

theorem stateTaken_iff : stateTaken i s = true ↔ ∃ j, j ≠ i ∧ isStateSlot (s.slot j).defn = true := by
  unfold stateTaken
  rw [List.any_eq_true]
  refine exists_congr fun j => ?_
  rw [Bool.and_eq_true, bne_iff_ne]
  exact ⟨fun ⟨_, h⟩ => h, fun h => ⟨List.mem_finRange j, h⟩⟩

theorem driveTaken_iff : driveTaken i c s = true ↔ ∃ j, j ≠ i ∧ namesCoil (s.slot j).defn c = true := by
  unfold driveTaken
  rw [List.any_eq_true]
  refine exists_congr fun j => ?_
  rw [Bool.and_eq_true, bne_iff_ne]
  exact ⟨fun ⟨_, h⟩ => h, fun h => ⟨List.mem_finRange j, h⟩⟩

/-! Bindings -/

/-- The three fields of binding `k` spell `y` (R15, R182). -/
theorem bindingOf_eq_some {k : Nat} {y : Binding} : bindingOf b k = some y ↔
    word b (6 + 3 * k) = y.role.code ∧ word b (7 + 3 * k) = SecId.number y.sec ∧ word b (8 + 3 * k) = y.channel
      ∧ y.channel ≤ 7 := by
  rw [← roleOf_eq_some, ← secOf_eq_some]
  obtain ⟨role, sec, channel⟩ := y
  unfold bindingOf
  split
  · next r n hr hn =>
    rw [hr, hn, Option.ite_none_right_eq_some]
    simp only [Option.some.injEq, Binding.mk.injEq]
    constructor
    · rintro ⟨hc, rfl, rfl, rfl⟩; exact ⟨rfl, rfl, rfl, hc⟩
    · rintro ⟨rfl, rfl, rfl, hc⟩; exact ⟨hc, rfl, rfl, rfl⟩
  · next h =>
    refine ⟨fun h => (by cases h), fun ⟨hr, hn, _⟩ => absurd hn (h _ _ hr)⟩

/-- Binding `k` of a WRITE_SLOT body fails R15: a field out of range, or its role and section are held by another slot or by an
earlier binding of the body. -/
def BadBinding (b : List Byte) (i : Fin 24) (s : State) (k : Nat) : Prop :=
  1 < word b (6 + 3 * k) ∨ (word b (7 + 3 * k) ≠ 1 ∧ word b (7 + 3 * k) ≠ 2) ∨ 7 < word b (8 + 3 * k)
    ∨ (∃ j, j ≠ i ∧ ∃ e cs, (s.slot j).defn = some e ∧ e.body = .sample cs
        ∧ ∃ y ∈ cs, y.role.code = word b (6 + 3 * k) ∧ SecId.number y.sec = word b (7 + 3 * k))
    ∨ ∃ l < k, word b (6 + 3 * l) = word b (6 + 3 * k) ∧ word b (7 + 3 * l) = word b (7 + 3 * k)

/-- The bindings at the head of a body are these. -/
def Reads (b : List Byte) (bs : List Binding) : Prop := ∀ k y, bs[k]? = some y → bindingOf b k = some y

theorem Reads.append {bs : List Binding} {y : Binding} (h : Reads b bs) (hy : bindingOf b bs.length = some y) :
    Reads b (bs ++ [y]) := by
  intro k z hz
  rcases Nat.lt_trichotomy k bs.length with hk | rfl | hk
  · exact h k z (by rwa [List.getElem?_append_left hk] at hz)
  · rw [List.getElem?_concat_length] at hz
    rwa [← hz]
  · rw [List.getElem?_eq_none (by rw [List.length_append, List.length_singleton]; omega)] at hz
    cases hz

theorem bindingOf_eq_none_iff {k : Nat} : bindingOf b k = none ↔
    1 < word b (6 + 3 * k) ∨ (word b (7 + 3 * k) ≠ 1 ∧ word b (7 + 3 * k) ≠ 2) ∨ 7 < word b (8 + 3 * k) := by
  constructor
  · intro h
    by_contra hc
    obtain ⟨hr, hn, hch⟩ : word b (6 + 3 * k) ≤ 1 ∧ (word b (7 + 3 * k) = 1 ∨ word b (7 + 3 * k) = 2)
      ∧ word b (8 + 3 * k) ≤ 7 := by omega
    obtain ⟨r, hr⟩ : ∃ r : Role, word b (6 + 3 * k) = r.code := by
      obtain hr | hr : word b (6 + 3 * k) = 0 ∨ word b (6 + 3 * k) = 1 := by omega
      exacts [⟨.voltage, hr⟩, ⟨.current, hr⟩]
    obtain ⟨n, hn⟩ : ∃ n : SecId, word b (7 + 3 * k) = SecId.number n := by
      rcases hn with hn | hn
      exacts [⟨.s1, hn⟩, ⟨.s2, hn⟩]
    rw [(bindingOf_eq_some (y := ⟨r, n, word b (8 + 3 * k)⟩)).2 ⟨hr, hn, rfl, hch⟩] at h
    cases h
  · intro h
    by_contra hc
    obtain ⟨⟨r, n, ch⟩, hy⟩ := Option.ne_none_iff_exists'.1 hc
    obtain ⟨hr, hn, hch, hle⟩ := bindingOf_eq_some.1 hy
    cases r <;> cases n <;> simp only [Role.code, SecId.number] at hr hn hch hle <;> omega

/-- What the parser asks of the next binding after those read (R15). -/
theorem badBinding_iff {bs : List Binding} (h : Reads b bs) {x : Binding} (hx : bindingOf b bs.length = some x) :
    BadBinding b i s bs.length ↔
      (bindingTaken i x s || bs.any fun y => y.role == x.role && y.sec == x.sec) = true := by
  have inRange : ¬ (1 < word b (6 + 3 * bs.length) ∨ (word b (7 + 3 * bs.length) ≠ 1 ∧ word b (7 + 3 * bs.length) ≠ 2)
      ∨ 7 < word b (8 + 3 * bs.length)) := fun hn => by
    rw [bindingOf_eq_none_iff.2 hn] at hx
    cases hx
  obtain ⟨hr, hn, -, -⟩ := bindingOf_eq_some.1 hx
  rw [Bool.or_eq_true, bindingTaken_iff, List.any_eq_true]
  unfold BadBinding
  rw [hr, hn] at inRange ⊢
  push Not at inRange
  constructor
  · rintro (h' | h' | h' | ⟨j, hj, e, cs, hd, hb, y, hy, hyr, hyn⟩ | ⟨l, hl, hlr, hln⟩)
    · omega
    · obtain ⟨-, known, -⟩ := inRange
      obtain ⟨h1, h2⟩ := h'
      exact absurd (known h1) h2
    · omega
    · exact .inl ⟨j, hj, e, cs, hd, hb, y, hy, Role.code_inj hyr, SecId.number_inj hyn⟩
    · obtain ⟨hyr, hyn, -⟩ := bindingOf_eq_some.1 (h l bs[l] (List.getElem?_eq_getElem hl))
      refine .inr ⟨bs[l], List.getElem_mem hl, ?_⟩
      rw [Bool.and_eq_true, beq_iff_eq, beq_iff_eq]
      exact ⟨Role.code_inj (hyr.symm.trans hlr), SecId.number_inj (hyn.symm.trans hln)⟩
  · rintro (⟨j, hj, e, cs, hd, hb, y, hy, hyr, hyn⟩ | ⟨y, hy, hyx⟩)
    · exact .inr (.inr (.inr (.inl ⟨j, hj, e, cs, hd, hb, y, hy, by rw [hyr], by rw [hyn]⟩)))
    · obtain ⟨l, hl, rfl⟩ := List.mem_iff_getElem.1 hy
      rw [Bool.and_eq_true, beq_iff_eq, beq_iff_eq] at hyx
      obtain ⟨hlr, hln, -⟩ := bindingOf_eq_some.1 (h l bs[l] (List.getElem?_eq_getElem hl))
      exact .inr (.inr (.inr (.inr ⟨l, hl, hlr.trans (by rw [hyx.1]), hln.trans (by rw [hyx.2])⟩)))

/-- One turn of the parser: the binding is bad and named by its index, or it is read. -/
theorem bindingsOf_succ {bs : List Binding} (h : Reads b bs) (n : Nat) :
    (BadBinding b i s bs.length ∧ bindingsOf b i s (n + 1) bs = .error bs.length)
      ∨ ¬ BadBinding b i s bs.length ∧ ∃ x, bindingOf b bs.length = some x
          ∧ bindingsOf b i s (n + 1) bs = bindingsOf b i s n (bs ++ [x]) := by
  simp only [bindingsOf]
  split
  · next x hx =>
    split
    · next hb => exact .inl ⟨(badBinding_iff h hx).2 hb, rfl⟩
    · next hb => exact .inr ⟨fun hc => hb ((badBinding_iff h hx).1 hc), x, hx, rfl⟩
  · next hx =>
    refine .inl ⟨?_, rfl⟩
    rcases bindingOf_eq_none_iff.1 hx with h' | h' | h'
    exacts [.inl h', .inr (.inl h'), .inr (.inr (.inl h'))]

/-- The first bad binding is named (R15, R172). -/
theorem bindingsOf_error {bs : List Binding} (h : Reads b bs) {n k : Nat} (hl : bs.length ≤ k) (hk : k < bs.length + n)
    (bad : BadBinding b i s k) (first : ∀ l < k, ¬ BadBinding b i s l) : bindingsOf b i s n bs = .error k := by
  induction n generalizing bs with
  | zero => omega
  | succ n ih =>
    rcases bindingsOf_succ (i := i) (s := s) h n with ⟨hb, e⟩ | ⟨hg, x, hx, e⟩
    · obtain rfl : bs.length = k := by
        by_contra hne
        exact first _ (by omega) hb
      exact e
    · have hne : bs.length ≠ k := fun hc => hg (hc ▸ bad)
      rw [e]
      exact ih (h.append hx) (by rw [List.length_append, List.length_singleton]; omega)
        (by rw [List.length_append, List.length_singleton]; omega)

/-- A list of bindings is read whole exactly where the body spells it and none of it is bad. -/
theorem bindingsOf_eq_ok {bs cs : List Binding} (h : Reads b bs) (n : Nat) : bindingsOf b i s n bs = .ok cs ↔
    bs <+: cs ∧ cs.length = bs.length + n ∧ Reads b cs
      ∧ ∀ k, bs.length ≤ k → k < cs.length → ¬ BadBinding b i s k := by
  induction n generalizing bs with
  | zero =>
    unfold bindingsOf
    constructor
    · rintro ⟨⟩
      exact ⟨⟨[], List.append_nil _⟩, rfl, h, fun k hk hc => by omega⟩
    · rintro ⟨hp, hl, -, -⟩
      rw [hp.eq_of_length hl.symm]
  | succ n ih =>
    rcases bindingsOf_succ (i := i) (s := s) h n with ⟨hb, e⟩ | ⟨hg, x, hx, e⟩
    · rw [e]
      refine ⟨fun hc => (by cases hc), ?_⟩
      rintro ⟨-, hl, -, good⟩
      exact absurd hb (good _ le_rfl (by omega))
    · rw [e, ih (h.append hx), List.length_append, List.length_singleton]
      constructor
      · rintro ⟨hp, hl, hr, good⟩
        refine ⟨List.IsPrefix.trans ⟨_, rfl⟩ hp, by omega, hr, fun k hk hc => ?_⟩
        rcases Nat.lt_or_eq_of_le hk with hk | rfl
        · exact good k hk hc
        · exact hg
      · rintro ⟨hp, hl, hr, good⟩
        refine ⟨?_, by omega, hr, fun k hk hc => good k (by omega) hc⟩
        obtain ⟨ds, rfl⟩ := hp
        obtain _ | ⟨y, ds⟩ := ds
        · rw [List.append_nil] at hl; omega
        · have hy := hr bs.length y (by simp)
          rw [hx, Option.some.injEq] at hy
          rw [hy]
          exact ⟨ds, by simp⟩

/-! The definition -/

theorem slotDefOf_invalid (h : word b 1 = 0) : slotDefOf b i s = .ok none := by simp only [slotDefOf, h]

theorem slotDefOf_badFlag (h : 1 < word b 1) : slotDefOf b i s = .error (1, none) := by
  unfold slotDefOf
  split
  · omega
  · omega
  · rfl

/-- The frame kind is out of its list, or asks for a second STATE slot (R15). -/
def BadKind (b : List Byte) (i : Fin 24) (s : State) : Prop :=
  2 < word b 2 ∨ word b 2 = 1 ∧ ∃ j, j ≠ i ∧ isStateSlot (s.slot j).defn = true

theorem slotDefOf_badKind (h : word b 1 = 1) (hk : BadKind b i s) : slotDefOf b i s = .error (2, none) := by
  unfold BadKind at hk
  rw [← stateTaken_iff] at hk
  simp only [slotDefOf, h, if_pos hk]

theorem slotDefOf_badMode (h : word b 1 = 1) (hk : ¬ BadKind b i s) (hm : 3 < word b 4) :
    slotDefOf b i s = .error (4, none) := by
  unfold BadKind at hk
  rw [← stateTaken_iff] at hk
  simp only [slotDefOf, h, if_neg hk, compareModeOf_eq_none hm]

/-- What a valid definition of a good kind and mode is read as (R15). -/
def slotBodyOf (b : List Byte) (i : Fin 24) (s : State) : Except (Nat × Option Nat) SlotBody :=
  match word b 2 with
  | 0 =>
    if word b 5 < 1 ∨ 2 < word b 5 then .error (5, none)
    else
      match bindingsOf b i s (word b 5) [] with
      | .ok bs => .ok (.sample bs)
      | .error k => .error (5, some k)
  | 1 => if word b 5 ≤ 7 then .ok (.state (word b 5)) else .error (6, none)
  | _ =>
    match coilOf (word b 5) with
    | some c => if driveTaken i c s then .error (6, none) else .ok (.drive c)
    | none => .error (6, none)

theorem slotDefOf_valid (h : word b 1 = 1) (hk : ¬ BadKind b i s) {mode : CompareMode}
    (hm : compareModeOf (word b 4) = some mode) : slotDefOf b i s =
      match slotBodyOf b i s with
      | .ok body => .ok (some { tag := BitVec.ofNat 32 (word b 3), mode := mode, body := body })
      | .error e => .error e := by
  unfold BadKind at hk
  rw [← stateTaken_iff] at hk
  have kinds : word b 2 = 0 ∨ word b 2 = 1 ∨ word b 2 = 2 := by omega
  simp only [slotDefOf, h, if_neg hk, hm, slotBodyOf]
  rcases kinds with h2 | h2 | h2 <;> simp only [h2]
  · split
    · rfl
    · cases bindingsOf b i s (word b 5) [] <;> rfl
  · split <;> rfl
  · cases coilOf (word b 5) with
    | none => rfl
    | some c => dsimp only; split <;> rfl

/-- The fields of the body of a definition spell it, and it fits the table (R15). -/
def SpellsBody (b : List Byte) (body : SlotBody) : Prop :=
  match body with
  | .sample bs => word b 2 = 0 ∧ word b 5 = bs.length ∧ 1 ≤ bs.length ∧ bs.length ≤ 2
      ∧ ∀ k y, bs[k]? = some y → word b (6 + 3 * k) = y.role.code ∧ word b (7 + 3 * k) = SecId.number y.sec
          ∧ word b (8 + 3 * k) = y.channel ∧ y.channel ≤ 7
  | .state p => word b 2 = 1 ∧ word b 5 = p ∧ p ≤ 7
  | .drive c => word b 2 = 2 ∧ word b 5 = CoilId.number c

theorem spells_some {d : SlotDef} : Spells b (some d) ↔
    word b 1 = 1 ∧ d.tag = BitVec.ofNat 32 (word b 3) ∧ word b 4 = d.mode.code ∧ SpellsBody b d.body := by
  obtain ⟨tag, mode, body⟩ := d
  cases body <;> rfl

/-- Bindings as the body spells them fit the table exactly where none of them is bad (R15). -/
theorem fitsTable_sample {tag : Word32} {mode : CompareMode} {bs : List Binding} (h : Reads b bs) :
    FitsTable i (some { tag := tag, mode := mode, body := .sample bs }) s
      ↔ ∀ k < bs.length, ¬ BadBinding b i s k := by
  have spelled {k : Nat} {y : Binding} (hy : bs[k]? = some y) := bindingOf_eq_some.1 (h k y hy)
  constructor
  · intro fits k hk bad
    obtain ⟨alone, apart⟩ := fits _ rfl
    have hy := List.getElem?_eq_getElem hk
    obtain ⟨hr, hn, -, -⟩ := spelled hy
    have inRange : bindingOf b k ≠ none := by rw [h k _ hy]; exact Option.some_ne_none _
    rw [Ne, bindingOf_eq_none_iff] at inRange
    rcases bad with h' | h' | h' | ⟨j, hj, e, cs, hd, hb, z, hz, hzr, hzn⟩ | ⟨l, hl, hlr, hln⟩
    · exact inRange (.inl h')
    · exact inRange (.inr (.inl h'))
    · exact inRange (.inr (.inr h'))
    · exact apart j hj e cs hd hb _ (List.getElem_mem hk) z hz
        ⟨Role.code_inj (hr.symm.trans hzr.symm), SecId.number_inj (hn.symm.trans hzn.symm)⟩
    · have hz := List.getElem?_eq_getElem (hl.trans hk)
      obtain ⟨hzr, hzn, -, -⟩ := spelled hz
      have := alone l k _ _ hz hy (Role.code_inj (hzr.symm.trans (hlr.trans hr)))
        (SecId.number_inj (hzn.symm.trans (hln.trans hn)))
      omega
  · rintro good _ ⟨⟩
    have ordered {k l : Nat} {y z : Binding} (hk : bs[k]? = some y) (hl : bs[l]? = some z) (hr : y.role = z.role)
        (hs : y.sec = z.sec) : ¬ k < l := fun hlt => by
      obtain ⟨hyr, hyn, -, -⟩ := spelled hk
      obtain ⟨hzr, hzn, -, -⟩ := spelled hl
      exact good l (List.getElem?_eq_some_iff.1 hl).1
        (.inr (.inr (.inr (.inr ⟨k, hlt, by rw [hyr, hzr, hr], by rw [hyn, hzn, hs]⟩))))
    refine ⟨fun k l y z hk hl hr hs => ?_, fun j hj e cs hd hb y hy z hz hyz => ?_⟩
    · have := ordered hk hl hr hs
      have := ordered hl hk hr.symm hs.symm
      omega
    · obtain ⟨k, hk, rfl⟩ := List.mem_iff_getElem.1 hy
      obtain ⟨hyr, hyn, -, -⟩ := spelled (List.getElem?_eq_getElem hk)
      exact good k hk (.inr (.inr (.inr (.inl ⟨j, hj, e, cs, hd, hb, z, hz, by rw [hyr, hyz.1], by rw [hyn, hyz.2]⟩))))

theorem fitsTable_state {tag : Word32} {mode : CompareMode} {p : Nat} :
    FitsTable i (some { tag := tag, mode := mode, body := .state p }) s
      ↔ ¬ ∃ j, j ≠ i ∧ isStateSlot (s.slot j).defn = true := by
  constructor
  · rintro fits ⟨j, hj, hs⟩
    rw [fits _ rfl j hj] at hs
    cases hs
  · rintro h _ ⟨⟩ j hj
    exact Bool.eq_false_iff.2 fun hs => h ⟨j, hj, hs⟩

theorem fitsTable_drive {tag : Word32} {mode : CompareMode} :
    FitsTable i (some { tag := tag, mode := mode, body := .drive c }) s
      ↔ ¬ ∃ j, j ≠ i ∧ namesCoil (s.slot j).defn c = true := by
  constructor
  · rintro fits ⟨j, hj, hs⟩
    rw [fits _ rfl j hj] at hs
    cases hs
  · rintro h _ ⟨⟩ j hj
    exact Bool.eq_false_iff.2 fun hs => h ⟨j, hj, hs⟩

theorem reads_iff {bs : List Binding} : Reads b bs ↔
    ∀ k y, bs[k]? = some y → word b (6 + 3 * k) = y.role.code ∧ word b (7 + 3 * k) = SecId.number y.sec
      ∧ word b (8 + 3 * k) = y.channel ∧ y.channel ≤ 7 :=
  forall₃_congr fun _ _ _ => bindingOf_eq_some

/-- The number of a frame kind in WRITE_SLOT (R182). -/
def SlotBody.number : SlotBody → Nat
  | .sample _ => 0
  | .state _ => 1
  | .drive _ => 2

theorem SpellsBody.kind {body : SlotBody} (h : SpellsBody b body) : word b 2 = body.number := by
  cases body <;> exact h.1

theorem kind_of_slotBodyOf {body : SlotBody} (hk : ¬ BadKind b i s) (h : slotBodyOf b i s = .ok body) :
    word b 2 = body.number := by
  have known : word b 2 ≤ 2 := Nat.not_lt.1 fun hc => hk (.inl hc)
  unfold slotBodyOf at h
  split at h
  · next h2 =>
    split at h
    · cases h
    · split at h <;> cases h
      exact h2
  · next h2 =>
    split at h <;> cases h
    exact h2
  · next h0 h1 =>
    have h0 : word b 2 ≠ 0 := h0
    have h1 : word b 2 ≠ 1 := h1
    have h2 : word b 2 = 2 := by omega
    split at h
    · split at h <;> cases h
      exact h2
    · cases h

/-- The bindings of a SAMPLE definition are read exactly where the fields spell them and they fit the table. -/
theorem slotBodyOf_eq_sample {bs : List Binding} {tag : Word32} {mode : CompareMode} (h2 : word b 2 = 0) :
    slotBodyOf b i s = .ok (.sample bs)
      ↔ SpellsBody b (.sample bs) ∧ FitsTable i (some { tag := tag, mode := mode, body := .sample bs }) s := by
  have whole := bindingsOf_eq_ok (b := b) (i := i) (s := s) (bs := []) (cs := bs) (fun _ _ h => by cases h) (word b 5)
  have nil : ([] : List Binding) <+: bs := ⟨bs, rfl⟩
  simp only [nil, true_and, List.length_nil, Nat.zero_add, Nat.zero_le, forall_const] at whole
  unfold SpellsBody
  dsimp only
  rw [← reads_iff]
  simp only [slotBodyOf, h2]
  constructor
  · intro h
    split at h
    · cases h
    · split at h
      · next cs hcs =>
        cases h
        obtain ⟨hl, hr, good⟩ := whole.1 hcs
        have count : 1 ≤ bs.length ∧ bs.length ≤ 2 := by omega
        exact ⟨⟨trivial, hl.symm, count.1, count.2, hr⟩, (fitsTable_sample hr).2 good⟩
      · cases h
  · rintro ⟨⟨-, hl, h1, h2, hr⟩, fits⟩
    have count : ¬ (word b 5 < 1 ∨ 2 < word b 5) := by omega
    rw [if_neg count, whole.2 ⟨hl.symm, hr, (fitsTable_sample hr).1 fits⟩]

theorem slotBodyOf_eq_state {p : Nat} (h2 : word b 2 = 1) :
    slotBodyOf b i s = .ok (.state p) ↔ SpellsBody b (.state p) := by
  simp only [slotBodyOf, SpellsBody, h2, true_and]
  constructor
  · intro h
    split at h
    · next hp => cases h; exact ⟨rfl, hp⟩
    · cases h
  · rintro ⟨rfl, hp⟩
    rw [if_pos hp]

theorem slotBodyOf_eq_drive (h2 : word b 2 = 2) :
    slotBodyOf b i s = .ok (.drive c) ↔ SpellsBody b (.drive c) ∧ ¬ driveTaken i c s = true := by
  simp only [slotBodyOf, SpellsBody, h2, true_and]
  rw [← coilOf_eq_some]
  constructor
  · intro h
    split at h
    · next c' hc =>
      split at h
      · cases h
      · next ht => cases h; exact ⟨hc, ht⟩
    · cases h
  · rintro ⟨hc, ht⟩
    rw [hc]
    dsimp only
    rw [if_neg ht]

/-- The body of a definition is read exactly where its fields spell it and it fits the table. -/
theorem slotBodyOf_eq_ok {body : SlotBody} {tag : Word32} {mode : CompareMode} (hk : ¬ BadKind b i s) :
    slotBodyOf b i s = .ok body ↔ SpellsBody b body ∧ FitsTable i (some { tag := tag, mode := mode, body := body }) s := by
  by_cases h2 : word b 2 = body.number
  case neg => exact ⟨fun h => absurd (kind_of_slotBodyOf hk h) h2, fun h => absurd h.1.kind h2⟩
  cases body with
  | sample bs => exact slotBodyOf_eq_sample h2
  | state p =>
    have alone : ¬ ∃ j, j ≠ i ∧ isStateSlot (s.slot j).defn = true := fun h => hk (.inr ⟨h2, h⟩)
    rw [fitsTable_state, and_iff_left alone, slotBodyOf_eq_state h2]
  | drive c => rw [fitsTable_drive, ← driveTaken_iff, slotBodyOf_eq_drive h2]

/-! The whole definition -/

theorem Spells.flag {d : Option SlotDef} (h : Spells b d) : word b 1 ≤ 1 := by
  cases d with
  | none => exact (show word b 1 = 0 from h).trans_le (Nat.zero_le 1)
  | some x => exact (spells_some.1 h).1.le

theorem Spells.invalid {d : Option SlotDef} (h : Spells b d) (h1 : word b 1 = 0) : d = none := by
  cases d with
  | none => rfl
  | some x => exact absurd ((spells_some.1 h).1.symm.trans h1) (by decide)

theorem Spells.valid {d : Option SlotDef} (h : Spells b d) (h1 : word b 1 = 1) : ∃ x, d = some x ∧ Spells b (some x) := by
  cases d with
  | none => exact absurd ((show word b 1 = 0 from h).symm.trans h1) (by decide)
  | some x => exact ⟨x, rfl, h⟩

/-- A definition that its fields spell and that fits the table is of a good kind. -/
theorem not_badKind_of_fits {x : SlotDef} (h : Spells b (some x)) (fits : FitsTable i (some x) s) : ¬ BadKind b i s := by
  obtain ⟨tag, mode, body⟩ := x
  obtain ⟨-, -, -, spelled⟩ := spells_some.1 h
  have h2 : word b 2 = body.number := spelled.kind
  rintro (high | ⟨one, taken⟩) <;> cases body <;> simp only [SlotBody.number] at h2
  case inr.state p => exact fitsTable_state.1 fits taken
  all_goals omega

/-- A valid definition of a good kind and mode. -/
theorem slotDefOf_valid_eq_ok {d : Option SlotDef} {mode : CompareMode} (h1 : word b 1 = 1) (hk : ¬ BadKind b i s)
    (hm : compareModeOf (word b 4) = some mode) : slotDefOf b i s = .ok d ↔ Spells b d ∧ FitsTable i d s := by
  rw [slotDefOf_valid h1 hk hm]
  constructor
  · intro h
    split at h
    · next body hb =>
      cases h
      obtain ⟨spelled, fits⟩ := (slotBodyOf_eq_ok hk).1 hb
      exact ⟨spells_some.2 ⟨h1, rfl, compareModeOf_eq_some.1 hm, spelled⟩, fits⟩
    · cases h
  · rintro ⟨spells, fits⟩
    obtain ⟨⟨tag, mode', body⟩, rfl, hx⟩ := spells.valid h1
    obtain ⟨-, rfl, h4, spelled⟩ := spells_some.1 hx
    rw [← compareModeOf_eq_some, hm] at h4
    cases h4
    rw [(slotBodyOf_eq_ok hk).2 ⟨spelled, fits⟩]

/-- A WRITE_SLOT is read as a definition exactly where its fields spell that definition and it fits the table (R15). -/
theorem slotDefOf_eq_ok {d : Option SlotDef} : slotDefOf b i s = .ok d ↔ Spells b d ∧ FitsTable i d s := by
  have refused {e : Nat × Option Nat} (he : slotDefOf b i s = .error e) (h : ¬ (Spells b d ∧ FitsTable i d s)) :
      slotDefOf b i s = .ok d ↔ Spells b d ∧ FitsTable i d s := by
    rw [he]
    exact ⟨fun hd => (by cases hd), fun hd => absurd hd h⟩
  obtain h1 | h1 | h1 : word b 1 = 0 ∨ word b 1 = 1 ∨ 1 < word b 1 := by omega
  · rw [slotDefOf_invalid h1]
    refine ⟨?_, fun ⟨hd, _⟩ => by rw [hd.invalid h1]⟩
    rintro ⟨⟩
    exact ⟨h1, nofun⟩
  · by_cases hk : BadKind b i s
    · refine refused (slotDefOf_badKind h1 hk) fun ⟨hd, fits⟩ => ?_
      obtain ⟨x, rfl, hx⟩ := hd.valid h1
      exact not_badKind_of_fits hx fits hk
    · by_cases hm : 3 < word b 4
      · refine refused (slotDefOf_badMode h1 hk hm) fun ⟨hd, _⟩ => ?_
        obtain ⟨x, rfl, hx⟩ := hd.valid h1
        obtain ⟨-, -, h4, -⟩ := spells_some.1 hx
        rw [← compareModeOf_eq_some, compareModeOf_eq_none hm] at h4
        cases h4
      · obtain ⟨mode, hm⟩ := exists_compareModeOf (Nat.not_lt.1 hm)
        exact slotDefOf_valid_eq_ok h1 hk hm
  · exact refused (slotDefOf_badFlag h1) fun ⟨hd, _⟩ => absurd hd.flag (Nat.not_le.2 h1)

end Sys2Proof.Machine

/-! ### What a distribution changes: values are filed, and their slot counts them (R28 to R31, R37) -/

namespace Sys2Proof.Machine

variable {s t u : State} {i j : Fin 24} {P : Prop}

/-- A distribution by slot `i`: the slot may count late, duplicate and saturated values, every other slot stays, and the
configuration and the kinds in the summary are kept. -/
structure DistributionActs (i : Fin 24) (s t : State) : Prop where
  frame : StreamFrame s t
  others : ∀ j, j ≠ i → t.slot j = s.slot j
  own : t.slot i = { s.slot i with
    late := (t.slot i).late, duplicates := (t.slot i).duplicates, saturated := (t.slot i).saturated }
  coils : ∀ c, (s.coil c).SameConfig (t.coil c)
  configured : t.coupler.configured = s.coupler.configured
  settings : ∀ n, (t.sec n).settings = (s.sec n).settings
  summary : ∀ k ∈ s.events.summary, k ∈ t.events.summary

theorem SectionFrame.slots (h : SectionFrame s t) : t.slots = s.slots := by rw [h]

theorem SectionActs.slot (h : SectionActs P s t) (j : Fin 24) : t.slot j = s.slot j := by
  unfold State.slot
  rw [h.frame.slots]

theorem StreamFrame.nominal (h : StreamFrame s t) : t.nominal = s.nominal := by rw [h]

namespace DistributionActs

theorem refl (i : Fin 24) (s : State) : DistributionActs i s s :=
  ⟨.refl s, fun _ _ => rfl, rfl, fun _ => .refl _, rfl, fun _ => rfl, fun _ h => h⟩

theorem trans (h : DistributionActs i s t) (h' : DistributionActs i t u) : DistributionActs i s u where
  frame := h.frame.trans h'.frame
  others j hj := (h'.others j hj).trans (h.others j hj)
  own := by rw [h'.own, h.own]
  coils c := (h.coils c).trans (h'.coils c)
  configured := h'.configured.trans h.configured
  settings n := (h'.settings n).trans (h.settings n)
  summary k hk := h'.summary k (h.summary k hk)

/-- The operations of sections, coils and coupler leave every slot as it is. -/
theorem thenSection (h : DistributionActs i s t) (ha : SectionActs P t u) : DistributionActs i s u :=
  h.trans
    { frame := ha.frame.toStream
      others := fun j _ => ha.slot j
      own := by rw [ha.slot i]
      coils := ha.coils
      configured := ha.configured
      settings := ha.settings
      summary := ha.summary }

/-- The slot counts a value. -/
theorem count (h : DistributionActs i s t) {f : Slot → Slot} (hf : ∀ x : Slot, f x = { x with
    late := (f x).late, duplicates := (f x).duplicates, saturated := (f x).saturated } := by exact fun _ => rfl) :
    DistributionActs i s (t.modSlot i f) :=
  h.trans
    { frame := .modSlot t i f
      others := fun j hj => State.slot_modSlot_other t i j f hj
      own := by rw [State.slot_modSlot]; exact hf _
      coils := fun c => by rw [State.coil_modSlot]; exact .refl _
      configured := rfl
      settings := fun n => by rw [State.sec_modSlot]
      summary := fun _ hk => hk }

/-- A ring takes a value. -/
theorem fileRing (h : DistributionActs i s t) (n : SecId) (r : Ring) :
    DistributionActs i s (t.modSec n fun y => { y with ring := r }) :=
  h.trans
    { frame := (SectionFrame.modSec t n _).toStream
      others := fun j _ => State.slot_modSec t n _ j
      own := by rw [State.slot_modSec]
      coils := fun c => by rw [State.coil_modSec]; exact .refl _
      configured := by rw [State.modSec_coupler]
      settings := fun m => by
        by_cases hm : m = n
        · rw [hm, State.sec_modSec]
        · rw [State.sec_modSec_other t n m _ hm]
      summary := fun k hk => by rwa [State.modSec_events] }

end DistributionActs

/-- A ring with its record filed and the report counted in the slot, before the deliveries (R29, R37). -/
def ringFiled (n : SecId) (x : ValueRecord) (s : State) : State :=
  let f := (s.sec n).ring.file s.nominal.modulus x
  let s := s.modSec n fun y => { y with ring := f.ring }
  match f.report with
  | .none => s
  | .late => if (s.slot x.slot).defn.isSome then s.modSlot x.slot fun y => { y with late := satInc y.late } else s
  | .duplicate =>
    if (s.slot x.slot).defn.isSome then s.modSlot x.slot fun y => { y with duplicates := satInc y.duplicates } else s

theorem ringTakes_eq (n : SecId) (x : ValueRecord) (s : State) :
    ringTakes n x s = deliver n ((s.sec n).ring.file s.nominal.modulus x).out (ringFiled n x s) := rfl

theorem ringFiled_acts (h : DistributionActs i s t) (n : SecId) {x : ValueRecord} (hx : x.slot = i) :
    DistributionActs i s (ringFiled n x t) := by
  subst hx
  have filed (r : Ring) := h.fileRing n r
  unfold ringFiled
  dsimp only
  split
  · exact filed _
  · split
    · exact (filed _).count
    · exact filed _
  · split
    · exact (filed _).count
    · exact filed _

theorem ringTakes_acts (h : DistributionActs i s t) (n : SecId) {x : ValueRecord} (hx : x.slot = i) :
    DistributionActs i s (ringTakes n x t) :=
  (ringFiled_acts h n hx).thenSection (deliver_sectionActs (fun _ => trivial) (.refl _) n _)

theorem distributeBinding_acts (h : DistributionActs i s t) (m : List Byte) (b : Binding) :
    DistributionActs i s (distributeBinding i m b t) := by
  unfold distributeBinding
  dsimp only
  split
  · split
    · exact ringTakes_acts h _ rfl
    · exact ringTakes_acts h.count _ rfl
  · exact ringTakes_acts h _ rfl

theorem distribute_acts (i : Fin 24) (b : SlotBody) (p : Port) (m : List Byte) (s : State) :
    DistributionActs i s (distribute i b p m s) := by
  cases b with
  | sample bs =>
    show DistributionActs i s (bs.foldl (fun s x => distributeBinding i m x s) s)
    have folded {t : State} (h : DistributionActs i s t) :
        DistributionActs i s (bs.foldl (fun s x => distributeBinding i m x s) t) := by
      induction bs generalizing t with
      | nil => exact h
      | cons b bs ih => exact ih (distributeBinding_acts h m b)
    exact folded (.refl i s)
  | state k =>
    simp only [distribute]
    split
    · next v _ => exact (DistributionActs.refl i s).thenSection (couplerValue_sectionActs trivial (.refl s) v)
    · exact .refl i s
  | drive c => exact (DistributionActs.refl i s).thenSection (treatStatus_sectionActs trivial (.refl s) c _)

end Sys2Proof.Machine

/-! ### Every step keeps the stream table (R15, R24, R109, R142) -/

namespace Sys2Proof.Machine

variable {s t u : State} {i j : Fin 24} {P : Prop} {x y : Slot} {n : SecId} {c : CoilId}

/-- A slot stands in the band of its error count (R24). -/
def Slot.InBand (x : Slot) : Prop := x.errors ≤ 256 ∧ x.state = slotBand x.errors

/-- What of the state the form of the stream table speaks of is kept, and slots stay in their bands. -/
structure TableActs (s t : State) : Prop where
  slots : ∀ i, (t.slot i).defn = (s.slot i).defn ∧ ((s.slot i).InBand → (t.slot i).InBand)
  bindings : ∀ c, (t.coil c).binding = (s.coil c).binding
  configured : t.coupler.configured = s.coupler.configured

/-- What O60 asks of a state. -/
def TableGood (s : State) : Prop := StreamTableLegal s ∧ BandsHold s

theorem TableActs.good (h : TableActs s t) (hs : TableGood s) : TableGood t := by
  obtain ⟨⟨apart, bound, alone, known⟩, bands⟩ := hs
  have defn (i : Fin 24) : (t.slot i).defn = (s.slot i).defn := (h.slots i).1
  refine ⟨⟨fun i j d e bs cs k l x y hd he => ?_, fun c i => ?_, fun i j hi hj => ?_, ?_⟩,
    fun i => (h.slots i).2 (bands i)⟩
  · rw [defn] at hd he
    exact apart i j d e bs cs k l x y hd he
  · rw [h.bindings, defn]; exact bound c i
  · rw [defn] at hi hj
    exact alone i j hi hj
  · rw [h.configured, known]
    simp only [defn]

namespace TableActs

theorem refl (s : State) : TableActs s s := ⟨fun _ => ⟨rfl, id⟩, fun _ => rfl, rfl⟩

theorem trans (h : TableActs s t) (h' : TableActs t u) : TableActs s u where
  slots i := ⟨(h'.slots i).1.trans (h.slots i).1, fun hb => (h'.slots i).2 ((h.slots i).2 hb)⟩
  bindings c := (h'.bindings c).trans (h.bindings c)
  configured := h'.configured.trans h.configured

theorem ite {b : Prop} [Decidable b] (h : TableActs s t) (h' : TableActs s u) : TableActs s (if b then t else u) := by
  split
  exacts [h, h']

/-- A change of slots alone. -/
theorem of_slots (hc : ∀ c, t.coil c = s.coil c) (hk : t.coupler = s.coupler)
    (hs : ∀ i, (t.slot i).defn = (s.slot i).defn ∧ ((s.slot i).InBand → (t.slot i).InBand)) : TableActs s t :=
  ⟨hs, fun c => by rw [hc], by rw [hk]⟩

/-- A change beyond slots, coils and coupler record. -/
theorem of_same (hs : t.slots = s.slots) (hc : ∀ c, t.coil c = s.coil c) (hk : t.coupler = s.coupler) : TableActs s t :=
  of_slots hc hk fun i => by unfold State.slot; rw [hs]; exact ⟨rfl, id⟩

theorem link (h : TableActs s t) (ha : LinkFrame t u) : TableActs s u :=
  h.trans (of_same ha.toSection.slots ha.coil ha.coupler)

theorem modPort (s : State) (p : Port) (f : PortState → PortState) : TableActs s (s.modPort p f) :=
  (refl s).link (.modPort s p f)

theorem modSec (s : State) (n : SecId) (f : Section → Section) : TableActs s (s.modSec n f) :=
  of_same (State.modSec_slots s n f) (State.coil_modSec s n f) (State.modSec_coupler s n f)

theorem modCoil (s : State) (c : CoilId) {f : Coil → Coil} (hf : ∀ k, (f k).binding = k.binding := by exact fun _ => rfl) :
    TableActs s (s.modCoil c f) where
  slots i := by rw [State.slot_modCoil]; exact ⟨rfl, id⟩
  bindings d := by
    by_cases hd : d = c
    · rw [hd, State.coil_modCoil]; exact hf _
    · rw [State.coil_modCoil_other s c d f hd]
  configured := by rw [State.modCoil_coupler]

theorem setSlot (s : State) (i : Fin 24) {x : Slot} (hd : x.defn = (s.slot i).defn)
    (hb : (s.slot i).InBand → x.InBand) : TableActs s (s.setSlot i x) :=
  of_slots (State.coil_setSlot s i x) rfl fun j => by
    by_cases hj : j = i
    · rw [hj, State.slot_setSlot]; exact ⟨hd, hb⟩
    · rw [State.slot_setSlot_other s i j x hj]; exact ⟨rfl, id⟩

end TableActs

theorem SectionActs.table (h : SectionActs P s t) : TableActs s t where
  slots i := by rw [h.slot i]; exact ⟨rfl, id⟩
  bindings c := (h.coils c).same_binding
  configured := h.configured

theorem DistributionActs.table (h : DistributionActs i s t) : TableActs s t where
  slots j := by
    by_cases hj : j = i
    · rw [hj, h.own]; exact ⟨rfl, id⟩
    · rw [h.others j hj]; exact ⟨rfl, id⟩
  bindings c := (h.coils c).same_binding
  configured := h.configured

/-! Receptions -/

theorem Slot.InBand.count {f : Nat → Nat} (h : x.InBand) (hf : ∀ e, e ≤ 256 → f e ≤ 256) : (x.count f).InBand := by
  unfold Slot.count
  split
  · exact h
  · exact ⟨hf _ h.1, rfl⟩

theorem Slot.count_defn (x : Slot) (f : Nat → Nat) : (x.count f).defn = x.defn := by
  unfold Slot.count
  split <;> rfl

theorem Slot.judged_table (x : Slot) (b : Bool) (c : Nat) (j : Judgement) :
    (x.judged b c j).defn = x.defn ∧ (x.InBand → (x.judged b c j).InBand) := by
  have more := x.count_defn moreErrors
  have moreBand (h : x.InBand) : (x.count moreErrors).InBand := h.count fun e _ => Nat.min_le_right _ _
  have fewerBand (h : x.InBand) : (x.count fewerErrors).InBand := h.count fun e he => (Nat.sub_le e 1).trans he
  cases j with
  | malformed => exact ⟨more, moreBand⟩
  | inSequence => exact ⟨x.count_defn fewerErrors, fewerBand⟩
  | again => cases b <;> exact ⟨rfl, id⟩
  | gap => exact ⟨more, moreBand⟩
  | late => exact ⟨more, moreBand⟩

theorem slotTakes_table (i : Fin 24) (b : SlotBody) (p : Port) (m : List Byte) (s : State) :
    TableActs s (slotTakes i b p m s) := by
  have judged (c : Nat) (j : Judgement) : TableActs s (s.setSlot i ((s.slot i).judged b.isSample c j)) :=
    .setSlot s i (Slot.judged_table _ _ _ _).1 (Slot.judged_table _ _ _ _).2
  have told {x : Slot} (h : TableActs s (s.setSlot i x)) :
      TableActs s (slotStateChanged i b (s.slot i).state x.state (s.setSlot i x)) :=
    h.trans (slotStateChanged_sectionActs (P := True) (.refl _) i b _ _).table
  exact .ite ((told (judged _ _)).trans (distribute_acts i b p m _).table) (told (judged _ _))

theorem offerToMatcher_table (k : FrameClass) (p : Port) (m : List Byte) (s : State) :
    TableActs s (offerToMatcher k p m s) := by
  have uncounted : TableActs s (countUnmatched p s) := .modPort s p _
  unfold offerToMatcher
  split
  · exact uncounted
  · split
    · exact uncounted
    · split
      · exact slotTakes_table _ _ _ _ _
      · exact .refl s

theorem handleGood_table (p : Port) (f : Frame) (s : State) : TableActs s (handleGood p f s) := by
  have relayed := (TableActs.refl s).link (relay_frame p f s)
  unfold handleGood
  dsimp only
  split
  · exact relayed
  · exact relayed
  · exact relayed.link (countUnmatched_frame p _)
  · exact relayed.trans (offerToMatcher_table _ _ _ _)
  · exact relayed.trans (offerToMatcher_table _ _ _ _)
  · exact relayed.trans (offerToMatcher_table _ _ _ _)
  · refine .ite ?_ relayed
    unfold enqueueRequest
    split <;> exact .of_same rfl (fun c => by cases c <;> rfl) rfl

theorem receive_table (p : Port) (f : Frame) (lost : Bool) (s : State) : TableActs s (receive p f lost s) := by
  have counted (t : State) (g : PortState → PortState) := TableActs.modPort t p g
  exact .ite ((counted _ _).trans (counted _ _)) ((counted _ _).trans (handleGood_table _ _ _))

/-! Requests that leave the definitions -/

theorem answer_table (r : Request) (x : Served) : TableActs x.state (answer r x) := by
  refine .of_same ?_ (fun c => ?_) ?_ <;> rw [answer_frame]
  cases c <;> rfl

theorem forgetCount_table (x : Slot) : x.forgetCount.defn = x.defn ∧ (x.InBand → x.forgetCount.InBand) := by
  unfold Slot.forgetCount
  split <;> exact ⟨rfl, id⟩

theorem slot_mapSlots (s : State) (f : Slot → Slot) (i : Fin 24) :
    State.slot { s with slots := s.slots.map f } i = f (s.slot i) := by
  simp [State.slot]

/-- A thenSections ring and estimate are cleared, with the quick count and the decision counter (R47, R85). -/
def clearMeasurement (n : SecId) (s : State) : State := resetEstimate n (s.modSec n fun x => { x with ring := Ring.cleared })

theorem writeNominal_eq (f : Nominal) (s : State) : writeNominal f s =
    clearMeasurement .s2 (clearMeasurement .s1 { s with nominal := f, slots := s.slots.map Slot.forgetCount }) := rfl

theorem resetEstimate_table (n : SecId) (s : State) : TableActs s (resetEstimate n s) := .modSec s n _

theorem clearMeasurement_table (n : SecId) (s : State) : TableActs s (clearMeasurement n s) := by
  have cleared : TableActs s (s.modSec n fun x => { x with ring := Ring.cleared }) := .modSec s n _
  exact cleared.trans (resetEstimate_table n _)

theorem writeNominal_table (f : Nominal) (s : State) : TableActs s (writeNominal f s) := by
  have forgot : TableActs s { s with nominal := f, slots := s.slots.map Slot.forgetCount } :=
    .of_slots (fun c => by cases c <;> rfl) rfl fun i => by
      rw [show State.slot { s with nominal := f, slots := s.slots.map Slot.forgetCount } i = (s.slot i).forgetCount from
        slot_mapSlots s _ i]
      exact forgetCount_table _
  rw [writeNominal_eq]
  exact (forgot.trans (clearMeasurement_table _ _)).trans (clearMeasurement_table _ _)

theorem enableSlot_table (i : Fin 24) (s : State) : TableActs s (enableSlot i s) := by
  have enabled : TableActs s (s.setSlot i { s.slot i with errors := 0, state := .active, last := none }) :=
    .setSlot s i rfl fun _ => ⟨Nat.zero_le _, rfl⟩
  have told : TableActs s (if (s.slot i).state = .active then s.setSlot i { s.slot i with
      errors := 0, state := .active, last := none } else raise .streamState (.slot i) (s.setSlot i { s.slot i with
      errors := 0, state := .active, last := none })) := .ite enabled (enabled.link (raise_frame _ _ _))
  exact .ite (told.trans (reportAvailability_sectionActs (P := True) (.refl _) _).table) told

theorem DriveActs.table (h : DriveActs s t) : TableActs s t := (SectionActs.drive (P := True) (.refl s) h).table

theorem resetPart_table (s : State) : TableActs s (resetPart s) := by
  have blocks : TableActs s (resetBlocks s) :=
    { slots := fun i => by
        rw [show (resetBlocks s).slot i = (s.slot i).resetPart from slot_mapSlots s Slot.resetPart i]
        exact ⟨rfl, fun _ => ⟨Nat.zero_le _, rfl⟩⟩
      bindings := fun c => by rw [coil_resetBlocks]; rfl
      configured := rfl }
  rw [resetPart_eq]
  exact ((((blocks.trans (resetOffered_acts s).table).trans (.modPort _ .a _)).trans (.modPort _ .b _)).trans
    (.modCoil _ .c1)).trans (.modCoil _ .c2)

/-! WRITE_SLOT -/

/-- The slot with its written definition, and both coils bound or unbound by it, before the coupler is told (R16, R109). -/
def slotWritten (i : Fin 24) (d : Option SlotDef) (s : State) : State :=
  let t := s.setSlot i (Slot.fresh d)
  let t := if (s.slot i).state = .active then t else raise .streamState (.slot i) t
  (t.modCoil .c1 fun k => k.rebind .c1 i d).modCoil .c2 fun k => k.rebind .c2 i d

theorem writeSlot_eq (i : Fin 24) (d : Option SlotDef) (s : State) :
    writeSlot i d s = rewriteCoupler (isStateSlot (s.slot i).defn) (isStateSlot d) (slotWritten i d s) := rfl

theorem raise_setSlot_cases {i : Fin 24} {x : Slot} {s : State} {b : Prop} [Decidable b] (k : EventKind) (o : Obj) :
    LinkFrame (s.setSlot i x) (if b then s.setSlot i x else raise k o (s.setSlot i x)) := by
  split
  · exact .refl _
  · exact raise_frame _ _ _

theorem coil_slotWritten (i : Fin 24) (d : Option SlotDef) (s : State) (c : CoilId) :
    (slotWritten i d s).coil c = (s.coil c).rebind c i d := by
  have kept (c : CoilId) : (if (s.slot i).state = .active then s.setSlot i (Slot.fresh d)
      else raise .streamState (.slot i) (s.setSlot i (Slot.fresh d))).coil c = s.coil c :=
    (LinkFrame.coil (raise_setSlot_cases _ _) c).trans (State.coil_setSlot s i _ c)
  unfold slotWritten
  cases c
  · rw [State.coil_modCoil_other _ _ _ _ (by simp), State.coil_modCoil, kept]
  · rw [State.coil_modCoil, State.coil_modCoil_other _ _ _ _ (by simp), kept]

theorem slot_of_linkFrame (h : LinkFrame s t) (j : Fin 24) : t.slot j = s.slot j := by
  unfold State.slot
  rw [h.toSection.slots]

theorem slot_slotWritten (i : Fin 24) (d : Option SlotDef) (s : State) (j : Fin 24) :
    (slotWritten i d s).slot j = if j = i then Slot.fresh d else s.slot j := by
  unfold slotWritten
  rw [State.slot_modCoil, State.slot_modCoil, slot_of_linkFrame (raise_setSlot_cases _ _)]
  split
  · next h => rw [h, State.slot_setSlot]
  · next h => rw [State.slot_setSlot_other s i j _ h]

theorem coupler_slotWritten (i : Fin 24) (d : Option SlotDef) (s : State) : (slotWritten i d s).coupler = s.coupler := by
  unfold slotWritten
  rw [State.modCoil_coupler, State.modCoil_coupler, LinkFrame.coupler (raise_setSlot_cases _ _)]
  rfl

/-- The binding of a coil after slot `i` is written (R109). -/
theorem rebind_binding (k : Coil) (c : CoilId) (i : Fin 24) (d : Option SlotDef) : (k.rebind c i d).binding =
    if namesCoil d c then some i else if k.binding = some i then none else k.binding := by
  unfold Coil.rebind
  split
  · split
    · assumption
    · rfl
  · split <;> rfl

/-- The coupler record is told of the STATE slot, with the effects of the unsure causes on the sections (R142, R143). -/
theorem rewriteCoupler_acts (was now : Bool) (s : State) : ∃ x : Coupler,
    x.configured = (if was = now then s.coupler.configured else now)
      ∧ SectionActs False { s with coupler := x } (rewriteCoupler was now s) := by
  cases was <;> cases now
  · exact ⟨s.coupler, rfl, .refl _⟩
  · exact ⟨{ s.coupler with configured := true, available := true, last := none }, rfl, setUnsure_sectionActs (.refl _) _⟩
  · exact ⟨{ s.coupler with configured := false, available := false, last := none, staleTimer := none }, rfl,
      setUnsure_sectionActs (.refl _) _⟩
  · exact ⟨s.coupler, rfl, reportAvailability_sectionActs (.refl _) _⟩

theorem writeSlot_table (i : Fin 24) (d : Option SlotDef) (s : State) :
    (∀ j, (writeSlot i d s).slot j = if j = i then Slot.fresh d else s.slot j)
      ∧ (∀ c, ((writeSlot i d s).coil c).binding =
          if namesCoil d c then some i else if (s.coil c).binding = some i then none else (s.coil c).binding)
      ∧ (writeSlot i d s).coupler.configured =
          if isStateSlot (s.slot i).defn = isStateSlot d then s.coupler.configured else isStateSlot d := by
  obtain ⟨x, configured, acts⟩ := rewriteCoupler_acts (isStateSlot (s.slot i).defn) (isStateSlot d) (slotWritten i d s)
  rw [writeSlot_eq]
  refine ⟨fun j => ?_, fun c => ?_, ?_⟩
  · rw [acts.slot j]; exact slot_slotWritten i d s j
  · rw [(acts.coils c).same_binding, ← rebind_binding, ← coil_slotWritten]; cases c <;> rfl
  · rw [acts.configured, ← coupler_slotWritten i d s]; exact configured

/-- The definition of a slot of the table once slot `i` holds `d`. -/
theorem defn_written {d : Option SlotDef} (h : t.slot j = if j = i then Slot.fresh d else s.slot j) :
    (t.slot j).defn = if j = i then d else (s.slot j).defn := by
  rw [h]
  split <;> rfl

/-- A definition that fits the table names a STATE point, or a coil, that no other slot names (R15). -/
theorem FitsTable.alone {d : Option SlotDef} (fits : FitsTable i d s) (hj : j ≠ i) :
    (isStateSlot d = true → isStateSlot (s.slot j).defn = false)
      ∧ ∀ c, namesCoil d c = true → namesCoil (s.slot j).defn c = false := by
  obtain _ | ⟨tag, mode, body⟩ := d
  · exact ⟨(by rintro ⟨⟩), (by rintro _ ⟨⟩)⟩
  · cases body with
    | state p => exact ⟨fun _ => fits _ rfl j hj, (by rintro _ ⟨⟩)⟩
    | sample bs => exact ⟨(by rintro ⟨⟩), (by rintro _ ⟨⟩)⟩
    | drive c =>
      refine ⟨(by rintro ⟨⟩), fun c' hd => ?_⟩
      obtain rfl : c = c' := by simpa [namesCoil] using hd
      exact fits _ rfl j hj

/-- A SAMPLE definition that fits the table binds no role and section twice, and none that another slot binds (R15). -/
theorem FitsTable.sample {d : SlotDef} {bs : List Binding} (fits : FitsTable i (some d) s) (hb : d.body = .sample bs) :
    (∀ (k l : Nat) (y z : Binding), bs[k]? = some y → bs[l]? = some z → y.role = z.role → y.sec = z.sec → k = l)
      ∧ ∀ j, j ≠ i → ∀ e cs, (s.slot j).defn = some e → e.body = .sample cs → ∀ y ∈ bs, ∀ z ∈ cs,
        ¬ (y.role = z.role ∧ y.sec = z.sec) := by
  obtain ⟨tag, mode, body⟩ := d
  obtain rfl : body = .sample bs := hb
  exact fits _ rfl

/-- A definition that fits the table leaves its bindings apart (R15). -/
theorem FitsTable.keepsApart {d : Option SlotDef} (fits : FitsTable i d s)
    (defn : ∀ j, (t.slot j).defn = if j = i then d else (s.slot j).defn) (hs : StreamTableLegal s)
    (j k : Fin 24) (e f : SlotDef) (bs cs : List Binding) (m l : Nat) (x y : Binding)
    (he : (t.slot j).defn = some e) (hf : (t.slot k).defn = some f) (hb : e.body = .sample bs) (hc : f.body = .sample cs)
    (hx : bs[m]? = some x) (hy : cs[l]? = some y) (role : x.role = y.role) (sec : x.sec = y.sec) : j = k ∧ m = l := by
  rw [defn] at he hf
  by_cases hj : j = i <;> by_cases hk : k = i
  · rw [if_pos hj] at he
    rw [if_pos hk, he] at hf
    cases hf
    obtain rfl : bs = cs := SlotBody.sample.inj (hb.symm.trans hc)
    subst he
    exact ⟨hj.trans hk.symm, (fits.sample hb).1 m l x y hx hy role sec⟩
  · rw [if_pos hj] at he
    rw [if_neg hk] at hf
    subst he
    exact absurd ⟨role, sec⟩
      ((fits.sample hb).2 k hk f cs hf hc x (List.mem_of_getElem? hx) y (List.mem_of_getElem? hy))
  · rw [if_neg hj] at he
    rw [if_pos hk] at hf
    subst hf
    exact absurd ⟨role.symm, sec.symm⟩
      ((fits.sample hc).2 j hj e bs he hb y (List.mem_of_getElem? hy) x (List.mem_of_getElem? hx))
  · rw [if_neg hj] at he
    rw [if_neg hk] at hf
    exact hs.1 j k e f bs cs m l x y he hf hb hc hx hy role sec

/-- Each coil stays bound exactly to the DRIVE slot that names it (R109). -/
theorem FitsTable.keepsBound {d : Option SlotDef} (fits : FitsTable i d s)
    (defn : ∀ j, (t.slot j).defn = if j = i then d else (s.slot j).defn)
    (binding : (t.coil c).binding =
      if namesCoil d c then some i else if (s.coil c).binding = some i then none else (s.coil c).binding)
    (hs : ∀ c i, (s.coil c).binding = some i ↔ namesCoil (s.slot i).defn c = true) (j : Fin 24) :
    (t.coil c).binding = some j ↔ namesCoil (t.slot j).defn c = true := by
  rw [binding, defn]
  by_cases hj : j = i
  · subst hj
    by_cases hd : namesCoil d c = true
    · simp [hd]
    · by_cases hb : (s.coil c).binding = some j <;> simp [hd, hb]
  · rw [if_neg hj, ← hs]
    by_cases hd : namesCoil d c = true
    · have free := (fits.alone hj).2 c hd
      have unbound : (s.coil c).binding ≠ some j := fun hb => by simp [(hs c j).1 hb] at free
      simp [hd, unbound, Ne.symm hj]
    · by_cases hb : (s.coil c).binding = some i
      · simp [hd, hb, Ne.symm hj]
      · simp [hd, hb]

/-- There stays one STATE slot at most (R15). -/
theorem FitsTable.keepsAlone {d : Option SlotDef} (fits : FitsTable i d s)
    (defn : ∀ j, (t.slot j).defn = if j = i then d else (s.slot j).defn)
    (hs : ∀ i j, isStateSlot (s.slot i).defn = true → isStateSlot (s.slot j).defn = true → i = j) (j k : Fin 24)
    (hj : isStateSlot (t.slot j).defn = true) (hk : isStateSlot (t.slot k).defn = true) : j = k := by
  rw [defn] at hj hk
  by_cases hji : j = i <;> by_cases hki : k = i
  · exact hji.trans hki.symm
  · rw [if_pos hji] at hj
    rw [if_neg hki, (fits.alone hki).1 hj] at hk
    cases hk
  · rw [if_pos hki] at hk
    rw [if_neg hji, (fits.alone hji).1 hk] at hj
    cases hj
  · rw [if_neg hji] at hj
    rw [if_neg hki] at hk
    exact hs j k hj hk

/-- The coupler record goes on to know whether there is a STATE slot (R142). -/
theorem configured_written {d : Option SlotDef} (defn : ∀ j, (t.slot j).defn = if j = i then d else (s.slot j).defn)
    (configured : t.coupler.configured =
      if isStateSlot (s.slot i).defn = isStateSlot d then s.coupler.configured else isStateSlot d)
    (hs : StreamTableLegal s) : t.coupler.configured = true ↔ ∃ j, isStateSlot (t.slot j).defn = true := by
  obtain ⟨-, -, alone, known⟩ := hs
  rw [configured]
  simp only [defn]
  by_cases hd : isStateSlot d = true
  · have here : ∃ j, isStateSlot (if j = i then d else (s.slot j).defn) = true := ⟨i, by rwa [if_pos rfl]⟩
    split
    · next same => exact ⟨fun _ => here, fun _ => known.2 ⟨i, same.trans hd⟩⟩
    · exact ⟨fun _ => here, fun _ => hd⟩
  · split
    · next same =>
      rw [known]
      refine exists_congr fun j => ?_
      split
      · next hj => rw [hj, same]
      · exact Iff.rfl
    · next other =>
      refine ⟨fun h => absurd h hd, fun ⟨j, hj⟩ => ?_⟩
      have was : isStateSlot (s.slot i).defn = true := by
        cases h : isStateSlot (s.slot i).defn <;> simp_all
      split at hj
      · exact absurd hj hd
      · next hji => exact absurd (alone j i hj was) hji

/-- A definition that fits the table leaves its form good (R15, R109, R142). -/
theorem writeSlot_good {d : Option SlotDef} (fits : FitsTable i d s) (h : TableGood s) : TableGood (writeSlot i d s) := by
  obtain ⟨slots, bindings, configured⟩ := writeSlot_table i d s
  have defn (j : Fin 24) := defn_written (slots j)
  obtain ⟨legal, bands⟩ := h
  obtain ⟨-, bound, alone, -⟩ := id legal
  refine ⟨⟨fits.keepsApart defn legal, fun c j => fits.keepsBound defn (bindings c) bound j, fits.keepsAlone defn alone,
    configured_written defn configured legal⟩, fun j => ?_⟩
  rw [slots]
  split
  · cases d <;> exact ⟨Nat.zero_le _, rfl⟩
  · exact bands j

theorem serveWriteSlot_good (b : List Byte) (h : TableGood s) : TableGood (serveWriteSlot b s).state := by
  unfold serveWriteSlot
  split
  · exact h
  · split
    · exact h
    · split
      · exact h
      · next hd =>
        split
        · exact h
        · exact writeSlot_good (slotDefOf_eq_ok.1 hd).2 h

/-! Every other request leaves the definitions -/

theorem noFields_table {f : State → Served} (hf : ∀ s, TableActs s (f s).state) (b : List Byte) (s : State) :
    TableActs s (noFields f b s).state := by
  unfold noFields
  split
  exacts [hf s, .refl s]

theorem withSection_table {f : SecId → State → Served} (hf : ∀ n s, TableActs s (f n s).state) (b : List Byte)
    (s : State) : TableActs s (withSection f b s).state := by
  unfold withSection
  split
  · split
    exacts [hf _ s, .refl s]
  · exact .refl s

theorem withCoil_table {f : CoilId → State → Served} (hf : ∀ c s, TableActs s (f c s).state) (b : List Byte) (s : State) :
    TableActs s (withCoil f b s).state := by
  unfold withCoil
  split
  · split
    exacts [hf _ s, .refl s]
  · exact .refl s

theorem withSlot_table {f : Fin 24 → State → Served} (hf : ∀ i s, TableActs s (f i s).state) (b : List Byte) (s : State) :
    TableActs s (withSlot f b s).state := by
  unfold withSlot
  split
  · split
    exacts [hf _ s, .refl s]
  · exact .refl s

theorem done_table (h : TableActs s t) : TableActs s (done t).state := h

theorem serveWriteMasks_table (b : List Byte) (s : State) : TableActs s (serveWriteMasks b s).state := by
  unfold serveWriteMasks
  split
  · exact .refl s
  · split
    · exact .refl s
    · exact .of_same rfl (fun c => by cases c <;> rfl) rfl

theorem serveEnableSlot_table (i : Fin 24) (s : State) : TableActs s (serveEnableSlot i s).state := by
  unfold serveEnableSlot
  split
  exacts [enableSlot_table i s, .refl s]

theorem writeTable_table (c : CoilId) (ps : List TablePoint) (s : State) : TableActs s (writeTable c ps s) := .modCoil s c

theorem serveWriteCoilTable_table (b : List Byte) (s : State) : TableActs s (serveWriteCoilTable b s).state := by
  unfold serveWriteCoilTable
  split
  · exact .refl s
  · split
    · exact .refl s
    · split
      · exact .refl s
      · dsimp only
        split
        · exact .refl s
        · split
          · exact writeTable_table _ _ s
          · exact .refl s

theorem serveWriteSectionSettings_table (b : List Byte) (s : State) : TableActs s (serveWriteSectionSettings b s).state := by
  unfold serveWriteSectionSettings
  split
  · exact .refl s
  · split
    · exact .refl s
    · dsimp only
      split
      · exact .refl s
      · split
        · exact done_table (.modSec s _ _)
        · exact .refl s

theorem serveWriteCoilSettings_table (b : List Byte) (s : State) : TableActs s (serveWriteCoilSettings b s).state := by
  unfold serveWriteCoilSettings
  split
  · exact .refl s
  · split
    · exact .refl s
    · dsimp only
      split
      · exact .refl s
      · split
        · exact done_table (.modCoil s _)
        · exact .refl s

theorem writeLive_table (g : Globals) (s : State) : TableActs s (writeLive g s) :=
  .of_same rfl (fun c => by cases c <;> rfl) rfl

theorem serveWriteGlobal_table (b : List Byte) (s : State) : TableActs s (serveWriteGlobal b s).state := by
  unfold serveWriteGlobal
  split
  · exact .refl s
  · split
    · exact .refl s
    · dsimp only
      split
      · have timed (t : State) (n : Nat) : TableActs t { t with couplerTimeout := n } :=
          .of_same rfl (fun c => by cases c <;> rfl) rfl
        exact ((writeNominal_table _ s).trans (timed _ _)).trans (writeLive_table _ _)
      · split
        exacts [writeLive_table _ s, .refl s]

theorem serveReadState_table (s : State) : TableActs s (serveReadState s).state :=
  .of_same rfl (fun c => by cases c <;> rfl) rfl

theorem serveReadEvents_table (s : State) : TableActs s (serveReadEvents s).state :=
  .of_same rfl (fun c => by cases c <;> rfl) rfl

theorem serveReadSummary_table (s : State) : TableActs s (serveReadSummary s).state :=
  .of_same rfl (fun c => by cases c <;> rfl) rfl

theorem serveReadCounters_table (b : List Byte) (s : State) : TableActs s (serveReadCounters b s).state := by
  unfold serveReadCounters
  split
  · exact .refl s
  · split
    · split
      · exact .setSlot s _ rfl id
      · exact .refl s
    · split
      · exact .modPort s _ _
      · exact .refl s
    · exact .refl s

theorem serveEnableSection_table (n : SecId) (s : State) : TableActs s (serveEnableSection n s).state := by
  unfold serveEnableSection
  split
  exacts [(enterStarting_sectionActs trivial (.refl s) n).table, .refl s]

theorem serveRestartSection_table (n : SecId) (s : State) : TableActs s (serveRestartSection n s).state := by
  unfold serveRestartSection
  split
  exacts [(enterStarting_sectionActs trivial (.refl s) n).table, .refl s]

theorem setFrozen_table (z : Bool) (n : SecId) (s : State) : TableActs s (setFrozen z n s) :=
  (setInhibit_sectionActs (P := True) (.refl s) n _).table

theorem serveReleaseCoil_table (c : CoilId) (s : State) : TableActs s (serveReleaseCoil c s).state := by
  unfold serveReleaseCoil
  split
  exacts [.modCoil s c, .refl s]

theorem serveManualMove_table (b : List Byte) (s : State) : TableActs s (serveManualMove b s).state := by
  unfold serveManualMove
  split
  · exact .refl s
  · split
    · exact .refl s
    · split
      · exact .refl s
      · split
        · exact .ite (.refl s) (SectionActs.coil (P := True) (.refl s) (requestMove_acts _ _ _ _)).table
        · exact .refl s

/-- Every request but WRITE_SLOT leaves definitions, bindings and the coupler's configuration (11.3). -/
theorem served_table {k : Nat} (hk : k ≠ 3) (b : List Byte) (s : State) : TableActs s (served k b s).state := by
  unfold served
  split
  case h_1 => exact noFields_table (fun s => .refl s) b s
  case h_2 => exact withSlot_table (fun _ s => .refl s) b s
  case h_3 => exact absurd rfl hk
  case h_4 => exact serveWriteMasks_table b s
  case h_5 => exact withSlot_table serveEnableSlot_table b s
  case h_6 => exact withCoil_table (fun _ s => .refl s) b s
  case h_7 => exact serveWriteCoilTable_table b s
  case h_8 => exact withSection_table (fun _ s => .refl s) b s
  case h_9 => exact serveWriteSectionSettings_table b s
  case h_10 => exact withCoil_table (fun _ s => .refl s) b s
  case h_11 => exact serveWriteCoilSettings_table b s
  case h_12 => exact serveWriteGlobal_table b s
  case h_13 => exact noFields_table serveReadState_table b s
  case h_14 => exact noFields_table serveReadEvents_table b s
  case h_15 => exact noFields_table serveReadSummary_table b s
  case h_16 => exact serveReadCounters_table b s
  case h_17 => exact withSection_table serveEnableSection_table b s
  case h_18 => exact withSection_table (fun n s => (disableSection_sectionActs (P := True) (.refl s) n).table) b s
  case h_19 => exact withSection_table serveRestartSection_table b s
  case h_20 => exact withSection_table (setFrozen_table true) b s
  case h_21 => exact withSection_table (setFrozen_table false) b s
  case h_22 => exact withCoil_table serveReleaseCoil_table b s
  case h_23 => exact serveManualMove_table b s
  case h_24 => exact noFields_table resetPart_table b s
  case h_25 => exact .refl s

theorem served_good (k : Nat) (b : List Byte) (h : TableGood s) : TableGood (served k b s).state := by
  by_cases hk : k = 3
  · subst hk
    exact serveWriteSlot_good b h
  · exact (served_table hk b s).good h

theorem answer_good {x : Served} (h : TableGood x.state) (r : Request) : TableGood (answer r x) := (answer_table r x).good h

theorem serve_good (k : Nat) (h : TableGood s) : TableGood (serve k (served k) s) := by
  unfold serve
  split
  · exact h
  · split
    · split
      · exact answer_good h _
      · exact answer_good (served_good k _ h) _
    · exact h

theorem serveUnknown_good (h : TableGood s) : TableGood (serveUnknown s) := by
  unfold serveUnknown
  split
  · exact h
  · split
    exacts [answer_good (x := unchanged s _) h _, h]

/-! ### Every command keeps the stream table -/

/-- What a command answers keeps the stream table. -/
def AnswersTable (o : Host.Outcome State Fault Refusal) : Prop := ∀ t, o = .next t → TableGood t

theorem answersTable_next (h : TableGood t) : AnswersTable (.next t) := by
  rintro _ ⟨⟩
  exact h

theorem answersTable_act {f : State → State} (h : TableGood s) (hf : TableGood (f s)) : AnswersTable (.next (act f s)) := by
  refine answersTable_next ?_
  cases hl : s.live
  · rwa [act_still hl]
  · rw [act_live hl]
    exact (conclude_sectionActs (P := True) (.refl _)).table.good hf

theorem answersTable_acts {f : State → State} (h : TableGood s) (hf : TableActs s (f s)) : AnswersTable (.next (act f s)) :=
  answersTable_act h (hf.good h)

theorem answersTable_served (h : TableGood s) (k : Nat) : AnswersTable (.next (act (serve k (served k)) s)) :=
  answersTable_act h (serve_good k h)

/-- The table after reset: no slot is defined, no coil bound, and no coupler record configured. -/
theorem tableGood_initial (straps : BitVec 4) (la lb : Link) : TableGood (State.initial straps la lb) := by
  have slot (i : Fin 24) : (State.initial straps la lb).slot i = Slot.fresh none := by simp [State.slot, State.initial]
  refine ⟨⟨?_, fun c i => ?_, fun i j hi => ?_, ?_⟩, fun i => ?_⟩
  · intro i j d e _ _ _ _ _ _ hd
    rw [slot] at hd
    cases hd
  · rw [slot]
    refine ⟨fun h => ?_, fun h => ?_⟩
    · cases c <;> cases h
    · cases h
  · rw [slot] at hi
    cases hi
  · refine ⟨fun h => ?_, fun ⟨i, hi⟩ => ?_⟩
    · cases h
    · rw [slot] at hi
      cases hi
  · rw [slot]
    exact ⟨Nat.zero_le _, rfl⟩

theorem tableGood_restarted (s : State) (straps : BitVec 4) (la lb : Link) :
    TableGood { State.initial straps la lb with pending := s.pending } := by
  have pended : TableActs (State.initial straps la lb) { State.initial straps la lb with pending := s.pending } :=
    .of_same rfl (fun c => by cases c <;> rfl) rfl
  exact pended.good (tableGood_initial straps la lb)

theorem linkReport_table (h : TableGood s) (p : Port) (l : Link) {f : State → State} (hf : TableActs s (f s)) :
    AnswersTable (.next (if s.live then act f s else s.modPort p fun x => { x with link := l })) := by
  split
  · exact answersTable_acts h hf
  · exact answersTable_next ((TableActs.modPort s p _).good h)

theorem loseLink_table (p : Port) (s : State) : TableActs s (loseLink p s) :=
  .ite ((TableActs.modPort s p _).link (raise_frame _ _ _)) (.refl s)

theorem resetHeld_table (h : TableGood s) : AnswersTable (exec .resetHeld s) := by
  show AnswersTable (.next (if s.supplyOk then _ else _))
  split
  · refine answersTable_next (TableActs.good (.of_same rfl (fun c => ?_) rfl) h)
    cases c <;> rfl
  · exact answersTable_next h

theorem resetRelease_table (h : TableGood s) (straps : BitVec 4) (la lb : Link) :
    AnswersTable (exec (.resetRelease straps la lb) s) := by
  show AnswersTable (.next (if s.supplyOk && s.held then _ else _))
  split
  · exact answersTable_next (tableGood_restarted s straps la lb)
  · exact answersTable_next h

theorem failCoilIf_table {b : Prop} [Decidable b] (c : CoilId) (k : EventKind) (s : State) :
    TableActs s (if b then failCoil c k s else s) :=
  .ite (failCoil_sectionActs (P := True) (.refl s) c k).table (.refl s)

theorem alarmReasserts_table (s : State) : TableActs s (alarmReasserts s) := by
  unfold alarmReasserts
  split
  · exact .of_same rfl (fun c => by cases c <;> rfl) rfl
  · exact .refl s
  · exact .refl s

theorem exec_table (i : Instr) (h : TableGood s) : AnswersTable (exec i s) := by
  cases i with
  | frameReceptionComplete p f lost => exact answersTable_acts h (receive_table p f lost s)
  | holdOffRunOut n => exact answersTable_acts h (holdOffRunsOut_sectionActs trivial (.refl s) n).table
  | transmitComplete p => exact answersTable_acts h (.modPort s p _)
  | linkLoss p => exact linkReport_table h p .down (loseLink_table p s)
  | linkRestoration p => exact linkReport_table h p .up (.modPort s p _)
  | powerOn straps la lb => exact answersTable_next (tableGood_restarted s straps la lb)
  | resetHeld => exact resetHeld_table h
  | resetRelease straps la lb => exact resetRelease_table h straps la lb
  | acceptTimeoutExpiry c => exact answersTable_acts h (acceptanceExpires_sectionActs (P := True) (.refl s) c).table
  | confirmationTimerExpiry c => exact answersTable_acts h (failCoilIf_table c _ s)
  | moveTimeLimitExpiry c => exact answersTable_acts h (failCoilIf_table c _ s)
  | silenceExpiry c => exact answersTable_acts h (failCoilIf_table c _ s)
  | staleTimerExpiry => exact answersTable_acts h (staleExpires_sectionActs (P := True) (.refl s)).table
  | alarmReassertion => exact answersTable_acts h (alarmReasserts_table s)
  | readInfo => exact answersTable_served h 1
  | readSlot => exact answersTable_served h 2
  | writeSlot => exact answersTable_served h 3
  | writeMasks => exact answersTable_served h 4
  | enableSlot => exact answersTable_served h 5
  | readCoilTable => exact answersTable_served h 6
  | writeCoilTable => exact answersTable_served h 7
  | readSectionSettings => exact answersTable_served h 8
  | writeSectionSettings => exact answersTable_served h 9
  | readCoilSettings => exact answersTable_served h 10
  | writeCoilSettings => exact answersTable_served h 11
  | writeGlobal => exact answersTable_served h 12
  | readState => exact answersTable_served h 13
  | readEvents => exact answersTable_served h 14
  | readSummary => exact answersTable_served h 15
  | readCounters => exact answersTable_served h 16
  | enableSection => exact answersTable_served h 17
  | disableSection => exact answersTable_served h 18
  | restartSection => exact answersTable_served h 19
  | freeze => exact answersTable_served h 20
  | unfreeze => exact answersTable_served h 21
  | releaseCoil => exact answersTable_served h 22
  | manualMove => exact answersTable_served h 23
  | resetPart => exact answersTable_served h 24
  | unknownRequest => exact answersTable_act h (serveUnknown_good h)
  | supplyOutOfRange => exact answersTable_next (TableActs.good (.of_same rfl (fun c => by cases c <;> rfl) rfl) h)

/-- Settles O60: no command but WRITE_SLOT touches a definition, a binding of a coil or the coupler's configuration, WRITE_SLOT
takes only a definition that fits the table, and every change of an error count sets the state of its band. -/
theorem stepKeepsStreamTable : Obligations.StepKeepsStreamTable := by
  intro s t legal bands ht
  have h : TableGood s := ⟨legal, bands⟩
  have queued (q : List Instr) : TableGood { s with pending := q } :=
    TableActs.good (.of_same rfl (fun c => by cases c <;> rfl) rfl) h
  unfold step at ht
  split at ht
  · exact exec_table _ (queued _) t ht
  · split at ht
    · exact exec_table _ h t ht
    · cases ht
      unfold tick
      have ticked : TableActs s { s with ms := s.ms + 1 } := .of_same rfl (fun c => by cases c <;> rfl) rfl
      split
      · exact ticked.good h
      · exact h

end Sys2Proof.Machine

/-! ### The unsure causes, rule by rule (R142 to R144) -/

namespace Sys2Proof.Machine

variable {s t u : State} {c d : CoilId} {n m : SecId} {x : Unsure}

/-- A coil as it was, or with its pending move target cleared (R111). -/
def Coil.DropsTarget (k k' : Coil) : Prop := k' = k ∨ k' = { k with pendMove := none }

theorem Coil.DropsTarget.refl (k : Coil) : k.DropsTarget k := .inl rfl

theorem Coil.DropsTarget.trans {k l o : Coil} (h : k.DropsTarget l) (h' : l.DropsTarget o) : k.DropsTarget o := by
  rcases h with rfl | rfl
  · exact h'
  · rcases h' with rfl | rfl <;> exact .inr rfl

theorem coil_clearTarget (c d : CoilId) (s : State) : (s.coil d).DropsTarget ((clearTarget c s).coil d) := by
  unfold clearTarget
  by_cases h : d = c
  · rw [h, State.coil_modCoil]; exact .inr rfl
  · rw [State.coil_modCoil_other _ _ _ _ h]; exact .refl _

theorem coil_clearTargets (cs : List CoilId) (d : CoilId) (s : State) :
    (s.coil d).DropsTarget ((clearTargets cs s).coil d) := by
  unfold clearTargets
  induction cs generalizing s with
  | nil => exact .refl _
  | cons c cs ih => exact (coil_clearTarget c d s).trans (ih _)

/-- What becomes of a section when the causes become non-empty (R143, R144). -/
def Section.unsureNow (x : Section) : Section :=
  { x with inhibit := { x.inhibit with unsure := true }, engine := x.engine.turnOff .coupler }

/-- COUPLER_UNSURE in both inhibit sets with its event, both engines OFF, before the pending targets are cleared (R143). -/
def unsureSections (s : State) : State :=
  turnEngineOff .s2 .coupler (turnEngineOff .s1 .coupler (raise .couplerUnsure (.busSection .s1)
    { s with sec1 := { s.sec1 with inhibit := { s.sec1.inhibit with unsure := true } }
             sec2 := { s.sec2 with inhibit := { s.sec2.inhibit with unsure := true } } }))

theorem becomeUnsure_acts (s : State) : DriveActs (unsureSections s) (becomeUnsure s) :=
  have cleared {b : Bool} (cs : List CoilId) (t : State) : DriveActs t (if b then clearTargets cs t else t) := by
    split
    exacts [clearTargets_acts cs t, .refl t]
  (cleared _ _).trans (cleared _ _)

theorem sec_becomeUnsure (n : SecId) (s : State) : (becomeUnsure s).sec n = (s.sec n).unsureNow := by
  rw [(becomeUnsure_acts s).frame.sec n]
  unfold unsureSections turnEngineOff
  have raised := (raise_frame .couplerUnsure (.busSection .s1)
    { s with sec1 := { s.sec1 with inhibit := { s.sec1.inhibit with unsure := true } }
             sec2 := { s.sec2 with inhibit := { s.sec2.inhibit with unsure := true } } }).sec
  cases n
  · rw [State.sec_modSec_other _ _ _ _ (by decide), State.sec_modSec, raised]; rfl
  · rw [State.sec_modSec, State.sec_modSec_other _ _ _ _ (by decide), raised]; rfl

theorem coil_becomeUnsure (c : CoilId) (s : State) : (s.coil c).DropsTarget ((becomeUnsure s).coil c) := by
  have same : (unsureSections s).coil c = s.coil c := by
    unfold unsureSections turnEngineOff
    rw [State.coil_modSec, State.coil_modSec, coil_raise]
    cases c <;> rfl
  have cleared {b : Bool} (cs : List CoilId) (t : State) :
      (t.coil c).DropsTarget ((if b then clearTargets cs t else t).coil c) := by
    split
    exacts [coil_clearTargets cs c t, .refl _]
  exact same ▸ (cleared _ _).trans (cleared _ _)

theorem coupler_becomeUnsure (s : State) : (becomeUnsure s).coupler = s.coupler := by
  rw [(becomeUnsure_acts s).frame.coupler]
  unfold unsureSections turnEngineOff
  rw [State.modSec_coupler, State.modSec_coupler, (raise_frame _ _ _).coupler]

theorem mem_summary_becomeUnsure (s : State) : .couplerUnsure ∈ (becomeUnsure s).events.summary := by
  rw [(becomeUnsure_acts s).frame.events]
  unfold unsureSections turnEngineOff
  rw [State.modSec_events, State.modSec_events]
  exact mem_summary_raise _ _ _

theorem sec_becomeSure (n : SecId) (s : State) : (becomeSure s).sec n = (s.sec n).sureAgain := by cases n <;> rfl

theorem coil_becomeSure (c : CoilId) (s : State) : (becomeSure s).coil c = s.coil c := by cases c <;> rfl

/-- The causes take a new value: they become non-empty, they become empty, or neither (R143). -/
theorem setUnsure_unsure (h : s.coupler.unsure.isEmpty = true) (hx : x.isEmpty = false) :
    setUnsure x s = becomeUnsure { s with coupler := { s.coupler with unsure := x } } := by
  simp [setUnsure, h, hx]

theorem setUnsure_sure (h : s.coupler.unsure.isEmpty = false) (hx : x.isEmpty = true) :
    setUnsure x s = becomeSure { s with coupler := { s.coupler with unsure := x } } := by
  simp [setUnsure, h, hx]

theorem setUnsure_still (h : s.coupler.unsure.isEmpty = x.isEmpty) :
    setUnsure x s = { s with coupler := { s.coupler with unsure := x } } := by
  cases hx : x.isEmpty <;> simp [setUnsure, h, hx]

theorem setUnsure_cases (x : Unsure) (s : State) :
    s.coupler.unsure.isEmpty = true ∧ x.isEmpty = false
      ∨ s.coupler.unsure.isEmpty = false ∧ x.isEmpty = true ∨ s.coupler.unsure.isEmpty = x.isEmpty := by
  cases s.coupler.unsure.isEmpty <;> cases x.isEmpty <;> decide

/-- The causes reach the engine and the inhibit set of a section, and nothing else of it (R143). -/
theorem sec_setUnsure (n : SecId) (x : Unsure) (s : State) : ∃ g i,
    (setUnsure x s).sec n = { s.sec n with engine := g, inhibit := i } := by
  rcases setUnsure_cases x s with ⟨h, hx⟩ | ⟨h, hx⟩ | h
  · rw [setUnsure_unsure h hx, sec_becomeUnsure]
    cases n <;> exact ⟨_, _, rfl⟩
  · rw [setUnsure_sure h hx, sec_becomeSure]
    cases n <;> exact ⟨_, _, rfl⟩
  · rw [setUnsure_still h]
    cases n <;> exact ⟨_, _, rfl⟩

theorem coil_setUnsure (c : CoilId) (x : Unsure) (s : State) : (s.coil c).DropsTarget ((setUnsure x s).coil c) := by
  rcases setUnsure_cases x s with ⟨h, hx⟩ | ⟨h, hx⟩ | h
  · rw [setUnsure_unsure h hx]
    have := coil_becomeUnsure c { s with coupler := { s.coupler with unsure := x } }
    cases c <;> exact this
  · rw [setUnsure_sure h hx, coil_becomeSure]
    cases c <;> exact .refl _
  · rw [setUnsure_still h]
    cases c <;> exact .refl _

theorem coupler_setUnsure (x : Unsure) (s : State) : (setUnsure x s).coupler = { s.coupler with unsure := x } := by
  rcases setUnsure_cases x s with ⟨h, hx⟩ | ⟨h, hx⟩ | h
  · rw [setUnsure_unsure h hx, coupler_becomeUnsure]
  · rw [setUnsure_sure h hx]; rfl
  · rw [setUnsure_still h]

end Sys2Proof.Machine

/-! ### Contents that go nowhere (R21, R23, R27) -/

namespace Sys2Proof.Machine

variable {s t u : State} {c : CoilId} {n m : SecId} {i : Fin 24}

namespace HandsNothingOn

theorem trans (h : HandsNothingOn s t) (h' : HandsNothingOn t u) : HandsNothingOn s u := by
  obtain ⟨secs, last, coils⟩ := h
  obtain ⟨secs', last', coils'⟩ := h'
  exact ⟨fun n => ⟨(secs' n).1.trans (secs n).1, (secs' n).2.trans (secs n).2⟩, last'.trans last,
    fun c => ⟨(coils' c).1.trans (coils c).1, (coils' c).2.trans (coils c).2⟩⟩

/-- A change beyond sections, coils and coupler record. -/
theorem of_same (hs : ∀ n, t.sec n = s.sec n) (hk : t.coupler = s.coupler) (hc : ∀ c, t.coil c = s.coil c) :
    HandsNothingOn s t :=
  ⟨fun n => by rw [hs]; exact ⟨rfl, rfl⟩, by rw [hk], fun c => by rw [hc]; exact ⟨rfl, rfl⟩⟩

theorem refl (s : State) : HandsNothingOn s s := .of_same (fun _ => rfl) rfl fun _ => rfl

theorem link (h : LinkFrame s t) : HandsNothingOn s t := .of_same h.sec h.coupler h.coil

theorem raise (k : EventKind) (o : Obj) (s : State) : HandsNothingOn s (raise k o s) := .link (raise_frame k o s)

theorem setSlot (s : State) (i : Fin 24) (x : Slot) : HandsNothingOn s (s.setSlot i x) :=
  .of_same (fun n => State.sec_setSlot s i x n) rfl (State.coil_setSlot s i x)

theorem drive (h : DriveActs s t) : HandsNothingOn s t :=
  ⟨fun n => by rw [h.frame.sec]; exact ⟨rfl, rfl⟩, by rw [h.frame.coupler], fun c =>
    have ⟨_, _, _, _, reported, arrival⟩ := h.coils c
    ⟨reported, arrival⟩⟩

end HandsNothingOn

theorem haltedSections_handsNothing (n : SecId) (cause : HaltCause) (s : State) :
    HandsNothingOn s (haltedSections n cause s) := by
  refine ⟨fun m => ?_, by rw [coupler_haltedSections], fun c => by rw [coil_haltedSections]; exact ⟨rfl, rfl⟩⟩
  obtain ⟨v, e⟩ := sec_haltedSections n m cause s
  rw [e]
  split <;> exact ⟨rfl, rfl⟩

theorem enterHalted_handsNothing (n : SecId) (cause : HaltCause) (s : State) : HandsNothingOn s (enterHalted n cause s) := by
  have silent := (haltedSections_handsNothing n cause s).trans (.drive (stopAndSilence_acts n _))
  rcases enterHalted_cases n cause s with e | e <;> rw [e]
  · exact silent
  · exact silent.trans (.raise _ _ _)

theorem sec_recordJoinedHalt (cause : HaltCause) (m : SecId) (s : State) : (recordJoinedHalt cause s).sec m =
    if m = .s2 then { s.sec m with lastHalt := some cause } else s.sec m := by cases m <;> rfl

theorem recordJoinedHalt_handsNothing (cause : HaltCause) (s : State) : HandsNothingOn s (recordJoinedHalt cause s) := by
  refine ⟨fun m => ?_, rfl, fun c => by cases c <;> exact ⟨rfl, rfl⟩⟩
  rw [sec_recordJoinedHalt]
  split <;> exact ⟨rfl, rfl⟩

/-- The three ways of a halting event (R137, R147). -/
theorem haltSection_cases (n : SecId) (cause : HaltCause) (s : State) :
    haltSection n cause s = s ∨ haltSection n cause s = enterHalted n cause s
      ∨ haltSection n cause s = recordJoinedHalt cause s := by
  unfold haltSection
  cases (s.sec n).state
  case disabled | halted => exact .inl rfl
  case joined => exact .inr (.inr rfl)
  all_goals exact .inr (.inl rfl)

theorem haltSection_handsNothing (n : SecId) (cause : HaltCause) (s : State) : HandsNothingOn s (haltSection n cause s) := by
  rcases haltSection_cases n cause s with e | e | e <;> rw [e]
  exacts [.refl s, enterHalted_handsNothing n cause s, recordJoinedHalt_handsNothing cause s]

theorem setUnsure_handsNothing (x : Unsure) (s : State) : HandsNothingOn s (setUnsure x s) := by
  refine ⟨fun n => ?_, by rw [coupler_setUnsure], fun c => ?_⟩
  · obtain ⟨g, h, e⟩ := sec_setUnsure n x s
    rw [e]
    exact ⟨rfl, rfl⟩
  · rcases coil_setUnsure c x s with e | e <;> rw [e] <;> exact ⟨rfl, rfl⟩

theorem reportAvailability_handsNothing (a : Bool) (s : State) : HandsNothingOn s (reportAvailability a s) := by
  have told : HandsNothingOn s { s with coupler := { s.coupler with available := a } } :=
    ⟨fun n => by cases n <;> exact ⟨rfl, rfl⟩, rfl, fun c => by cases c <;> exact ⟨rfl, rfl⟩⟩
  exact told.trans (setUnsure_handsNothing _ _)

/-! VOLTAGE_LOST (R25) -/

theorem voltageLost_handsNothing (n : SecId) (s : State) : HandsNothingOn s (voltageLost n s) := by
  unfold voltageLost
  split
  exacts [.refl s, (HandsNothingOn.raise _ _ s).trans (haltSection_handsNothing _ _ _)]

theorem voltageLost_enabled (h : (s.sec n).state ≠ .disabled) : voltageLost n s =
    haltSection n { kind := .voltageLost, obj := .busSection n, time := s.ms } (raise .voltageLost (.busSection n) s) := by
  simp [voltageLost, h]

theorem mem_summary_voltageLost (h : (s.sec n).state ≠ .disabled) : .voltageLost ∈ (voltageLost n s).events.summary := by
  rw [voltageLost_enabled h]
  exact (haltSection_sectionActs (P := True) (.refl _) n _).summary _ (mem_summary_raise _ _ _)

/-- Section `n` has just halted for the loss of its voltage stream (R25, R137). -/
def HaltedForVoltage (n : SecId) (now : Time) (t : State) : Prop :=
  (t.sec n).state = .halted ∧ (t.sec n).entryTime = now
    ∧ (t.sec n).lastHalt = some { kind := .voltageLost, obj := .busSection n, time := now }

theorem voltageLost_halts (h : (s.sec n).state.active = true) : HaltedForVoltage n s.ms (voltageLost n s) := by
  have enabled : (s.sec n).state ≠ .disabled := fun hd => by simp [hd, SecState.active] at h
  have raised := raise_frame .voltageLost (.busSection n) s
  have active : ((raise .voltageLost (.busSection n) s).sec n).state.active = true := by rwa [raised.sec]
  obtain ⟨v, e⟩ := sec_haltedSections n n { kind := .voltageLost, obj := .busSection n, time := s.ms }
    (raise .voltageLost (.busSection n) s)
  rw [if_pos rfl, raised.sec, raised.ms] at e
  unfold HaltedForVoltage
  rw [voltageLost_enabled enabled, haltSection_active active, sec_enterHalted, e]
  exact ⟨rfl, rfl, rfl⟩

/-- What VOLTAGE_LOST of one section does to the other: its supervisor may follow, and a joined section 1 would record its
cause in section 2 (R131, R147). -/
theorem sec_voltageLost_other (h : m ≠ n) (s : State) : ∃ v l,
    (voltageLost n s).sec m = { s.sec m with sup := v, lastHalt := l } ∧ (m = .s1 → l = (s.sec m).lastHalt) := by
  have raised := (raise_frame .voltageLost (.busSection n) s).sec m
  unfold voltageLost
  split
  · exact ⟨_, _, rfl, fun _ => rfl⟩
  · rcases haltSection_cases n { kind := .voltageLost, obj := .busSection n, time := s.ms }
      (raise .voltageLost (.busSection n) s) with e | e | e <;> rw [e]
    · rw [raised]
      exact ⟨_, _, rfl, fun _ => rfl⟩
    · obtain ⟨v, e⟩ := sec_haltedSections n m { kind := .voltageLost, obj := .busSection n, time := s.ms }
        (raise .voltageLost (.busSection n) s)
      rw [sec_enterHalted, e, if_neg h, raised]
      exact ⟨v, _, rfl, fun _ => rfl⟩
    · rw [sec_recordJoinedHalt, raised]
      cases m
      · exact ⟨_, _, rfl, fun _ => rfl⟩
      · exact ⟨_, _, rfl, fun h => by cases h⟩

theorem voltageLost_ms (n : SecId) (s : State) : (voltageLost n s).ms = s.ms := by rw [voltageLost_frame n s]

/-- VOLTAGE_LOST for both sections where the flags say so, section 1 first. -/
def voltageTold (b1 b2 : Bool) (s : State) : State :=
  let s := if b1 then voltageLost .s1 s else s
  if b2 then voltageLost .s2 s else s

theorem voltageTold_handsNothing (b1 b2 : Bool) (s : State) : HandsNothingOn s (voltageTold b1 b2 s) := by
  have one (b : Bool) (n : SecId) (s : State) : HandsNothingOn s (if b then voltageLost n s else s) := by
    split
    exacts [voltageLost_handsNothing n s, .refl s]
  exact (one b1 .s1 s).trans (one b2 .s2 _)

/-- A section named by the loss has its event in the summary, and is halted by it now where it was active (R25). -/
theorem voltageTold_halts (b : SecId → Bool) (hb : b n = true) (hd : (s.sec n).state ≠ .disabled) :
    .voltageLost ∈ (voltageTold (b .s1) (b .s2) s).events.summary
      ∧ ((s.sec n).state.active = true → HaltedForVoltage n s.ms (voltageTold (b .s1) (b .s2) s)) := by
  unfold voltageTold
  cases n
  · rw [hb, if_pos rfl]
    have now := mem_summary_voltageLost hd
    dsimp only
    cases b .s2
    · exact ⟨now, fun h => voltageLost_halts h⟩
    · refine ⟨(voltageLost_sectionActs (P := True) (.refl _) .s2).summary _ now, fun h => ?_⟩
      obtain ⟨state, entry, cause⟩ := voltageLost_halts h
      obtain ⟨v, l, e, hl⟩ := sec_voltageLost_other (m := .s1) (n := .s2) (by decide) (voltageLost .s1 s)
      rw [hl rfl] at e
      unfold HaltedForVoltage
      rw [if_pos rfl, e]
      exact ⟨state, entry, cause⟩
  · rw [hb]
    dsimp only
    rw [if_pos rfl]
    have kept : ((if b .s1 = true then voltageLost .s1 s else s).sec .s2).state = (s.sec .s2).state
        ∧ (if b .s1 = true then voltageLost .s1 s else s).ms = s.ms := by
      split
      · obtain ⟨v, l, e, -⟩ := sec_voltageLost_other (m := .s2) (n := .s1) (by decide) s
        rw [e]
        exact ⟨rfl, voltageLost_ms _ _⟩
      · exact ⟨rfl, rfl⟩
    obtain ⟨state, ms⟩ := kept
    rw [← state] at hd ⊢
    rw [← ms]
    exact ⟨mem_summary_voltageLost hd, fun h => voltageLost_halts h⟩

end Sys2Proof.Machine

/-! ### A taken frame, step by step (R21 to R31) -/

namespace Sys2Proof.Machine

variable {s t u : State} {p : Port} {f : Frame} {i j : Fin 24} {d : SlotDef} {b : SlotBody} {m : List Byte} {x y : Slot}
  {c M : Nat}

/-- The count or number by which a frame is judged (R22, R23). -/
def frameCount (b : SlotBody) (m : List Byte) : Nat := if b.isSample then sampleCount m else sequenceNumber m

/-- A slot with the runtime part that a frame it took gives it (R21 to R24). -/
def takenSlot (b : SlotBody) (m : List Byte) (M : Nat) (x : Slot) : Slot :=
  x.judged b.isSample (frameCount b m) (judge b M x.last m)

/-- A taken frame before its distribution: the slot counts it, and a change of the slot's state is told (R24, R25, R30). -/
def frameTold (i : Fin 24) (b : SlotBody) (m : List Byte) (s : State) : State :=
  let y := takenSlot b m s.nominal.modulus (s.slot i)
  slotStateChanged i b (s.slot i).state y.state (s.setSlot i y)

/-- The frame's contents are distributed (R22, R23, R27). -/
def Distributes (i : Fin 24) (b : SlotBody) (m : List Byte) (s : State) : Prop :=
  (judge b s.nominal.modulus (s.slot i).last m).handsOn b.isSample = true
    ∧ (takenSlot b m s.nominal.modulus (s.slot i)).state.distributes = true

theorem slotTakes_distributes (h : Distributes i b m s) : slotTakes i b p m s = distribute i b p m (frameTold i b m s) := by
  obtain ⟨hj, hy⟩ := h
  have both : ((judge b s.nominal.modulus (s.slot i).last m).handsOn b.isSample
      && (takenSlot b m s.nominal.modulus (s.slot i)).state.distributes) = true := by rw [hj, hy]; rfl
  exact if_pos both

theorem slotTakes_told (h : ¬ Distributes i b m s) : slotTakes i b p m s = frameTold i b m s := by
  exact if_neg fun both => h (Bool.and_eq_true_iff.1 both)

/-- A frame that slot `i` takes goes through it after the relayed copy (R4). -/
theorem exec_taken (h : Taking p f s i d) :
    exec (.frameReceptionComplete p f false) s = .next (conclude (slotTakes i d.body p (messageOf f) (s.relayed p f))) := by
  obtain ⟨live, up, good, kind, long, taker, defn⟩ := h
  have relayed := relayed_frame s p f
  have consumed : classify f = .sample ∨ classify f = .state ∨ classify f = .drive := by
    rw [kind]
    cases d.body
    exacts [.inl rfl, .inr (.inl rfl), .inr (.inr rfl)]
  obtain ⟨-, -, -, -, -, offered⟩ := otherFramesRelayed p f s live up good
  rw [offered consumed]
  have defn' : ((s.relayed p f).slot i).defn = some d := by rwa [slot_of_linkFrame relayed]
  have taker' : (s.relayed p f).taker (classify f) (streamTag (messageOf f)) = some i := by rwa [relayed.taker]
  simp only [offerToMatcher, if_neg (Nat.not_lt.2 long), taker', defn']

/-! The judged slot -/

theorem judge_malformed (h : malformedFor b M m = true) (l : Option Nat) : judge b M l m = .malformed := by
  simp [judge, h]

theorem judge_sample {bs : List Binding} (h : malformedFor (.sample bs) M m = false) (l : Option Nat) :
    judge (.sample bs) M l m = judgeSample M l (sampleCount m) := by
  simp [judge, h, SlotBody.isSample]

theorem judge_sequence (h : malformedFor b M m = false) (hb : b.isSample = false) (l : Option Nat) :
    judge b M l m = judgeSequence l (sequenceNumber m) := by
  simp [judge, h, hb]

theorem isSample_of_ne (hb : ∀ bs, b ≠ .sample bs) : b.isSample = false := by
  cases b with
  | sample bs => exact absurd rfl (hb bs)
  | state k => rfl
  | drive c => rfl

theorem Nominal.modulus_gt_one (q : Nominal) : 1 < q.modulus := by cases q <;> decide

/-- A sample count is not its own successor. -/
theorem succ_mod_ne {l : Nat} (h : 1 < M) : l ≠ (l + 1) % M := by
  intro e
  have hl : l < M := by rw [e]; exact Nat.mod_lt _ (by omega)
  rcases Nat.lt_or_ge (l + 1) M with hs | hs
  · rw [Nat.mod_eq_of_lt hs] at e; omega
  · obtain rfl : M = l + 1 := by omega
    rw [Nat.mod_self] at e; omega

theorem judgeSample_none (c : Nat) : judgeSample M none c = .inSequence := rfl

theorem judgeSample_next {l : Nat} (h : c = (l + 1) % M) : judgeSample M (some l) c = .inSequence := if_pos h

theorem judgeSample_same (h : 1 < M) : judgeSample M (some c) c = .again := by
  simp [judgeSample, succ_mod_ne h]

theorem judgeSample_gap {l : Nat} (h : c ≠ l) (h' : c ≠ (l + 1) % M) : judgeSample M (some l) c = .gap := by
  simp [judgeSample, h, h']

theorem judgeSample_ne_late (l : Option Nat) : judgeSample M l c ≠ .late := by
  cases l with
  | none => simp [judgeSample]
  | some l =>
    unfold judgeSample
    dsimp only
    split
    · simp
    · split <;> simp

theorem judgeSequence_none (c : Nat) : judgeSequence none c = .inSequence := rfl

theorem judgeSequence_some (l c : Nat) : judgeSequence (some l) c =
    if (c + 65536 - l % 65536) % 65536 = 0 then .again else if (c + 65536 - l % 65536) % 65536 = 1 then .inSequence
    else if (c + 65536 - l % 65536) % 65536 ≤ 32768 then .gap else .late := rfl

/-- What the judgements make of a slot, in the terms of the statements (R21 to R24). -/
theorem Slot.judged_malformed (x : Slot) (z : Bool) (c : Nat) : x.judged z c .malformed =
    { x.withErrors (min (x.errors + 8) 256) with malformed := satInc x.malformed } := rfl

theorem Slot.judged_inSequence (x : Slot) (z : Bool) (c : Nat) : x.judged z c .inSequence = x.inSequence c := rfl

theorem Slot.judged_gap (x : Slot) (z : Bool) (c : Nat) : x.judged z c .gap = x.afterGap c := rfl

/-- A sample slot counts no late, duplicate or saturated value when it judges a frame. -/
theorem Slot.judged_counts (x : Slot) (c : Nat) {j : Judgement} (h : j ≠ .late) :
    (x.judged true c j).late = x.late ∧ (x.judged true c j).duplicates = x.duplicates
      ∧ (x.judged true c j).saturated = x.saturated := by
  have counted (f : Nat → Nat) : (x.count f).late = x.late ∧ (x.count f).duplicates = x.duplicates
      ∧ (x.count f).saturated = x.saturated := by
    unfold Slot.count
    split <;> exact ⟨rfl, rfl, rfl⟩
  cases j with
  | malformed => exact counted moreErrors
  | inSequence => exact counted fewerErrors
  | again => exact ⟨rfl, rfl, rfl⟩
  | gap => exact counted moreErrors
  | late => exact absurd rfl h

/-! The change of slot state -/

theorem slotStateChanged_same (i : Fin 24) (b : SlotBody) (z : SlotState) (s : State) : slotStateChanged i b z z s = s :=
  if_pos rfl

/-- The report on the coupler source that a STATE slot's change of state brings (R30). -/
def availabilityTold (b : SlotBody) (was now : SlotState) (s : State) : State :=
  match b with
  | .state _ => if now.distributes = was.distributes then s else reportAvailability now.distributes s
  | .sample _ => s
  | .drive _ => s

theorem availabilityTold_sectionActs {P : Prop} (h : SectionActs P s t) (b : SlotBody) (was now : SlotState) :
    SectionActs P s (availabilityTold b was now t) := by
  cases b with
  | sample bs => exact h
  | drive c => exact h
  | state k => exact .ite h (reportAvailability_sectionActs h _)

theorem availabilityTold_handsNothing (b : SlotBody) (was now : SlotState) (s : State) :
    HandsNothingOn s (availabilityTold b was now s) := by
  cases b with
  | sample bs => exact .refl s
  | drive c => exact .refl s
  | state k =>
    unfold availabilityTold
    dsimp only
    split
    exacts [.refl s, reportAvailability_handsNothing _ s]

theorem availabilityTold_values (h : ∀ k, b ≠ .state k) (was now : SlotState) (s : State) :
    availabilityTold b was now s = s := by
  cases b with
  | state k => exact absurd rfl (h k)
  | sample bs => rfl
  | drive c => rfl

/-- The slot's passage from WARNING to PASSIVE loses the voltage of section `n` (R25). -/
def losesVoltage (b : SlotBody) (was now : SlotState) (n : SecId) : Bool :=
  (was == .warning && now == .passive) && b.voltageFor n

theorem losesVoltage_sequence (hb : b.isSample = false) (was now : SlotState) (n : SecId) :
    losesVoltage b was now n = false := by
  cases b with
  | sample bs => cases hb
  | state k => simp [losesVoltage, SlotBody.voltageFor]
  | drive c => simp [losesVoltage, SlotBody.voltageFor]

theorem losesVoltage_distributes {now : SlotState} (h : now.distributes = true) (b : SlotBody) (was : SlotState) (n : SecId) :
    losesVoltage b was now n = false := by
  cases now <;> simp_all [losesVoltage, SlotState.distributes]

/-- STREAM_STATE, then VOLTAGE_LOST of both sections, then the report on the coupler source (R24, R25, R30). -/
theorem slotStateChanged_changed {was now : SlotState} (h : was ≠ now) (i : Fin 24) (b : SlotBody) (s : State) :
    slotStateChanged i b was now s = availabilityTold b was now
      (voltageTold (losesVoltage b was now .s1) (losesVoltage b was now .s2) (raise .streamState (.slot i) s)) := if_neg h

theorem slotStateChanged_handsNothing (i : Fin 24) (b : SlotBody) (was now : SlotState) (s : State) :
    HandsNothingOn s (slotStateChanged i b was now s) := by
  by_cases h : was = now
  · rw [h, slotStateChanged_same]; exact .refl s
  · rw [slotStateChanged_changed h]
    exact ((HandsNothingOn.raise _ _ s).trans (voltageTold_handsNothing _ _ _)).trans (availabilityTold_handsNothing _ _ _ _)

theorem voltageTold_sectionActs {P : Prop} (h : SectionActs P s t) (b1 b2 : Bool) : SectionActs P s (voltageTold b1 b2 t) := by
  have one {b : Bool} {n : SecId} {t : State} (h : SectionActs P s t) : SectionActs P s (if b then voltageLost n t else t) :=
    .ite (voltageLost_sectionActs h n) h
  exact one (one h)

theorem mem_summary_slotStateChanged {was now : SlotState} (h : was ≠ now) (i : Fin 24) (b : SlotBody) (s : State) :
    .streamState ∈ (slotStateChanged i b was now s).events.summary := by
  rw [slotStateChanged_changed h]
  exact (availabilityTold_sectionActs (voltageTold_sectionActs (.refl (P := True) _) _ _) b was now).summary _
    (mem_summary_raise _ _ _)

/-- Where no voltage is lost, all that a change of slot state brings is STREAM_STATE and the report on the coupler source
(R24, R30). -/
theorem slotStateChanged_countSlot (h : ∀ n, losesVoltage b (s.slot i).state x.state n = false) :
    slotStateChanged i b (s.slot i).state x.state (s.setSlot i x)
      = availabilityTold b (s.slot i).state x.state (s.countSlot i x) := by
  by_cases hx : (s.slot i).state = x.state
  · rw [hx, slotStateChanged_same, State.countSlot, if_pos hx.symm]
    cases b with
    | sample bs => rfl
    | drive c => rfl
    | state k => exact (if_pos rfl).symm
  · rw [slotStateChanged_changed hx, State.countSlot, if_neg (Ne.symm hx), h .s1, h .s2]
    rfl

/-! What a taken frame leaves -/

theorem frameTold_acts (i : Fin 24) (b : SlotBody) (m : List Byte) (s : State) :
    SectionActs True (s.setSlot i (takenSlot b m s.nominal.modulus (s.slot i))) (frameTold i b m s) :=
  slotStateChanged_sectionActs (.refl _) i b _ _

theorem slot_frameTold (i j : Fin 24) (b : SlotBody) (m : List Byte) (s : State) : (frameTold i b m s).slot j =
    if j = i then takenSlot b m s.nominal.modulus (s.slot i) else s.slot j := by
  rw [(frameTold_acts i b m s).slot j]
  split
  · next h => rw [h, State.slot_setSlot]
  · next h => rw [State.slot_setSlot_other _ _ _ _ h]

theorem frameTold_handsNothing (i : Fin 24) (b : SlotBody) (m : List Byte) (s : State) :
    HandsNothingOn s (frameTold i b m s) :=
  (HandsNothingOn.setSlot s i _).trans (slotStateChanged_handsNothing i b _ _ _)

/-- A taken frame's distribution changes of the slots only what the filing counts. -/
theorem slotTakes_acts (i : Fin 24) (b : SlotBody) (p : Port) (m : List Byte) (s : State) :
    DistributionActs i (frameTold i b m s) (slotTakes i b p m s) := by
  by_cases h : Distributes i b m s
  · rw [slotTakes_distributes h]; exact distribute_acts i b p m _
  · rw [slotTakes_told h]; exact .refl i _

/-- The contents of a state or drive status frame reach no slot. -/
theorem slot_slotTakes_sequence (hb : b.isSample = false) (i j : Fin 24) (p : Port) (m : List Byte) (s : State) :
    (slotTakes i b p m s).slot j = (frameTold i b m s).slot j := by
  by_cases h : Distributes i b m s
  · rw [slotTakes_distributes h]
    cases b with
    | sample bs => cases hb
    | state k =>
      simp only [distribute]
      split
      · next v _ => exact (couplerValue_sectionActs trivial (.refl _) v).slot j
      · rfl
    | drive c => exact (treatStatus_sectionActs trivial (.refl _) c _).slot j
  · rw [slotTakes_told h]

/-! ### O12 -/

/-- The count a slot and its state keep, whatever the frame's values count. -/
theorem state_slotTakes (i : Fin 24) (b : SlotBody) (p : Port) (m : List Byte) (s : State) :
    ((slotTakes i b p m s).slot i).state = (takenSlot b m s.nominal.modulus (s.slot i)).state := by
  rw [(slotTakes_acts i b p m s).own, slot_frameTold, if_pos rfl]

theorem streamState_slotTakes (h : ((slotTakes i b p m s).slot i).state ≠ (s.slot i).state) :
    .streamState ∈ (slotTakes i b p m s).events.summary := by
  rw [state_slotTakes] at h
  exact (slotTakes_acts i b p m s).summary _ (mem_summary_slotStateChanged (Ne.symm h) i b _)

/-- A frame whose judgement hands nothing on, by the slot it leaves. -/
theorem slotTakes_dropped (h : (judge b s.nominal.modulus (s.slot i).last m).handsOn b.isSample = false) :
    (slotTakes i b p m s).slot i = takenSlot b m s.nominal.modulus (s.slot i) ∧ HandsNothingOn s (slotTakes i b p m s) := by
  have told : slotTakes i b p m s = frameTold i b m s := slotTakes_told fun hd => absurd (hd.1.symm.trans h) (by decide)
  rw [told, slot_frameTold, if_pos rfl]
  exact ⟨rfl, frameTold_handsNothing i b m s⟩

/-- A frame that leaves its slot PASSIVE or OFF is told, and no more (R27). -/
theorem slotTakes_out (h : ((slotTakes i b p m s).slot i).state = .passive ∨ ((slotTakes i b p m s).slot i).state = .off) :
    slotTakes i b p m s = frameTold i b m s := by
  rw [state_slotTakes] at h
  refine slotTakes_told fun hd => ?_
  rcases h with h | h <;> simp [Distributes, h, SlotState.distributes] at hd

/-- A malformed frame (R21). -/
theorem slotTakes_malformed (h : malformedFor b s.nominal.modulus m = true) :
    (slotTakes i b p m s).slot i = { (s.slot i).withErrors (min ((s.slot i).errors + 8) 256) with
        malformed := satInc (s.slot i).malformed } ∧ HandsNothingOn s (slotTakes i b p m s) := by
  have judged := judge_malformed h (s.slot i).last
  have dropped := slotTakes_dropped (p := p) (b := b) (m := m) (s := s) (i := i) (by rw [judged]; rfl)
  rwa [takenSlot, judged, Slot.judged_malformed] at dropped

/-- A frame of a SAMPLE slot, apart from what its values count. -/
theorem slot_slotTakes_sample {bs : List Binding} (h : malformedFor (.sample bs) s.nominal.modulus m = false) :
    (slotTakes i (.sample bs) p m s).slot i = { (s.slot i).judged true (sampleCount m)
        (judgeSample s.nominal.modulus (s.slot i).last (sampleCount m)) with
      late := ((slotTakes i (.sample bs) p m s).slot i).late
      duplicates := ((slotTakes i (.sample bs) p m s).slot i).duplicates
      saturated := ((slotTakes i (.sample bs) p m s).slot i).saturated } := by
  have own := (slotTakes_acts i (.sample bs) p m s).own
  rwa [slot_frameTold, if_pos rfl, takenSlot, judge_sample h] at own

/-- A frame of a STATE or DRIVE slot. -/
theorem slot_slotTakes_judged (hb : b.isSample = false) (h : malformedFor b s.nominal.modulus m = false) :
    (slotTakes i b p m s).slot i =
      (s.slot i).judged false (sequenceNumber m) (judgeSequence (s.slot i).last (sequenceNumber m)) := by
  rw [slot_slotTakes_sequence hb, slot_frameTold, if_pos rfl, takenSlot, judge_sequence h hb, frameCount, hb]
  rfl

/-- A duplicate or late frame of a STATE or DRIVE slot goes nowhere (R23). -/
theorem slotTakes_repeated (hb : b.isSample = false) (h : malformedFor b s.nominal.modulus m = false)
    (hj : (judgeSequence (s.slot i).last (sequenceNumber m)).handsOn false = false) :
    HandsNothingOn s (slotTakes i b p m s) := by
  refine (slotTakes_dropped ?_).2
  rwa [judge_sequence h hb, hb]

/-- What a SAMPLE slot counts of a frame that leaves it PASSIVE or OFF (R27). -/
theorem slotTakes_out_counts {bs : List Binding} (h : ((slotTakes i (.sample bs) p m s).slot i).state = .passive
      ∨ ((slotTakes i (.sample bs) p m s).slot i).state = .off) :
    ((slotTakes i (.sample bs) p m s).slot i).late = (s.slot i).late
      ∧ ((slotTakes i (.sample bs) p m s).slot i).duplicates = (s.slot i).duplicates
      ∧ ((slotTakes i (.sample bs) p m s).slot i).saturated = (s.slot i).saturated := by
  rw [slotTakes_out h, slot_frameTold, if_pos rfl]
  refine Slot.judged_counts _ _ ?_
  unfold judge
  split
  · simp
  · exact judgeSample_ne_late _

/-- A STATE slot that leaves ACTIVE and WARNING is reported unavailable (R30). -/
theorem slotTakes_unavailable {k : Nat} (hw : (s.slot i).state = .active ∨ (s.slot i).state = .warning)
    (h : ((slotTakes i (.state k) p m s).slot i).state = .passive
      ∨ ((slotTakes i (.state k) p m s).slot i).state = .off) :
    slotTakes i (.state k) p m s
      = reportAvailability false (s.countSlot i ((slotTakes i (.state k) p m s).slot i)) := by
  have told := slotTakes_out h
  have slot : (slotTakes i (.state k) p m s).slot i = takenSlot (.state k) m s.nominal.modulus (s.slot i) := by
    rw [told, slot_frameTold, if_pos rfl]
  rw [slot] at h ⊢
  rw [told, frameTold, slotStateChanged_countSlot fun n => losesVoltage_sequence rfl _ _ n]
  have out : (takenSlot (.state k) m s.nominal.modulus (s.slot i)).state.distributes = false := by
    rcases h with h | h <;> rw [h] <;> rfl
  have was : (s.slot i).state.distributes = true := by
    rcases hw with h | h <;> rw [h] <;> rfl
  simp [availabilityTold, out, was]

/-- The sections of the voltage bindings of a slot that goes from WARNING to PASSIVE (R25). -/
theorem slotTakes_voltageLost {bs : List Binding} {y : Binding} (hw : (s.slot i).state = .warning)
    (h : ((slotTakes i (.sample bs) p m s).slot i).state = .passive) (hy : y ∈ bs) (role : y.role = .voltage)
    (hd : (s.sec y.sec).state ≠ .disabled) :
    .voltageLost ∈ (slotTakes i (.sample bs) p m s).events.summary
      ∧ ((s.sec y.sec).state.active = true → HaltedForVoltage y.sec s.ms (slotTakes i (.sample bs) p m s)) := by
  have told := slotTakes_out (.inl h)
  have now : (takenSlot (.sample bs) m s.nominal.modulus (s.slot i)).state = .passive := by rw [← state_slotTakes]; exact h
  have loses : losesVoltage (.sample bs) .warning .passive y.sec = true := by
    have held : (SlotBody.sample bs).voltageFor y.sec = true :=
      List.any_eq_true.2 ⟨y, hy, by simp [role]⟩
    simp [losesVoltage, held]
  rw [told, frameTold, hw, now, slotStateChanged_changed (by decide)]
  have raised : LinkFrame (s.setSlot i (takenSlot (.sample bs) m s.nominal.modulus (s.slot i))) (raise .streamState (.slot i)
      (s.setSlot i (takenSlot (.sample bs) m s.nominal.modulus (s.slot i)))) := raise_frame _ _ _
  have sec : (raise .streamState (.slot i)
      (s.setSlot i (takenSlot (.sample bs) m s.nominal.modulus (s.slot i)))).sec y.sec = s.sec y.sec := by
    rw [raised.sec, State.sec_setSlot]
  have halts := voltageTold_halts (losesVoltage (.sample bs) .warning .passive) loses (by rwa [sec])
  rwa [sec, raised.ms] at halts

/-- Settles O12: the slot judges the frame after the relayed copy, its change of state is told, and only then its contents are
distributed, which touches no other slot and of its own only what the values count. -/
theorem takenFrameIsJudged : Obligations.TakenFrameIsJudged := by
  intro p f s i d h m x worse
  have relayed := relayed_frame s p f
  have slot (j : Fin 24) : (s.relayed p f).slot j = s.slot j := slot_of_linkFrame relayed j
  have nominal : (s.relayed p f).nominal = s.nominal := relayed.toStream.nominal
  have handed {u : State} (h : HandsNothingOn (s.relayed p f) u) : HandsNothingOn s u :=
    (HandsNothingOn.link relayed).trans h
  refine ⟨_, exec_taken h, fun j hj => ?_, fun changed => ?_, fun bad => ?_, fun good ⟨bs, hb⟩ => ?_, fun good hb => ?_,
    fun out => ⟨?_, fun ⟨bs, hb⟩ => ?_⟩, fun k hb was out => ?_, fun was out bs hb y hy role enabled => ?_⟩
  · rw [(slotTakes_acts i d.body p m _).others j hj, slot_frameTold, if_neg hj, slot]
  · exact streamState_slotTakes (by rwa [slot])
  · rw [← nominal] at bad
    have taken := slotTakes_malformed (p := p) (i := i) bad
    rw [slot] at taken
    exact ⟨taken.1, handed taken.2⟩
  · rw [hb] at good ⊢
    rw [← nominal] at good
    have taken := slot_slotTakes_sample (i := i) (p := p) good
    rw [slot, nominal] at taken
    refine ⟨fun hl => ?_, fun l hl => ⟨fun next => ?_, fun same => ?_, fun other ahead => ?_⟩⟩
    · rwa [show (s.slot i).last = none from hl, judgeSample_none, Slot.judged_inSequence] at taken
    · rwa [show (s.slot i).last = some l from hl, judgeSample_next next, Slot.judged_inSequence] at taken
    · rwa [show (s.slot i).last = some l from hl, show sampleCount m = l from same,
        judgeSample_same (Nominal.modulus_gt_one _)] at taken
    · rwa [show (s.slot i).last = some l from hl, judgeSample_gap other ahead, Slot.judged_gap] at taken
  · have sequence := isSample_of_ne hb
    rw [← nominal] at good
    have taken := slot_slotTakes_judged (i := i) (p := p) sequence good
    have nowhere := slotTakes_repeated (i := i) (p := p) sequence good
    rw [slot] at taken nowhere
    refine ⟨fun hl => ?_, fun l hl => ?_⟩
    · rwa [show (s.slot i).last = none from hl, judgeSequence_none, Slot.judged_inSequence] at taken
    · rw [show (s.slot i).last = some l from hl, judgeSequence_some] at taken nowhere
      refine ⟨fun next => ?_, fun same => ?_, fun above below => ?_, fun late => ?_⟩
      · simpa only [next, Nat.one_ne_zero, if_true, if_false, Slot.judged_inSequence] using taken
      · simp only [same, if_true] at taken nowhere
        exact ⟨taken, handed (nowhere rfl)⟩
      · rwa [if_neg (by omega), if_neg (by omega), if_pos below, Slot.judged_gap] at taken
      · rw [if_neg (by omega), if_neg (by omega), if_neg (by omega)] at taken nowhere
        exact ⟨taken, handed (nowhere rfl)⟩
  · rw [slotTakes_out out]
    exact handed (frameTold_handsNothing i d.body m _)
  · rw [hb] at out ⊢
    have counts := slotTakes_out_counts out
    rwa [slot] at counts
  · rw [hb] at out ⊢
    exact slotTakes_unavailable (by rwa [slot]) out
  · rw [hb] at out ⊢
    have halts := slotTakes_voltageLost (by rwa [slot]) out hy role (by rwa [relayed.sec])
    rwa [relayed.sec, relayed.ms] at halts

end Sys2Proof.Machine

/-! ### What a distributed frame reaches (R28 to R31, R37) -/

namespace Sys2Proof.Machine

variable {s t u : State} {p : Port} {f : Frame} {i j : Fin 24} {d : SlotDef} {b : SlotBody} {m : List Byte} {x y : Slot}
  {n : SecId} {c : Nat}

theorem setSlot_setSlot (s : State) (i : Fin 24) (x y : Slot) : (s.setSlot i x).setSlot i y = s.setSlot i y := by
  simp [State.setSlot, Vector.set_set]

theorem setSlot_slot (s : State) (i : Fin 24) : s.setSlot i (s.slot i) = s := by
  simp [State.setSlot, State.slot]

theorem modSec_setSlot (s : State) (n : SecId) (f : Section → Section) (i : Fin 24) (x : Slot) :
    (s.modSec n f).setSlot i x = (s.setSlot i x).modSec n f := by cases n <;> rfl

theorem modSec_same {f : Section → Section} (h : f (s.sec n) = s.sec n) : s.modSec n f = s := by
  cases n
  · exact congrArg (fun x => { s with sec1 := x }) h
  · exact congrArg (fun x => { s with sec2 := x }) h

theorem slot_countSlot (i j : Fin 24) (x : Slot) (s : State) :
    (s.countSlot i x).slot j = if j = i then x else s.slot j := by
  have set : (s.setSlot i x).slot j = if j = i then x else s.slot j := by
    split
    · next h => rw [h, State.slot_setSlot]
    · next h => rw [State.slot_setSlot_other _ _ _ _ h]
  unfold State.countSlot
  split
  · exact set
  · rw [slot_of_linkFrame (raise_frame _ _ _), set]

theorem sec_countSlot (i : Fin 24) (x : Slot) (s : State) (n : SecId) : (s.countSlot i x).sec n = s.sec n := by
  unfold State.countSlot
  split
  · exact State.sec_setSlot s i x n
  · rw [(raise_frame _ _ _).sec, State.sec_setSlot]

theorem nominal_countSlot (i : Fin 24) (x : Slot) (s : State) : (s.countSlot i x).nominal = s.nominal := by
  unfold State.countSlot
  split
  · rfl
  · rw [(raise_frame _ _ _).toStream.nominal]; rfl

theorem distributes_iff {z : SlotState} : z.distributes = true ↔ z = .active ∨ z = .warning := by
  cases z <;> simp [SlotState.distributes]

/-- A frame that is handed on and leaves its slot ACTIVE or WARNING is distributed on the counted slot, after the report on the
coupler source (R27, R30). -/
theorem slotTakes_counted (hj : (judge b s.nominal.modulus (s.slot i).last m).handsOn b.isSample = true)
    (hx : takenSlot b m s.nominal.modulus (s.slot i) = x) (h : x.state.distributes = true) :
    slotTakes i b p m s = distribute i b p m (availabilityTold b (s.slot i).state x.state (s.countSlot i x)) := by
  rw [slotTakes_distributes ⟨hj, hx.symm ▸ h⟩, frameTold, hx,
    slotStateChanged_countSlot fun n => losesVoltage_distributes h b _ n]

/-! The frames of a SAMPLE slot -/

/-- The value record that a binding makes of a sample frame (R28). -/
def valueRecord (i : Fin 24) (m : List Byte) (b : Binding) : ValueRecord :=
  { role := b.role, count := sampleCount m, slot := i,
    value := if channelValid m b.channel = true then some (clampSample (channelValue m b.channel)) else none }

/-- The slot counts a valid value that does not fit and is clamped (R28). -/
def clampCounted (i : Fin 24) (m : List Byte) (b : Binding) (s : State) : State :=
  if channelValid m b.channel = true ∧ clampSample (channelValue m b.channel) ≠ channelValue m b.channel then
    s.modSlot i fun y => { y with saturated := satInc y.saturated }
  else s

theorem clampCounted_eq (i : Fin 24) (m : List Byte) (b : Binding) (s : State) : clampCounted i m b s =
    s.setSlot i { s.slot i with
      saturated := if channelValid m b.channel = true ∧ clampSample (channelValue m b.channel) ≠ channelValue m b.channel
        then satInc (s.slot i).saturated else (s.slot i).saturated } := by
  unfold clampCounted
  split
  · rfl
  · exact (setSlot_slot s i).symm

theorem distributeBinding_eq (i : Fin 24) (m : List Byte) (b : Binding) (s : State) :
    distributeBinding i m b s = ringTakes b.sec (valueRecord i m b) (clampCounted i m b s) := by
  unfold distributeBinding valueRecord clampCounted
  by_cases hv : channelValid m b.channel = true
  · by_cases hc : clampSample (channelValue m b.channel) = channelValue m b.channel <;> simp [hv, hc]
  · simp [hv]

/-- The section and the slot after a value is filed, before the deliveries (R29, R37). -/
theorem ringFiled_eq {v : ValueRecord} (hv : v.slot = i) (hd : (s.slot i).defn.isSome = true) : ringFiled n v s =
    ((s.setSlot i { s.slot i with
        late := if ((s.sec n).ring.file s.nominal.modulus v).report = .late then satInc (s.slot i).late
          else (s.slot i).late
        duplicates := if ((s.sec n).ring.file s.nominal.modulus v).report = .duplicate then satInc (s.slot i).duplicates
          else (s.slot i).duplicates }).modSec n
      fun z => { z with ring := ((s.sec n).ring.file s.nominal.modulus v).ring }) := by
  subst hv
  unfold ringFiled
  dsimp only
  cases ((s.sec n).ring.file s.nominal.modulus v).report with
  | none => exact congrArg (fun u : State => u.modSec n _) (setSlot_slot s v.slot).symm
  | late =>
    simp only [State.slot_modSec, hd, if_true, State.modSlot, modSec_setSlot]
    rfl
  | duplicate =>
    simp only [State.slot_modSec, hd, if_true, State.modSlot, modSec_setSlot]
    rfl

theorem sec_ringFiled (v : ValueRecord) (s : State) (n k : SecId) : (ringFiled n v s).sec k =
    if n = k then { s.sec k with ring := ((s.sec k).ring.file s.nominal.modulus v).ring } else s.sec k := by
  have filed : (s.modSec n fun y => { y with ring := ((s.sec n).ring.file s.nominal.modulus v).ring }).sec k =
      if n = k then { s.sec k with ring := ((s.sec k).ring.file s.nominal.modulus v).ring } else s.sec k := by
    split
    · next h => rw [← h, State.sec_modSec]
    · next h => rw [State.sec_modSec_other _ _ _ _ (Ne.symm h)]
  rw [← filed]
  unfold ringFiled
  dsimp only
  split
  · rfl
  · split
    exacts [State.sec_modSlot _ _ _ _, rfl]
  · split
    exacts [State.sec_modSlot _ _ _ _, rfl]

theorem sec_clampCounted (i : Fin 24) (m : List Byte) (b : Binding) (s : State) (k : SecId) :
    (clampCounted i m b s).sec k = s.sec k := by rw [clampCounted_eq, State.sec_setSlot]

theorem nominal_clampCounted (i : Fin 24) (m : List Byte) (b : Binding) (s : State) :
    (clampCounted i m b s).nominal = s.nominal := by rw [clampCounted_eq]; rfl

/-- The rings after a binding's value is filed: no delivery clears one where no section passes RECOVERY at once (R37, R41). -/
theorem ring_distributeBinding (h : ¬ RecoversAtOnce s) (i : Fin 24) (m : List Byte) (b : Binding) (n : SecId) :
    ((distributeBinding i m b s).sec n).ring =
      if b.sec = n then ((s.sec n).ring.file s.nominal.modulus (valueRecord i m b)).ring else (s.sec n).ring := by
  have filed : ((ringFiled b.sec (valueRecord i m b) (clampCounted i m b s)).sec n).ring =
      if b.sec = n then ((s.sec n).ring.file s.nominal.modulus (valueRecord i m b)).ring else (s.sec n).ring := by
    rw [sec_ringFiled, sec_clampCounted, nominal_clampCounted]
    split <;> rfl
  have settings (k : SecId) : ((ringFiled b.sec (valueRecord i m b) (clampCounted i m b s)).sec k).settings
      = (s.sec k).settings := by
    rw [sec_ringFiled, sec_clampCounted]
    split <;> rfl
  have slow : RecoversAtOnce (ringFiled b.sec (valueRecord i m b) (clampCounted i m b s)) → False :=
    fun ⟨k, hk⟩ => h ⟨k, settings k ▸ hk⟩
  have delivered (ds : List Delivery) := (deliver_sectionActs slow (.refl _) b.sec ds).ring n
  rw [distributeBinding_eq, ringTakes_eq, (delivered _).resolve_right fun h => h.1, filed]

/-- The rings after a frame's values are filed, binding by binding (R28, R37). -/
theorem ring_distribute (bs : List Binding) (h : ¬ RecoversAtOnce s) (i : Fin 24) (p : Port) (m : List Byte) (n : SecId) :
    ((distribute i (.sample bs) p m s).sec n).ring = (bs.filter fun b => b.sec == n).foldl
      (fun r b => (r.file s.nominal.modulus (valueRecord i m b)).ring) (s.sec n).ring := by
  induction bs generalizing s with
  | nil => rfl
  | cons b bs ih =>
    have acts := distributeBinding_acts (.refl i s) m b
    have settled : ¬ RecoversAtOnce (distributeBinding i m b s) := fun ⟨k, hk⟩ => h ⟨k, acts.settings k ▸ hk⟩
    have rest := ih settled
    rw [acts.frame.nominal, ring_distributeBinding h] at rest
    refine Eq.trans rest ?_
    by_cases hn : b.sec = n <;> simp [hn]

/-- A section whose engine is OFF and whose supervisor is IDLE takes no notice of its deliveries (R48). -/
theorem handOver_idle (he : (s.sec n).engine.state = .off) (hs : (s.sec n).sup.phase = .idle) (e : Delivery) :
    handOver n e s = s := by
  cases e with
  | pair q =>
    have engine : engineTakes n q s = s := by simp only [engineTakes, he]
    simp [handOver, engine, supervisorTakes, hs]
  | gap first count =>
    have engine : engineTakesGap n s = s := by
      unfold engineTakesGap discardWindow
      exact modSec_same (by simp only [Engine.discard, he])
    unfold handOver
    dsimp only
    rw [engine]
    exact modSec_same (by simp only [Supervisor.takeGap, hs])

theorem deliver_idle (he : (s.sec n).engine.state = .off) (hs : (s.sec n).sup.phase = .idle) (es : List Delivery) :
    deliver n es s = s := by
  induction es with
  | nil => rfl
  | cons e es ih =>
    unfold deliver
    rw [handOver_idle he hs]
    dsimp only
    split
    exacts [rfl, ih]

/-- A frame of a slot with one binding: its value is filed and counted, and what the ring lets go is delivered (R28, R29,
R37, R41). -/
theorem distribute_single (hd : (s.slot i).defn.isSome = true) (b : Binding) (p : Port) (m : List Byte) :
    distribute i (.sample [b]) p m s =
      let g := (s.sec b.sec).ring.file s.nominal.modulus (valueRecord i m b)
      deliver b.sec g.out ((s.setSlot i { s.slot i with
        late := if g.report = .late then satInc (s.slot i).late else (s.slot i).late
        duplicates := if g.report = .duplicate then satInc (s.slot i).duplicates else (s.slot i).duplicates
        saturated := if channelValid m b.channel = true ∧ clampSample (channelValue m b.channel) ≠ channelValue m b.channel
          then satInc (s.slot i).saturated else (s.slot i).saturated }).modSec b.sec
        fun z => { z with ring := g.ring }) := by
  show distributeBinding i m b s = _
  have counted : ((clampCounted i m b s).slot i).defn.isSome = true := by rwa [clampCounted_eq, State.slot_setSlot]
  rw [distributeBinding_eq, ringTakes_eq, ringFiled_eq (i := i) (v := valueRecord i m b) rfl counted, sec_clampCounted,
    nominal_clampCounted, clampCounted_eq, setSlot_setSlot, State.slot_setSlot]

theorem takenSlot_defn (b : SlotBody) (m : List Byte) (M : Nat) (x : Slot) : (takenSlot b m M x).defn = x.defn :=
  (Slot.judged_table _ _ _ _).1

/-- What a slot makes of a sample frame that it hands on (R22, R24). -/
theorem takenSlot_handsOn {bs : List Binding} {M : Nat} (hM : 1 < M) (hm : malformedFor (.sample bs) M m = false)
    (hx : (y.last = none ∨ ∃ l, y.last = some l ∧ sampleCount m = (l + 1) % M) ∧ x = y.inSequence (sampleCount m)
      ∨ y.last = some (sampleCount m) ∧ x = y
      ∨ (∃ l, y.last = some l ∧ sampleCount m ≠ l ∧ sampleCount m ≠ (l + 1) % M) ∧ x = y.afterGap (sampleCount m)) :
    takenSlot (.sample bs) m M y = x
      ∧ (judge (.sample bs) M y.last m).handsOn (SlotBody.isSample (.sample bs)) = true := by
  rw [takenSlot, judge_sample hm]
  rcases hx with ⟨hl | ⟨l, hl, next⟩, rfl⟩ | ⟨hl, rfl⟩ | ⟨⟨l, hl, other, ahead⟩, rfl⟩
  · rw [hl]; exact ⟨rfl, rfl⟩
  · rw [hl, judgeSample_next next]; exact ⟨rfl, rfl⟩
  · rw [hl, judgeSample_same hM]; exact ⟨rfl, rfl⟩
  · rw [hl, judgeSample_gap other ahead]; exact ⟨rfl, rfl⟩

/-- Settles O13: the frame's values are filed on the state with the counted slot, and no delivery of theirs clears a ring while
no section passes RECOVERY at once. -/
theorem sampleReachesItsRing : Obligations.SampleReachesItsRing := by
  intro p f s i d bs x taking hb good active m c judged clamped record filed
  have relayed := relayed_frame s p f
  have slot : (s.relayed p f).slot i = s.slot i := slot_of_linkFrame relayed i
  have nominal : (s.relayed p f).nominal = s.nominal := relayed.toStream.nominal
  have defn : (s.slot i).defn.isSome = true := by
    obtain ⟨-, -, -, -, -, -, defn⟩ := taking
    rw [defn]; rfl
  rw [hb] at good
  obtain ⟨taken, handed⟩ := takenSlot_handsOn (Nominal.modulus_gt_one _) good judged
  rw [← nominal, ← slot] at taken handed
  have run : exec (.frameReceptionComplete p f false) s
      = .next (conclude (distribute i (.sample bs) p m ((s.relayed p f).countSlot i x))) := by
    rw [exec_taken taking, hb, slotTakes_counted handed taken (distributes_iff.2 active),
      availabilityTold_values fun k => by simp]
  have sec (n : SecId) : ((s.relayed p f).countSlot i x).sec n = s.sec n := by rw [sec_countSlot, relayed.sec]
  have own : ((s.relayed p f).countSlot i x).slot i = x := by rw [slot_countSlot, if_pos rfl]
  have modulus : ((s.relayed p f).countSlot i x).nominal = s.nominal := by rw [nominal_countSlot, nominal]
  refine ⟨fun slow => ⟨_, run, fun n => ?_⟩, ?_⟩
  · have settled : ¬ RecoversAtOnce ((s.relayed p f).countSlot i x) := fun ⟨k, hk⟩ => slow k (sec k ▸ hk)
    rw [ring_distribute bs settled, sec, modulus]
    rfl
  · intro b single g y
    have defined : (((s.relayed p f).countSlot i x).slot i).defn.isSome = true := by
      rwa [own, ← taken, takenSlot_defn, slot]
    have delivered : exec (.frameReceptionComplete p f false) s = .next (conclude (deliver b.sec g.out
        ((((s.relayed p f).countSlot i x).setSlot i y).modSec b.sec fun z => { z with ring := g.ring }))) := by
      rw [run, single, distribute_single defined, sec, own, modulus]
      rfl
    refine ⟨delivered, fun off idle => ?_⟩
    have counted : ((((s.relayed p f).countSlot i x).setSlot i y).modSec b.sec fun z => { z with ring := g.ring }).sec b.sec
        = { s.sec b.sec with ring := g.ring } := by rw [State.sec_modSec, State.sec_setSlot, sec]
    rw [deliver_idle (by rwa [counted]) (by rwa [counted])] at delivered
    refine ⟨_, delivered, ?_⟩
    refine ⟨?_, counted, fun n hn => ?_, fun j hj => ?_⟩
    · rw [State.slot_modSec, State.slot_setSlot]
    · rw [State.sec_modSec_other _ _ _ _ hn, State.sec_setSlot, sec]
    · rw [State.slot_modSec, State.slot_setSlot_other _ _ _ _ hj, slot_countSlot, if_neg hj, slot_of_linkFrame relayed]

/-! The frames of STATE and DRIVE slots -/

/-- What a slot makes of a state or drive status frame that it hands on (R23, R24). -/
theorem takenSlot_sequence {M : Nat} (hb : b.isSample = false) (hm : malformedFor b M m = false)
    (hx : (y.last = none ∨ ∃ l, y.last = some l ∧ sequenceNumber m = (l + 1) % 65536) ∧ x = y.inSequence (sequenceNumber m)
      ∨ (∃ l, y.last = some l ∧ 2 ≤ (sequenceNumber m + 65536 - l % 65536) % 65536
          ∧ (sequenceNumber m + 65536 - l % 65536) % 65536 ≤ 32768) ∧ x = y.afterGap (sequenceNumber m)) :
    takenSlot b m M y = x ∧ (judge b M y.last m).handsOn b.isSample = true := by
  rw [takenSlot, judge_sequence hm hb, frameCount, hb]
  rcases hx with ⟨hl | ⟨l, hl, next⟩, rfl⟩ | ⟨⟨l, hl, above, below⟩, rfl⟩
  · rw [hl]; exact ⟨rfl, rfl⟩
  · have ahead : (sequenceNumber m + 65536 - l % 65536) % 65536 = 1 := by omega
    rw [hl, judgeSequence_some, ahead]; exact ⟨rfl, rfl⟩
  · have gap : judgeSequence (some l) (sequenceNumber m) = .gap := by
      rw [judgeSequence_some, if_neg, if_neg, if_pos below] <;> omega
    rw [hl, gap]; exact ⟨rfl, rfl⟩

theorem testBit_zero_eq (n : Nat) : n.testBit 0 = (n % 2 == 1) := by
  rw [Nat.testBit_zero, beq_eq_decide]

/-- The status record reads the fields of a well-formed frame (R31). -/
theorem statusOf_reads {c : CoilId} {M : Nat} (h : malformedFor (.drive c) M m = false) (p : Port) :
    motionOf (fieldNat m 12 1) = some (statusOf m p).motion
      ∧ injectionOf (fieldNat m 14 1) = some (statusOf m p).injection := by
  obtain ⟨-, ⟨-, motion⟩, injection⟩ : msgLength m ≤ m.length
      ∧ (16 ≤ msgLength m ∧ (motionOf (fieldNat m 12 1)).isSome = true)
      ∧ (injectionOf (fieldNat m 14 1)).isSome = true := by
    simpa [malformedFor] using h
  obtain ⟨v, hv⟩ := Option.isSome_iff_exists.1 motion
  obtain ⟨w, hw⟩ := Option.isSome_iff_exists.1 injection
  simp [statusOf, hv, hw]

/-- Settles O14: a state or drive status frame is distributed on the counted slot, after the report on the coupler source. -/
theorem statusFramesReachTheirUsers : Obligations.StatusFramesReachTheirUsers := by
  intro p f s i d x taking good active m c judged v
  have relayed := relayed_frame s p f
  have slot : (s.relayed p f).slot i = s.slot i := slot_of_linkFrame relayed i
  have nominal : (s.relayed p f).nominal = s.nominal := relayed.toStream.nominal
  have run (hb : d.body.isSample = false) : exec (.frameReceptionComplete p f false) s
      = .next (conclude (distribute i d.body p m (availabilityTold d.body (s.slot i).state x.state v))) := by
    obtain ⟨taken, handed⟩ := takenSlot_sequence hb good judged
    rw [← nominal, ← slot] at taken handed
    rw [exec_taken taking, slotTakes_counted handed taken (distributes_iff.2 active), slot]
  refine ⟨fun k w hb hw => ?_, fun k hb => ?_⟩
  · rw [hb] at run
    rw [run rfl]
    have point (t : State) : distribute i (.state k) p m t = couplerValue w t := by
      simp only [distribute, show couplerOf (pointValue m k) = some w from hw]
    have now : x.state.distributes = true := distributes_iff.2 active
    rw [point]
    refine ⟨fun was => ?_, fun was => ?_⟩
    · rw [availabilityTold, now, distributes_iff.2 was]
      rfl
    · have out : (s.slot i).state.distributes = false := by rcases was with h | h <;> rw [h] <;> rfl
      rw [availabilityTold, now, out]
      rfl
  · rw [hb] at run good
    obtain ⟨motion, injection⟩ := statusOf_reads good p
    refine ⟨statusOf m p, rfl, motion, ?_, ?_, injection, ?_, rfl, run rfl⟩
    · exact (testBit_zero_eq _).symm
    · rw [Nat.testBit_succ]; exact (testBit_zero_eq _).symm
    · exact (testBit_zero_eq _).symm

end Sys2Proof.Machine

/-! ### WRITE_SLOT (R15, R16, R109, R142) -/

namespace Sys2Proof.Machine

variable {s t u : State} {r : Request} {b : List Byte} {i j : Fin 24} {d : Option SlotDef} {c : CoilId} {n : SecId}

/-! The refused definitions -/

theorem slotDefOf_badBody (h : word b 1 = 1) (hk : ¬ BadKind b i s) (hm : word b 4 ≤ 3) {e : Nat × Option Nat}
    (hb : slotBodyOf b i s = .error e) : slotDefOf b i s = .error e := by
  obtain ⟨mode, hm⟩ := exists_compareModeOf hm
  rw [slotDefOf_valid h hk hm, hb]

theorem slotBodyOf_badCount (h2 : word b 2 = 0) (h : word b 5 < 1 ∨ 2 < word b 5) :
    slotBodyOf b i s = .error (5, none) := by
  simp only [slotBodyOf, h2, if_pos h]

theorem reads_nil : Reads b [] := fun k y h => by simp at h

theorem slotBodyOf_badBinding (h2 : word b 2 = 0) (h : 1 ≤ word b 5) (h' : word b 5 ≤ 2) {k : Nat} (hk : k < word b 5)
    (bad : BadBinding b i s k) (good : ∀ l < k, ¬ BadBinding b i s l) : slotBodyOf b i s = .error (5, some k) := by
  have error : bindingsOf b i s (word b 5) [] = .error k :=
    bindingsOf_error reads_nil (Nat.zero_le _) (by simpa using hk) bad good
  simp only [slotBodyOf, h2, if_neg (show ¬ (word b 5 < 1 ∨ 2 < word b 5) by omega), error]

theorem slotBodyOf_badPoint (h2 : word b 2 = 1) (h : 7 < word b 5) : slotBodyOf b i s = .error (6, none) := by
  simp only [slotBodyOf, h2, if_neg (Nat.not_le.2 h)]

theorem slotBodyOf_badCoil (h2 : word b 2 = 2) (h : (word b 5 ≠ 1 ∧ word b 5 ≠ 2)
      ∨ ∃ j c, j ≠ i ∧ word b 5 = CoilId.number c ∧ namesCoil (s.slot j).defn c = true) :
    slotBodyOf b i s = .error (6, none) := by
  rcases h with ⟨h1, h2'⟩ | ⟨j, c, hj, hc, named⟩
  · have none : coilOf (word b 5) = none := by
      cases hc : coilOf (word b 5) with
      | none => rfl
      | some c =>
        have := coilOf_eq_some.1 hc
        cases c <;> simp_all [CoilId.number]
    simp only [slotBodyOf, h2, none]
  · have taken : driveTaken i c s = true := driveTaken_iff.2 ⟨j, hj, named⟩
    simp only [slotBodyOf, h2, coilOf_eq_some.2 hc, taken, if_true]

theorem exec_writeSlot (h : Serving s 3 r b) : exec .writeSlot s = .next (conclude (answer r (serveWriteSlot b s))) :=
  congrArg Host.Outcome.next (act_serving h _)

theorem serveWriteSlot_noSlot (hl : writeSlotLength b = true) (h : 24 ≤ word b 0) :
    serveWriteSlot b s = unchanged s (.range 0 none) := by
  simp [serveWriteSlot, hl, slotOf_eq_none h]

theorem serveWriteSlot_error (hl : writeSlotLength b = true) (hi : word b 0 = i.val) {e : Nat × Option Nat}
    (h : slotDefOf b i s = .error e) : serveWriteSlot b s = unchanged s (.range e.1 e.2) := by
  simp [serveWriteSlot, hl, hi, slotOf_val, h]

theorem serveWriteSlot_ok (hl : writeSlotLength b = true) (hi : word b 0 = i.val) (h : slotDefOf b i s = .ok d) :
    serveWriteSlot b s = if tiedToEnabled (s.slot i).defn s || tiedToEnabled d s then unchanged s .state
      else done (writeSlot i d s) := by
  simp [serveWriteSlot, hl, hi, slotOf_val, h]

/-! The accepted write -/

/-- What the STATE slot's creation, removal or rewriting makes of the coupler record before its causes follow (R142). -/
def couplerRewritten (was now : Bool) (k : Coupler) : Coupler :=
  match was, now with
  | false, false => k
  | false, true => { k with configured := true, available := true, last := none }
  | true, false => { k with configured := false, available := false, last := none, staleTimer := none }
  | true, true => { k with available := true }

/-- The causes after the STATE slot is created, removed or rewritten (R142, R143). -/
def causesRewritten (was now : Bool) (u : Unsure) : Unsure :=
  match was, now with
  | false, false => u
  | false, true => { noValue := true, unavailable := false, value := false, stale := false }
  | true, false => { noValue := false, unavailable := false, value := false, stale := false }
  | true, true => { u with unavailable := false }

theorem setUnsure_own (s : State) : setUnsure s.coupler.unsure s = s := by
  rw [setUnsure_still rfl]

theorem rewriteCoupler_eq (was now : Bool) (s : State) : rewriteCoupler was now s =
    setUnsure (causesRewritten was now s.coupler.unsure) { s with coupler := couplerRewritten was now s.coupler } := by
  cases was <;> cases now
  · exact (setUnsure_own s).symm
  · rfl
  · rfl
  · rfl

theorem coupler_rewriteCoupler (was now : Bool) (s : State) : (rewriteCoupler was now s).coupler =
    { couplerRewritten was now s.coupler with unsure := causesRewritten was now s.coupler.unsure } := by
  rw [rewriteCoupler_eq, coupler_setUnsure]

theorem coil_rewriteCoupler (was now : Bool) (c : CoilId) (s : State) :
    (s.coil c).DropsTarget ((rewriteCoupler was now s).coil c) := by
  rw [rewriteCoupler_eq]
  have told := coil_setUnsure c (causesRewritten was now s.coupler.unsure)
    { s with coupler := couplerRewritten was now s.coupler }
  cases c <;> exact told

theorem sec_rewriteCoupler (was now : Bool) (n : SecId) (s : State) : ∃ g x,
    (rewriteCoupler was now s).sec n = { s.sec n with engine := g, inhibit := x } := by
  rw [rewriteCoupler_eq]
  obtain ⟨g, x, e⟩ := sec_setUnsure n (causesRewritten was now s.coupler.unsure)
    { s with coupler := couplerRewritten was now s.coupler }
  rw [e]
  cases n <;> exact ⟨g, x, rfl⟩

/-- A STATE slot created over no cause makes the coupler unsure (R142, R143). -/
theorem rewriteCoupler_created (h : s.coupler.unsure.isEmpty = true) :
    .couplerUnsure ∈ (rewriteCoupler false true s).events.summary
      ∧ ∀ n, ((rewriteCoupler false true s).sec n).inhibit = { (s.sec n).inhibit with unsure := true } := by
  rw [rewriteCoupler_eq, setUnsure_unsure (s := { s with coupler := couplerRewritten false true s.coupler }) h rfl]
  refine ⟨mem_summary_becomeUnsure _, fun n => ?_⟩
  rw [sec_becomeUnsure]
  cases n <;> rfl

/-- A STATE slot removed with its causes makes the coupler sure again (R142, R143). -/
theorem rewriteCoupler_removed (h : s.coupler.unsure.isEmpty = false) (n : SecId) :
    ((rewriteCoupler true false s).sec n).inhibit = { (s.sec n).inhibit with unsure := false } := by
  rw [rewriteCoupler_eq, setUnsure_sure (s := { s with coupler := couplerRewritten true false s.coupler }) h rfl,
    sec_becomeSure]
  cases n <;> rfl

theorem sec_slotWritten (i : Fin 24) (d : Option SlotDef) (s : State) (n : SecId) :
    (slotWritten i d s).sec n = s.sec n := by
  unfold slotWritten
  rw [State.sec_modCoil, State.sec_modCoil, LinkFrame.sec (raise_setSlot_cases _ _), State.sec_setSlot]

theorem mem_summary_slotWritten (h : (s.slot i).state ≠ .active) (d : Option SlotDef) :
    .streamState ∈ (slotWritten i d s).events.summary := by
  unfold slotWritten
  dsimp only
  rw [State.modCoil_events, State.modCoil_events, if_neg h]
  exact mem_summary_raise _ _ _

theorem slotWritten_kept (i : Fin 24) (d : Option SlotDef) (s : State) : (slotWritten i d s).maskA = s.maskA
    ∧ (slotWritten i d s).maskB = s.maskB ∧ (slotWritten i d s).requests = s.requests := by
  have told : LinkFrame (s.setSlot i (Slot.fresh d)) (if (s.slot i).state = .active then s.setSlot i (Slot.fresh d)
      else raise .streamState (.slot i) (s.setSlot i (Slot.fresh d))) := raise_setSlot_cases _ _
  unfold slotWritten
  dsimp only
  rw [State.modCoil_maskA, State.modCoil_maskA, State.modCoil_maskB, State.modCoil_maskB, State.modCoil_requests,
    State.modCoil_requests, told]
  exact ⟨rfl, rfl, rfl⟩

theorem rewriteCoupler_frame (was now : Bool) (s : State) : SectionFrame s (rewriteCoupler was now s) := by
  rw [rewriteCoupler_eq]
  exact SectionFrame.trans (by rfl) (setUnsure_frame _ _)

theorem mem_summary_rewriteCoupler {k : EventKind} (h : k ∈ s.events.summary) (was now : Bool) :
    k ∈ (rewriteCoupler was now s).events.summary := by
  rw [rewriteCoupler_eq]
  exact (setUnsure_sectionActs (P := True) (.refl _) _).summary _ h

/-- The rebinding keeps the arrival port, forgets what a newly bound coil reported, and clears the pending work of one no
longer named (R109). -/
theorem rebind_reads (k : Coil) (c : CoilId) (i : Fin 24) (d : Option SlotDef) :
    (k.rebind c i d).arrival = k.arrival
      ∧ (namesCoil d c = true → (k.rebind c i d).binding = some i)
      ∧ (namesCoil d c = true → k.binding ≠ some i → (k.rebind c i d).reported = none ∧ (k.rebind c i d).toggle = none)
      ∧ (namesCoil d c = false → k.binding = some i → (k.rebind c i d).binding = none
          ∧ (k.rebind c i d).pendMove = none ∧ (k.rebind c i d).pendInj = none ∧ (k.rebind c i d).pendStop = false) := by
  unfold Coil.rebind
  cases namesCoil d c <;> by_cases h : k.binding = some i <;> simp [h]

/-- A dropped pending target touches none of what the rebinding sets. -/
theorem Coil.DropsTarget.reads {k k' : Coil} (h : k.DropsTarget k') : k'.arrival = k.arrival ∧ k'.binding = k.binding
    ∧ k'.reported = k.reported ∧ k'.toggle = k.toggle ∧ (k.pendMove = none → k'.pendMove = none) ∧ k'.pendInj = k.pendInj
    ∧ k'.pendStop = k.pendStop := by
  rcases h with rfl | rfl
  · exact ⟨rfl, rfl, rfl, rfl, id, rfl, rfl⟩
  · exact ⟨rfl, rfl, rfl, rfl, fun _ => rfl, rfl, rfl⟩

/-- A coil after WRITE_SLOT (R109). -/
theorem coil_writeSlot (i : Fin 24) (d : Option SlotDef) (s : State) (c : CoilId) :
    ((s.coil c).rebind c i d).DropsTarget ((writeSlot i d s).coil c) := by
  rw [writeSlot_eq, ← coil_slotWritten]
  exact coil_rewriteCoupler _ _ c _

/-- What WRITE_SLOT does to the binding, the reports and the pending work of a coil (R109). -/
theorem coil_writeSlot_reads (i : Fin 24) (d : Option SlotDef) (s : State) (c : CoilId) :
    ((writeSlot i d s).coil c).arrival = (s.coil c).arrival
      ∧ (namesCoil d c = true → ((writeSlot i d s).coil c).binding = some i)
      ∧ (namesCoil d c = true → (s.coil c).binding ≠ some i →
          ((writeSlot i d s).coil c).reported = none ∧ ((writeSlot i d s).coil c).toggle = none)
      ∧ (namesCoil d c = false → (s.coil c).binding = some i → ((writeSlot i d s).coil c).binding = none
          ∧ ((writeSlot i d s).coil c).pendMove = none ∧ ((writeSlot i d s).coil c).pendInj = none
          ∧ ((writeSlot i d s).coil c).pendStop = false) := by
  obtain ⟨arrival, binding, reported, toggle, move, inj, stop⟩ := (coil_writeSlot i d s c).reads
  obtain ⟨kept, named, fresh, unnamed⟩ := rebind_reads (s.coil c) c i d
  rw [arrival, binding, reported, toggle, inj, stop]
  refine ⟨kept, named, fresh, fun hc hb => ?_⟩
  obtain ⟨unbound, noMove, noInj, noStop⟩ := unnamed hc hb
  exact ⟨unbound, move noMove, noInj, noStop⟩

theorem sec_writeSlot (i : Fin 24) (d : Option SlotDef) (s : State) (n : SecId) : ∃ g x,
    (writeSlot i d s).sec n = { s.sec n with engine := g, inhibit := x } := by
  obtain ⟨g, x, e⟩ := sec_rewriteCoupler (isStateSlot (s.slot i).defn) (isStateSlot d) n (slotWritten i d s)
  rw [writeSlot_eq, e, sec_slotWritten]
  exact ⟨g, x, rfl⟩

theorem coupler_writeSlot (i : Fin 24) (d : Option SlotDef) (s : State) : (writeSlot i d s).coupler =
    { couplerRewritten (isStateSlot (s.slot i).defn) (isStateSlot d) s.coupler with
      unsure := causesRewritten (isStateSlot (s.slot i).defn) (isStateSlot d) s.coupler.unsure } := by
  rw [writeSlot_eq, coupler_rewriteCoupler, coupler_slotWritten]

/-- Settles O37: the definition's fields are judged in their order, and a definition that is read replaces the slot, rebinds both
coils and is then told to the coupler record. -/
theorem writeSlotReplaces : Obligations.WriteSlotReplaces := by
  constructor
  · intro s r b h hl refused
    refine ⟨fun h0 => ?_, ?_⟩
    · unfold refused
      rw [exec_writeSlot h, serveWriteSlot_noSlot hl h0]
    intro i hi badKind badBinding
    have refuse {f : Nat} {p : Option Nat} (he : slotDefOf b i s = .error (f, p)) : refused f p := by
      unfold refused
      rw [exec_writeSlot h, serveWriteSlot_error hl hi he]
    refine ⟨fun h1 => refuse (slotDefOf_badFlag h1), fun h1 hk => refuse (slotDefOf_badKind h1 hk),
      fun h1 hk h4 => refuse (slotDefOf_badMode h1 hk h4), fun h1 hk h4 => ⟨fun h2 h5 => ?_, fun h2 h5 h5' k hk' bad good => ?_,
        fun h2 h5 => ?_, fun h2 h5 => ?_⟩, fun d => slotDefOf_eq_ok⟩
    · exact refuse (slotDefOf_badBody h1 hk h4 (slotBodyOf_badCount h2 h5))
    · exact refuse (slotDefOf_badBody h1 hk h4 (slotBodyOf_badBinding h2 h5 h5' hk' bad good))
    · exact refuse (slotDefOf_badBody h1 hk h4 (slotBodyOf_badPoint h2 h5))
    · exact refuse (slotDefOf_badBody h1 hk h4 (slotBodyOf_badCoil h2 h5))
  intro s r b i d h hl hi hd
  refine ⟨fun tied => ?_, fun before after => ?_⟩
  · have refusedTied : (tiedToEnabled (s.slot i).defn s || tiedToEnabled d s) = true := by simpa using tied
    rw [exec_writeSlot h, serveWriteSlot_ok hl hi hd, if_pos refusedTied]
  · have free : (tiedToEnabled (s.slot i).defn s || tiedToEnabled d s) = false := by rw [before, after]; rfl
    obtain ⟨slots, -, -⟩ := writeSlot_table i d s
    obtain ⟨maskA, maskB, requests⟩ := slotWritten_kept i d s
    have coupler := coupler_writeSlot i d s
    have frame := rewriteCoupler_frame (isStateSlot (s.slot i).defn) (isStateSlot d) (slotWritten i d s)
    rw [← writeSlot_eq] at frame
    have coil := coil_writeSlot_reads i d s
    refine ⟨writeSlot i d s, ?_, ?_, fun j hj => ?_, fun inactive => ?_, fun c hc => ?_, fun c hc hb => ?_,
      fun c hc hb => ?_, fun n => ?_, fun was now => ⟨?_, fun sure => ?_⟩, fun was now => ⟨?_, fun unsure => ?_⟩,
      fun was now => ?_, fun was now => ?_, fun c => ?_, ?_, ?_, ?_⟩
    · rw [exec_writeSlot h, serveWriteSlot_ok hl hi hd, free]
      rfl
    · rw [slots, if_pos rfl]
    · rw [slots, if_neg hj]
    · rw [writeSlot_eq]
      exact mem_summary_rewriteCoupler (mem_summary_slotWritten inactive d) _ _
    · obtain ⟨-, named, -, -⟩ := coil c
      exact named hc
    · obtain ⟨-, -, fresh, -⟩ := coil c
      exact fresh hc hb
    · obtain ⟨-, -, -, unnamed⟩ := coil c
      exact unnamed hc hb
    · obtain ⟨g, x, e⟩ := sec_writeSlot i d s n
      rw [e]
      exact ⟨rfl, rfl, rfl⟩
    · rw [coupler, was, now]
      rfl
    · have created := rewriteCoupler_created (s := slotWritten i d s) (by rwa [coupler_slotWritten])
      rw [writeSlot_eq, was, now]
      simpa only [sec_slotWritten] using created
    · rw [coupler, was, now]
      rfl
    · intro n
      have removed := rewriteCoupler_removed (s := slotWritten i d s) (by rwa [coupler_slotWritten]) n
      rw [writeSlot_eq, was, now]
      rwa [sec_slotWritten] at removed
    · rw [coupler, was, now]
      rfl
    · rw [coupler, was, now]
      rfl
    · obtain ⟨kept, -⟩ := coil c
      exact kept
    · rw [frame]; exact maskA
    · rw [frame]; exact maskB
    · rw [frame]; exact requests

end Sys2Proof.Machine

/-! ### WRITE_MASKS and ENABLE_SLOT (R18, R26) -/

namespace Sys2Proof.Machine

variable {s t u : State} {r : Request} {b : List Byte} {i j : Fin 24} {n : SecId}

theorem exec_writeMasks (h : Serving s 4 r b) : exec .writeMasks s = .next (conclude (answer r (serveWriteMasks b s))) :=
  congrArg Host.Outcome.next (act_serving h _)

/-- A slot in use depends on a mask word (R18). -/
def maskInUse (s : State) : Bool :=
  slotNumbers.any fun i => usesMask (s.slot i).defn && tiedToEnabled (s.slot i).defn s

theorem maskInUse_iff : maskInUse s = true ↔
    ∃ i, usesMask (s.slot i).defn = true ∧ tiedToEnabled (s.slot i).defn s = true := by
  unfold maskInUse
  rw [List.any_eq_true]
  exact exists_congr fun i =>
    ⟨fun ⟨_, h⟩ => Bool.and_eq_true_iff.1 h, fun h => ⟨List.mem_finRange i, Bool.and_eq_true_iff.2 h⟩⟩

theorem serveWriteMasks_eq (h : b.length = 8) : serveWriteMasks b s =
    if maskInUse s then unchanged s .state
    else done { s with maskA := BitVec.ofNat 32 (word b 0), maskB := BitVec.ofNat 32 (word b 1) } :=
  if_neg (not_not.2 h)

/-- A defined slot passes a frame of its own kind whose tag equals its own in the bits that its mode compares (R17). -/
theorem passes_iff {x : Slot} {d : SlotDef} (h : x.defn = some d) (maskA maskB : Word32) (k : FrameClass) (tag : Word32) :
    x.passes maskA maskB k tag = true ↔ d.body.kind = k ∧
      match d.mode with
      | .exact => tag = d.tag
      | .maskA => tag &&& maskA = d.tag &&& maskA
      | .maskB => tag &&& maskB = d.tag &&& maskB
      | .any => True := by
  obtain ⟨own, mode, body⟩ := d
  cases mode <;> simp [Slot.passes, h, tagMatches]

/-- Settles O38. -/
theorem writeMasksTakesBoth : Obligations.WriteMasksTakesBoth := by
  intro s r b h hb
  refine ⟨fun used => ?_, ?_⟩
  · rw [exec_writeMasks h, serveWriteMasks_eq hb, if_pos (maskInUse_iff.2 used)]
  · intro free a m t
    have unused : ¬ maskInUse s = true := fun hu => by
      obtain ⟨i, uses, tied⟩ := maskInUse_iff.1 hu
      rw [free i uses] at tied
      cases tied
    refine ⟨?_, fun i d k tag hd => passes_iff hd a m k tag⟩
    rw [exec_writeMasks h, serveWriteMasks_eq hb, if_neg unused]

theorem withSlot_eq (hl : b.length = 4) (hi : word b 0 = i.val) (f : Fin 24 → State → Served) (s : State) :
    withSlot f b s = f i s := by
  simp [withSlot, hl, hi, slotOf_val]

theorem modPort_setSlot (s : State) (i : Fin 24) (x : Slot) (p : Port) (f : PortState → PortState) :
    (s.setSlot i x).modPort p f = (s.modPort p f).setSlot i x := by cases p <;> rfl

theorem offerNotice_setSlot (e : Source) (p : Port) (s : State) (i : Fin 24) (x : Slot) :
    offerNotice e p (s.setSlot i x) = (offerNotice e p s).setSlot i x := by
  unfold offerNotice
  rw [State.port_setSlot]
  simp only [modPort_setSlot]
  split
  · rfl
  · split <;> rfl

/-- The slots play no part in an event. -/
theorem raise_setSlot (k : EventKind) (o : Obj) (s : State) (i : Fin 24) (x : Slot) :
    raise k o (s.setSlot i x) = (raise k o s).setSlot i x := by
  unfold raise
  dsimp only
  have filed (e : Source) : fileEvent e (s.setSlot i x) = (fileEvent e s).setSlot i x := rfl
  rw [show (s.setSlot i x).events = s.events from rfl, show (s.setSlot i x).ms = s.ms from rfl, filed]
  split
  · rw [offerNotice_setSlot, offerNotice_setSlot]
  · rfl

/-- Causes that do not become non-empty raise no event (R143). -/
theorem events_setUnsure {x : Unsure} (h : s.coupler.unsure.isEmpty = true → x.isEmpty = true) :
    (setUnsure x s).events = s.events := by
  rcases setUnsure_cases x s with ⟨was, now⟩ | ⟨was, now⟩ | same
  · exact absurd (h was) (by simp [now])
  · rw [setUnsure_sure was now]; rfl
  · rw [setUnsure_still same]

/-- A coupler source reported available raises no event: it can only take a cause away (R30, R143). -/
theorem events_reportAvailable (s : State) : (reportAvailability true s).events = s.events := by
  have fewer : s.coupler.unsure.isEmpty = true → Unsure.isEmpty { s.coupler.unsure with unavailable := false } = true := by
    simp +contextual [Unsure.isEmpty]
  exact events_setUnsure (s := { s with coupler := { s.coupler with available := true } }) fewer

theorem sec_reportAvailability (a : Bool) (n : SecId) (s : State) : ∃ g x,
    (reportAvailability a s).sec n = { s.sec n with engine := g, inhibit := x } := by
  obtain ⟨g, x, e⟩ := sec_setUnsure n { s.coupler.unsure with unavailable := !a }
    { s with coupler := { s.coupler with available := a } }
  refine ⟨g, x, e.trans ?_⟩
  cases n <;> rfl

/-- A slot as ENABLE_SLOT leaves it (R26). -/
def Slot.enabled (x : Slot) : Slot := { x with errors := 0, state := .active, last := none }

/-- The slot enabled, and STREAM_STATE from any state but ACTIVE, before the coupler is told (R26). -/
def slotEnabled (i : Fin 24) (s : State) : State :=
  if (s.slot i).state = .active then s.setSlot i (s.slot i).enabled
  else raise .streamState (.slot i) (s.setSlot i (s.slot i).enabled)

theorem enableSlot_eq (i : Fin 24) (s : State) : enableSlot i s =
    if isStateSlot (s.slot i).defn && !(s.slot i).state.distributes then reportAvailability true (slotEnabled i s)
    else slotEnabled i s := rfl

theorem slotEnabled_frame (i : Fin 24) (s : State) : LinkFrame (s.setSlot i (s.slot i).enabled) (slotEnabled i s) :=
  raise_setSlot_cases _ _

theorem enableSlot_active (h : (s.slot i).state = .active) : enableSlot i s = s.setSlot i (s.slot i).enabled := by
  simp [enableSlot_eq, slotEnabled, h, SlotState.distributes]

theorem enableSlot_acts (i : Fin 24) (s : State) : SectionActs True (slotEnabled i s) (enableSlot i s) :=
  .ite (reportAvailability_sectionActs (.refl _) _) (.refl _)

theorem events_enableSlot (h : (s.slot i).state ≠ .active) :
    (enableSlot i s).events = (raise .streamState (.slot i) s).events := by
  have told : (slotEnabled i s).events = (raise .streamState (.slot i) s).events := by
    rw [slotEnabled, if_neg h, raise_setSlot]
    rfl
  rw [enableSlot_eq]
  split
  exacts [(events_reportAvailable _).trans told, told]

theorem secState_enableSlot (i : Fin 24) (n : SecId) (s : State) :
    ((enableSlot i s).sec n).state = (s.sec n).state := by
  have kept : (slotEnabled i s).sec n = s.sec n := by rw [(slotEnabled_frame i s).sec, State.sec_setSlot]
  rw [enableSlot_eq]
  split
  · obtain ⟨g, x, e⟩ := sec_reportAvailability true n (slotEnabled i s)
    rw [e, kept]
  · rw [kept]

/-- Settles O39. -/
theorem enableSlotActivates : Obligations.EnableSlotActivates := by
  intro s r b i h hb hi
  have run : exec .enableSlot s = .next (conclude (answer r (serveEnableSlot i s))) := by
    rw [← withSlot_eq hb hi serveEnableSlot]
    exact congrArg Host.Outcome.next (act_serving h _)
  refine ⟨fun undefined => ?_, fun defined => ⟨enableSlot i s, ?_, ?_, fun j hj => ?_, fun active => enableSlot_active active,
    fun inactive => events_enableSlot inactive, fun n => secState_enableSlot i n s⟩⟩
  · rw [run, serveEnableSlot, undefined]
    rfl
  · rw [run, serveEnableSlot, if_pos defined]
  · rw [(enableSlot_acts i s).slot, slot_of_linkFrame (slotEnabled_frame i s), State.slot_setSlot]
    rfl
  · rw [(enableSlot_acts i s).slot, slot_of_linkFrame (slotEnabled_frame i s), State.slot_setSlot_other _ _ _ _ hj]

end Sys2Proof.Machine

/-! ### WRITE_GLOBAL (R176) -/

namespace Sys2Proof.Machine

variable {s t u : State} {r : Request} {b : List Byte} {i : Fin 24} {n m : SecId} {q : Nominal} {k : Nat}

/-! The first failing check (R172) -/

theorem firstFailing_cons_pass {c : Bool} (h : c = true) (k : Nat) (cs : List (Nat × Bool)) :
    firstFailing ((k, c) :: cs) = firstFailing cs := by
  simp [firstFailing, h]

theorem firstFailing_cons_fail {c : Bool} (h : c = false) (k : Nat) (cs : List (Nat × Bool)) :
    firstFailing ((k, c) :: cs) = some k := by
  simp [firstFailing, h]

theorem firstFailing_eq_none {cs : List (Nat × Bool)} (h : ∀ c ∈ cs, c.2 = true) : firstFailing cs = none := by
  induction cs with
  | nil => rfl
  | cons c cs ih => rw [firstFailing_cons_pass (h c (by simp))]; exact ih fun d hd => h d (by simp [hd])

theorem firstFailing_range {n : Nat} {p : Nat → Bool} {f : Nat → Nat} (hk : k < n) (bad : p k = false)
    (good : ∀ j < k, p j = true) : firstFailing ((List.range n).map fun j => (f j, p j)) = some (f k) := by
  unfold firstFailing
  rw [List.find?_map]
  have found : (List.range n).find? ((fun x : Nat × Bool => !x.2) ∘ fun j => (f j, p j)) = some k := by
    rw [List.find?_range_eq_some]
    exact ⟨by simp [bad], by simpa using hk, fun j hj => by simp [good j hj]⟩
  rw [found]
  rfl

/-- The checks of the enables, from field 4 on. -/
def enableChecks (b : List Byte) : List (Nat × Bool) := (List.range 22).map fun k => (4 + k, word b (3 + k) ≤ 1)

theorem globalChecks_eq (b : List Byte) : globalChecks b = (1, (nominalOf (word b 0)).isSome) ::
    (2, within 0 256 (word b 1)) :: (3, within 50 60000 (word b 2)) :: enableChecks b := rfl

theorem nominalOf_hertz (q : Nominal) : nominalOf q.hertz = some q := by cases q <;> rfl

theorem nominalOf_eq_none {n : Nat} (h : n ≠ 50) (h' : n ≠ 60) : nominalOf n = none := by
  unfold nominalOf
  split <;> simp_all

theorem within_iff {lo hi n : Nat} : within lo hi n = true ↔ lo ≤ n ∧ n ≤ hi := by simp [within]

theorem within_eq_false {lo hi n : Nat} (h : n < lo ∨ hi < n) : within lo hi n = false := by
  rw [Bool.eq_false_iff, ne_eq, within_iff]
  omega

theorem exec_writeGlobal (h : Serving s 12 r b) : exec .writeGlobal s = .next (conclude (answer r (serveWriteGlobal b s))) :=
  congrArg Host.Outcome.next (act_serving h _)

theorem serveWriteGlobal_refused (hb : b.length = 100) (h : firstFailing (globalChecks b) = some k) :
    serveWriteGlobal b s = unchanged s (.range k none) := by
  simp [serveWriteGlobal, hb, h]

theorem serveWriteGlobal_disabled (hb : b.length = 100) (h : firstFailing (globalChecks b) = none)
    (h1 : s.sec1.state = .disabled) (h2 : s.sec2.state = .disabled) : serveWriteGlobal b s =
      done (writeLive (globalsOf b) { writeNominal (globalsOf b).nominal s with couplerTimeout := word b 2 }) := by
  simp only [serveWriteGlobal, hb, h, h1, h2, ne_eq, not_true_eq_false, if_false, and_self, if_true]
  rfl

theorem serveWriteGlobal_enabled (hb : b.length = 100) (h : firstFailing (globalChecks b) = none)
    (hs : s.sec1.state ≠ .disabled ∨ s.sec2.state ≠ .disabled) : serveWriteGlobal b s =
      if (globalsOf b).nominal = s.nominal ∧ word b 2 = s.couplerTimeout then done (writeLive (globalsOf b) s)
      else unchanged s .state := by
  have some_enabled : ¬ (s.sec1.state = .disabled ∧ s.sec2.state = .disabled) := fun ⟨h1, h2⟩ => hs.elim (· h1) (· h2)
  simp only [serveWriteGlobal, hb, h, ne_eq, not_true_eq_false, if_false, some_enabled]
  rfl

/-! The locked settings taken -/

theorem sec_clearMeasurement (n m : SecId) (s : State) : (clearMeasurement n s).sec m =
    if m = n then { s.sec m with
      ring := Ring.cleared, estimate := Estimate.cleared, counter := 0
      engine := { (s.sec m).engine with quick := (s.sec m).settings.quickWindows } } else s.sec m := by
  unfold clearMeasurement resetEstimate
  split
  · next h => rw [h, State.sec_modSec, State.sec_modSec]
  · next h => rw [State.sec_modSec_other _ _ _ _ h, State.sec_modSec_other _ _ _ _ h]

theorem clearMeasurement_kept (n : SecId) (s : State) :
    clearMeasurement n s = { s with sec1 := (clearMeasurement n s).sec1, sec2 := (clearMeasurement n s).sec2 } := by
  cases n <;> rfl

theorem writeNominal_kept (q : Nominal) (s : State) : writeNominal q s =
    { s with nominal := q, slots := s.slots.map Slot.forgetCount
             sec1 := (writeNominal q s).sec1, sec2 := (writeNominal q s).sec2 } := by
  rw [writeNominal_eq, clearMeasurement_kept, clearMeasurement_kept]

/-- What a write of the frequency makes of the parts of the state other than the sections (R22, R176). -/
theorem writeNominal_reads (q : Nominal) (s : State) : (writeNominal q s).nominal = q
    ∧ (writeNominal q s).slots = s.slots.map Slot.forgetCount ∧ (writeNominal q s).events = s.events
    ∧ (writeNominal q s).coil1 = s.coil1 ∧ (writeNominal q s).coil2 = s.coil2 ∧ (writeNominal q s).portA = s.portA
    ∧ (writeNominal q s).portB = s.portB ∧ (writeNominal q s).coupler = s.coupler := by
  rw [writeNominal_kept]
  exact ⟨rfl, rfl, rfl, rfl, rfl, rfl, rfl, rfl⟩

theorem sec_writeNominal (q : Nominal) (n : SecId) (s : State) : (writeNominal q s).sec n =
    { s.sec n with
      ring := Ring.cleared, estimate := Estimate.cleared, counter := 0
      engine := { (s.sec n).engine with quick := (s.sec n).settings.quickWindows } } := by
  rw [writeNominal_eq, sec_clearMeasurement, sec_clearMeasurement]
  cases n <;> rfl

/-- Settles O42. -/
theorem writeGlobalTakes : Obligations.WriteGlobalTakes := by
  intro s r b h hb refused
  have refuse {k : Nat} (hk : firstFailing (globalChecks b) = some k) : refused k := by
    unfold refused
    rw [exec_writeGlobal h, serveWriteGlobal_refused hb hk]
  refine ⟨fun h50 h60 => refuse ?_, fun q hq => ?_⟩
  · rw [globalChecks_eq, firstFailing_cons_fail (by rw [nominalOf_eq_none h50 h60]; rfl)]
  have frequency : (nominalOf (word b 0)).isSome = true := by rw [hq, nominalOf_hertz]; rfl
  refine ⟨fun share => refuse ?_, fun share => ⟨fun timeout => refuse ?_, fun low high => ⟨fun k hk bad good => refuse ?_,
    fun enables => ?_⟩⟩⟩
  · rw [globalChecks_eq, firstFailing_cons_pass frequency, firstFailing_cons_fail (within_eq_false (.inr share))]
  · rw [globalChecks_eq, firstFailing_cons_pass frequency, firstFailing_cons_pass (within_iff.2 ⟨Nat.zero_le _, share⟩),
      firstFailing_cons_fail (within_eq_false timeout)]
  · rw [globalChecks_eq, firstFailing_cons_pass frequency, firstFailing_cons_pass (within_iff.2 ⟨Nat.zero_le _, share⟩),
      firstFailing_cons_pass (within_iff.2 ⟨low, high⟩)]
    exact firstFailing_range hk (by simpa using bad) fun j hj => by simpa using good j hj
  have pass : firstFailing (globalChecks b) = none := by
    rw [globalChecks_eq, firstFailing_cons_pass frequency, firstFailing_cons_pass (within_iff.2 ⟨Nat.zero_le _, share⟩),
      firstFailing_cons_pass (within_iff.2 ⟨low, high⟩)]
    refine firstFailing_eq_none fun c hc => ?_
    obtain ⟨k, hk, rfl⟩ := List.mem_map.1 hc
    simpa using enables k (List.mem_range.1 hk)
  have nominal : (globalsOf b).nominal = q := by simp [globalsOf, hq, nominalOf_hertz]
  refine ⟨fun h1 h2 => ⟨writeLive (globalsOf b) { writeNominal (globalsOf b).nominal s with couplerTimeout := word b 2 },
    ?_, ?_⟩, fun some_enabled => ⟨fun same => ?_, fun other => ?_⟩⟩
  · rw [exec_writeGlobal h, serveWriteGlobal_disabled hb pass h1 h2]
  · rw [nominal]
    obtain ⟨taken, slots, events, coil1, coil2, portA, portB, coupler⟩ := writeNominal_reads q s
    refine ⟨taken, rfl, rfl, ?_, fun n => ?_, fun i => ?_, coil1, coil2, portA, portB, coupler⟩
    · rw [← events]
      rfl
    · rw [← sec_writeNominal q n s]
      cases n <;> rfl
    · rw [← slot_mapSlots s Slot.forgetCount i, ← slots]
      rfl
  · have equal : (globalsOf b).nominal = s.nominal ∧ word b 2 = s.couplerTimeout := by
      rw [nominal]
      exact ⟨same.1.symm, same.2.symm⟩
    rw [exec_writeGlobal h, serveWriteGlobal_enabled hb pass some_enabled, if_pos equal]
    rfl
  · have unequal : ¬ ((globalsOf b).nominal = s.nominal ∧ word b 2 = s.couplerTimeout) := by
      rw [nominal]
      exact fun ⟨h1, h2⟩ => other ⟨h1.symm, h2.symm⟩
    rw [exec_writeGlobal h, serveWriteGlobal_enabled hb pass some_enabled, if_neg unequal]

end Sys2Proof.Machine

/-! ### The reads that clear nothing (R32, R68, R91, R128, R173, R174) -/

namespace Sys2Proof.Machine

variable {s : State} {r : Request} {b : List Byte}

theorem secOf_number (n : SecId) : secOf (SecId.number n) = some n := secOf_eq_some.2 rfl

theorem coilOf_number (c : CoilId) : coilOf (CoilId.number c) = some c := coilOf_eq_some.2 rfl

/-- The enables stand in the order of R161. -/
theorem enables_toList (x : EventUnit) : x.enables.toList = allKinds.map x.enabled := by
  have codes : allKinds.map EventKind.code = List.finRange 22 := by decide
  calc x.enables.toList = (List.finRange 22).map (fun k => x.enables[k]) := by apply List.ext_getElem <;> simp
    _ = allKinds.map x.enabled := by rw [← codes, List.map_map]; rfl

/-- Settles O34: each read is served with its object at the head of the queue, and answers by its own equation. -/
theorem readsAnswer : Obligations.ReadsAnswer := by
  intro s r b
  have run {k : Nat} (f : List Byte → State → Served) (h : Serving s k r b) {x : Served} (hx : f b s = x) :
      (Host.Outcome.next (act (serve k f) s) : Host.Outcome State Fault Refusal) = .next (conclude (answer r x)) := by
    rw [act_serving h, hx]
  refine ⟨fun h hb => ?_, fun i h hb hi => ?_, fun c h hb hc => ?_, fun n h hb hn => ?_, fun c h hb hc => ?_, fun h hb => ?_⟩
  · refine run (noFields serveReadInfo) h ?_
    rw [hb, noFields_nil, ← enables_toList]
    rfl
  · exact run (withSlot serveReadSlot) h (withSlot_eq hb hi _ s)
  · exact run (withCoil serveReadCoilTable) h (withCoil_eq hb (by rw [hc, coilOf_number]) _ s)
  · exact run (withSection serveReadSectionSettings) h (withSection_eq hb (by rw [hn, secOf_number]) _ s)
  · exact run (withCoil serveReadCoilSettings) h (withCoil_eq hb (by rw [hc, coilOf_number]) _ s)
  · refine run (noFields serveReadState) h ?_
    rw [hb, noFields_nil]
    rfl

end Sys2Proof.Machine

/-! ### The state after reset (R24, R34, R89, R131, R164, R172) -/

namespace Sys2Proof.Machine

theorem ring_cleared_wf (M : Nat) : Ring.cleared.wf M := by simp [Ring.wf, Ring.cleared]

theorem sec_reset (n : SecId) :
    State.reset.sec n = Section.initial SectionSettings.default { frozen := false, unsure := false } := by
  cases n <;> rfl

theorem coil_reset (c : CoilId) : State.reset.coil c = Coil.initial [] CoilSettings.default none none [] := by
  cases c <;> rfl

theorem engines_reset : EnginesFollow State.reset := fun n => by
  rw [sec_reset]
  exact ⟨fun _ => .inl rfl, fun _ => rfl⟩

theorem supervisors_reset : SupervisorsFollow State.reset := fun n => by cases n <;> decide

theorem levels_reset : LevelsInOrder State.reset :=
  ⟨by decide, fun _ => ⟨fun h => absurd rfl h, fun ⟨_, h⟩ => nomatch h⟩⟩

theorem settings_reset : SettingsLegal State.reset := by
  refine ⟨fun n => ?_, fun c => ?_, fun c => ?_, by decide, by decide, by decide⟩
  · rw [sec_reset]; decide
  · rw [coil_reset]; decide
  · rw [coil_reset]; exact .inl rfl

/-- Settles O53. -/
theorem resetMeetsInvariants : Obligations.ResetMeetsInvariants := by
  obtain ⟨queues, empty⟩ : QueuesGood State.reset := (sound_initial 15 .down .down).good
  obtain ⟨table, bands⟩ : TableGood State.reset := tableGood_initial 15 .down .down
  refine ⟨queues, empty, fun n => ?_, levels_reset, ⟨by decide, by decide⟩, engines_reset, supervisors_reset, fun c hc => ?_,
    settings_reset, fun n e he => ?_, bands, table⟩
  · rw [sec_reset]; exact ring_cleared_wf _
  · rw [coil_reset] at hc; cases hc
  · rw [sec_reset] at he; cases he

end Sys2Proof.Machine

/-! ### Leads of sample counts, and the form of a ring's entries (R34, R35) -/

namespace Sys2Proof.Machine

variable {m l c d : Nat} {r : Ring} {e h : RingEntry} {es rest : List RingEntry} {x : ValueRecord} {role : Role} {v : RingValue}

/-- The lead of a count, without the remainder (R35). -/
theorem lead_eq (hl : l < m) (hc : c < m) : lead m l c = if l ≤ c then c - l else c + m - l := by
  unfold lead
  rw [Nat.mod_eq_of_lt hl]
  split
  · rw [show c + m - l = c - l + m by omega, Nat.add_mod_right, Nat.mod_eq_of_lt (by omega)]
  · exact Nat.mod_eq_of_lt (by omega)

theorem isAhead_iff : isAhead m l c = true ↔ 1 ≤ lead m l c ∧ lead m l c ≤ m / 2 := by simp [isAhead]

/-- When the last count delivered moves on to `d`, the lead of every count behind it falls by the lead of `d` (R35). -/
theorem lead_after (hl : l < m) (hd : d < m) (hc : c < m) (h : lead m l d < lead m l c) :
    lead m d c = lead m l c - lead m l d := by
  rw [lead_eq hl hd, lead_eq hl hc] at *
  rw [lead_eq hd hc]
  split_ifs at * <;> omega

/-- The first value after a clearing is one ahead (R36). -/
theorem lead_before (hm : 1 < m) (hc : c < m) : lead m ((c + m - 1) % m) c = 1 := by
  rw [lead_eq (Nat.mod_lt _ (by omega)) hc]
  rcases Nat.eq_zero_or_pos c with rfl | hp
  · rw [Nat.mod_eq_of_lt (by omega)]
    split_ifs <;> omega
  · rw [show c + m - 1 = c - 1 + m by omega, Nat.add_mod_right, Nat.mod_eq_of_lt (by omega)]
    split_ifs <;> omega

theorem complete_eq_false_iff : e.complete = false ↔ e.u = none ∨ e.i = none := by
  unfold RingEntry.complete
  cases e.u <;> cases e.i <;> simp

/-- Entries in the form of R34 and R35 over the last count delivered `l`: each holds a value for a count ahead, in rising
order of lead. -/
structure InLead (m l : Nat) (es : List RingEntry) : Prop where
  holds : ∀ e ∈ es, e.count < m ∧ (e.u.isSome = true ∨ e.i.isSome = true)
  ahead : ∀ e ∈ es, isAhead m l e.count = true
  rising : es.Pairwise fun a b => lead m l a.count < lead m l b.count

/-- The form of a ring that has a last count delivered. -/
theorem wf_iff_of_last (hl : r.last = some l) : r.wf m ↔
    r.entries.length ≤ Config.ringPlaces ∧ l < m ∧ InLead m l r.entries ∧ ∀ e ∈ r.entries.head?, e.complete = false := by
  unfold Ring.wf
  rw [hl]
  exact ⟨fun ⟨len, holds, head, lt, ahead, rising⟩ => ⟨len, lt, ⟨holds, ahead, rising⟩, head⟩,
    fun ⟨len, lt, form, head⟩ => ⟨len, form.holds, head, lt, form.ahead, form.rising⟩⟩

theorem entries_nil_of_last_none (hr : r.wf m) (hl : r.last = none) : r.entries = [] := by
  obtain ⟨-, -, -, empty⟩ := hr
  rwa [hl] at empty

/-- No two entries share a count (R34). -/
theorem InLead.eq_of_count (form : InLead m l es) {a b : RingEntry} (ha : a ∈ es) (hb : b ∈ es) (hc : a.count = b.count) :
    a = b := by
  have distinct : (es.map RingEntry.count).Nodup := List.pairwise_map.2 (form.rising.imp fun hlt heq => by
    rw [heq] at hlt
    exact lt_irrefl _ hlt)
  exact List.inj_on_of_nodup_map distinct ha hb hc

/-- With the head gone and its count delivered, the entries behind it keep their form (R35). -/
theorem InLead.tail (hl : l < m) (form : InLead m l (h :: es)) : InLead m h.count es := by
  obtain ⟨holds, ahead, rising⟩ := form
  obtain ⟨behind, rising⟩ := List.pairwise_cons.1 rising
  have hh : h.count < m := (holds h (by simp)).1
  have fall (e : RingEntry) (he : e ∈ es) : lead m h.count e.count = lead m l e.count - lead m l h.count :=
    lead_after hl hh (holds e (by simp [he])).1 (behind e he)
  refine ⟨fun e he => holds e (by simp [he]), fun e he => ?_, rising.imp_of_mem fun {a b} ha hb hab => ?_⟩
  · have := isAhead_iff.1 (ahead e (by simp [he]))
    have := behind e he
    rw [isAhead_iff, fall e he]
    omega
  · have := behind a ha
    rw [fall a ha, fall b hb]
    omega

/-! A new entry (R37 step 6) -/

theorem insertEntry_perm (m l : Nat) (e : RingEntry) (es : List RingEntry) : (insertEntry m l e es).Perm (e :: es) := by
  induction es with
  | nil => exact .refl _
  | cons h es ih =>
    unfold insertEntry
    split
    · exact .refl _
    · exact (ih.cons h).trans (.swap e h es)

theorem mem_insertEntry {a : RingEntry} : a ∈ insertEntry m l e es ↔ a = e ∨ a ∈ es := by
  rw [(insertEntry_perm m l e es).mem_iff, List.mem_cons]

/-- The head after an insertion is the new entry or the head before. -/
theorem head_insertEntry {a : RingEntry} (ha : a ∈ (insertEntry m l e es).head?) : a = e ∨ a ∈ es.head? := by
  cases es with
  | nil => exact .inl (by simpa [insertEntry, eq_comm] using ha)
  | cons h es =>
    unfold insertEntry at ha
    split at ha
    · exact .inl (by simpa [eq_comm] using ha)
    · exact .inr ha

theorem insertEntry_rising (hne : ∀ a ∈ es, lead m l a.count ≠ lead m l e.count)
    (rising : es.Pairwise fun a b => lead m l a.count < lead m l b.count) :
    (insertEntry m l e es).Pairwise fun a b => lead m l a.count < lead m l b.count := by
  induction es with
  | nil => exact List.pairwise_singleton _ _
  | cons h es ih =>
    obtain ⟨behind, rest⟩ := List.pairwise_cons.1 rising
    unfold insertEntry
    split
    · next lt =>
      refine List.pairwise_cons.2 ⟨fun a ha => ?_, rising⟩
      rcases List.mem_cons.1 ha with rfl | ha
      · exact lt
      · exact lt.trans (behind a ha)
    · next ge =>
      refine List.pairwise_cons.2 ⟨fun a ha => ?_, ih (fun a ha => hne a (by simp [ha])) rest⟩
      rcases mem_insertEntry.1 ha with rfl | ha
      · exact lt_of_le_of_ne (not_lt.1 ge) (hne h (by simp))
      · exact behind a ha

theorem InLead.insert (form : InLead m l es) (hl : l < m) (hc : e.count < m) (hv : e.u.isSome = true ∨ e.i.isSome = true)
    (ha : isAhead m l e.count = true) (hne : ∀ a ∈ es, a.count ≠ e.count) : InLead m l (insertEntry m l e es) where
  holds a h := by
    rcases mem_insertEntry.1 h with rfl | h
    exacts [⟨hc, hv⟩, form.holds a h]
  ahead a h := by
    rcases mem_insertEntry.1 h with rfl | h
    exacts [ha, form.ahead a h]
  rising := insertEntry_rising (fun a h heq => hne a h (by
    have := (form.holds a h).1
    rw [lead_eq hl this, lead_eq hl hc] at heq
    split_ifs at heq <;> omega)) form.rising

/-! A value in an entry that lacks it (R37 step 5) -/

theorem place_holds (e : RingEntry) (role : Role) (v : RingValue) :
    (e.place role v).u.isSome = true ∨ (e.place role v).i.isSome = true := by
  cases role
  · exact .inl rfl
  · exact .inr rfl

/-- A new entry holds one value only. -/
theorem place_new_incomplete (c : Nat) (role : Role) (v : RingValue) :
    (RingEntry.place { count := c, u := none, i := none } role v).complete = false := by cases role <;> rfl

theorem placeValue_count (c : Nat) (role : Role) (v : RingValue) (e : RingEntry) :
    (if e.count = c then e.place role v else e).count = e.count := by
  split
  exacts [e.place_count role v, rfl]

theorem InLead.place (form : InLead m l es) (c : Nat) (role : Role) (v : RingValue) :
    InLead m l (placeValue c role v es) where
  holds a h := by
    obtain ⟨e, he, rfl⟩ := List.mem_map.1 h
    obtain ⟨lt, some_value⟩ := form.holds e he
    refine ⟨(placeValue_count c role v e).symm ▸ lt, ?_⟩
    split
    exacts [place_holds e role v, some_value]
  ahead a h := by
    obtain ⟨e, he, rfl⟩ := List.mem_map.1 h
    rw [placeValue_count]
    exact form.ahead e he
  rising := by
    refine List.pairwise_map.2 (form.rising.imp fun {a b} hab => ?_)
    rwa [placeValue_count, placeValue_count]

/-! ### Departures (R39, R40, R42, R43) -/

/-- The fill pairs stand for the counts after the last one delivered, one by one (R42). -/
theorem fillPairs_eq (m : Nat) (r : Ring) (last g : Nat) : fillPairs m r last g = (List.range g).map fun k =>
    .pair { index := r.index + k, count := (last + 1 + k) % m, u := r.heldU, i := r.heldI, substU := true,
            substI := true } := by
  induction g generalizing r last with
  | zero => rfl
  | succ g ih =>
    rw [fillPairs, ih, List.range_succ_eq_map, List.map_cons, List.map_map]
    refine congrArg _ (List.map_congr_left fun k _ => ?_)
    have index : r.index + 1 + k = r.index + (k + 1) := by omega
    have count : ((last + 1) % m + 1 + k) % m = (last + 1 + (k + 1)) % m := by
      rw [Nat.add_assoc, Nat.mod_add_mod]
      congr 1
      omega
    simp only [Function.comp_apply, Nat.succ_eq_add_one, index, count]

/-- The departure of a head that is ahead of the last count delivered (R40). -/
theorem depart_eq (hl : r.last = some l) (ha : isAhead m l h.count = true) (rest : List RingEntry) :
    depart m r l h rest = (r.afterDepartures m [h] rest, r.departureOf m h) := by
  have moves : 1 ≤ lead m l h.count := (isAhead_iff.1 ha).1
  have index : r.index + (lead m l h.count - 1) + 1 = r.index + lead m l h.count := by omega
  have u : (match h.u with | some v => v.value | none => r.heldU) = (h.u.map RingValue.value).getD r.heldU := by
    cases h.u <;> rfl
  have i : (match h.i with | some v => v.value | none => r.heldI) = (h.i.map RingValue.value).getD r.heldI := by
    cases h.i <;> rfl
  have before : (if lead m l h.count - 1 = 0 then [] else if lead m l h.count - 1 ≤ 4 then
        fillPairs m r l (lead m l h.count - 1) else [Delivery.gap r.index (lead m l h.count - 1)]) =
      if 4 < lead m l h.count - 1 then [.gap r.index (lead m l h.count - 1)]
      else (List.range (lead m l h.count - 1)).map fun k => .pair
        { index := r.index + k, count := (l + 1 + k) % m, u := r.heldU, i := r.heldI, substU := true, substI := true } := by
    rw [← fillPairs_eq]
    split_ifs with none short long
    · omega
    · rw [none]; rfl
    · omega
    · rfl
    · rfl
    · omega
  unfold depart
  dsimp only
  rw [before, index]
  simp only [Ring.afterDepartures, Ring.departureOf, hl, Option.getD_some, List.foldl_cons, List.foldl_nil]
  rw [← u, ← i]
  rfl

/-- One departure after the other: what the ring's entries are on the way does not matter. -/
theorem afterDepartures_cons (m : Nat) (r : Ring) (h : RingEntry) (d es rest : List RingEntry) :
    r.afterDepartures m (h :: d) rest = (r.afterDepartures m [h] es).afterDepartures m d rest := rfl

theorem departures_cons (m : Nat) (r : Ring) (h : RingEntry) (d es : List RingEntry) :
    r.departures m (h :: d) = r.departureOf m h ++ (r.afterDepartures m [h] es).departures m d := by
  cases d <;> rfl

/-- The complete entries at the head depart, in order, and the first incomplete one stays (R39). -/
theorem departComplete_eq (hl : r.last = some l) (hm : l < m) (form : InLead m l es) : departComplete m r es =
    (r.afterDepartures m (es.takeWhile RingEntry.complete) (es.dropWhile RingEntry.complete),
      r.departures m (es.takeWhile RingEntry.complete)) := by
  induction es generalizing r l with
  | nil => rfl
  | cons h es ih =>
    unfold departComplete
    by_cases hc : h.complete = true
    · have behind := ih (r := r.afterDepartures m [h] es) rfl (form.holds h (by simp)).1 (form.tail hm)
      simp only [hl, hc, List.takeWhile_cons, List.dropWhile_cons, if_true]
      rw [depart_eq hl (form.ahead h (by simp)), behind, departures_cons m r h _ es]
      rfl
    · have hc : h.complete = false := by simpa using hc
      simp only [hl, hc, List.takeWhile_cons, List.dropWhile_cons, Bool.false_eq_true, if_false]
      rw [← hl]
      rfl

/-- What is left after departures keeps the form, once its head is incomplete (R35, R39). -/
theorem wf_afterDepartures {d : List RingEntry} (hl : r.last = some l) (hm : l < m) (form : InLead m l (d ++ rest))
    (len : rest.length ≤ Config.ringPlaces) (head : ∀ e ∈ rest.head?, e.complete = false) :
    (r.afterDepartures m d rest).wf m := by
  induction d generalizing r l with
  | nil => exact (wf_iff_of_last (r := r.afterDepartures m [] rest) hl).2 ⟨len, hm, form, head⟩
  | cons h d ih =>
    rw [afterDepartures_cons m r h d []]
    exact ih rfl (form.holds h (by simp)).1 (form.tail hm)

/-- A departure moves the index by the lead of its count (R44). -/
theorem span_departureOf (hl : r.last = some l) (ha : isAhead m l h.count = true) :
    ((r.departureOf m h).map Delivery.span).sum = lead m l h.count := by
  have moves : 1 ≤ lead m l h.count := (isAhead_iff.1 ha).1
  have fills (g : Nat) : (List.map (fun _ => 1) (List.range g)).sum = g := by simp
  have lead_def : (h.count + m - l % m) % m = lead m l h.count := rfl
  simp only [Ring.departureOf, hl, Option.getD_some, lead_def, List.map_append, List.sum_append, List.map_cons, List.map_nil,
    List.sum_cons, List.sum_nil, Delivery.span]
  split
  · simp only [List.map_cons, List.map_nil, List.sum_cons, List.sum_nil, Delivery.span]
    omega
  · simp only [List.map_map, Function.comp_def, Delivery.span, fills]
    omega

/-- The index moves by what the deliveries cover (R44). -/
theorem index_afterDepartures {d : List RingEntry} (hl : r.last = some l) (hm : l < m) (form : InLead m l (d ++ rest)) :
    (r.afterDepartures m d rest).index = r.index + ((r.departures m d).map Delivery.span).sum := by
  induction d generalizing r l with
  | nil => rfl
  | cons h d ih =>
    have moved : (r.afterDepartures m [h] []).index = r.index + lead m l h.count := by
      simp only [Ring.afterDepartures, List.foldl_cons, List.foldl_nil, hl, Option.getD_some]
      rfl
    rw [afterDepartures_cons m r h d [], ih (r := r.afterDepartures m [h] []) rfl (form.holds h (by simp)).1 (form.tail hm),
      departures_cons m r h d [], List.map_append, List.sum_append, span_departureOf hl (form.ahead h (by simp)), moved]
    omega

/-- The entry that stays at the head is incomplete. -/
theorem head_dropWhile_complete (es : List RingEntry) : ∀ e ∈ (es.dropWhile RingEntry.complete).head?, e.complete = false :=
  fun e he => by
    have := List.head?_dropWhile_not RingEntry.complete es
    rw [he] at this
    simpa using this

/-- What a full ring holds once its head `h` has departed, with the complete entries behind it (R38). -/
def Ring.forced (m : Nat) (r : Ring) (h : RingEntry) (es : List RingEntry) : Ring :=
  r.afterDepartures m (h :: es.takeWhile RingEntry.complete) (es.dropWhile RingEntry.complete)

/-- The head of a full ring departs incomplete, and every complete entry behind it follows (R38). -/
theorem forceDeparture_eq (hl : r.last = some l) (hm : l < m) (he : r.entries = h :: es) (form : InLead m l (h :: es)) :
    forceDeparture m r l = (r.forced m h es, r.departures m (h :: es.takeWhile RingEntry.complete)) := by
  have behind := departComplete_eq (r := r.afterDepartures m [h] es) rfl (form.holds h (by simp)).1 (form.tail hm)
  unfold forceDeparture
  rw [he]
  dsimp only
  rw [depart_eq hl (form.ahead h (by simp)), behind, departures_cons m r h _ es]
  rfl

/-! ### A value record is filed (R36 to R38) -/

/-- What filing answers keeps the ring's form, and its index moves by what is delivered (R44). -/
def Filed.Keeps (m : Nat) (r : Ring) (f : Filed) : Prop :=
  f.ring.wf m ∧ f.ring.index = r.index + (f.out.map Delivery.span).sum

/-- The last count delivered against which a count is filed (R36). -/
def Ring.lastFor (m : Nat) (r : Ring) (c : Nat) : Nat := r.last.getD ((c + m - 1) % m)

/-- The ring once the last count delivered is taken (R36). -/
def Ring.opened (m : Nat) (r : Ring) (c : Nat) : Ring := { r with last := some (r.lastFor m c) }

theorem opened_of_last (hl : r.last = some l) (m c : Nat) : r.opened m c = r := by
  simp only [Ring.opened, Ring.lastFor, hl, Option.getD_some]
  rw [← hl]

theorem opened_of_entries (hr : r.wf m) (he : e ∈ r.entries) (c : Nat) : r.opened m c = r := by
  cases hl : r.last with
  | none => simp [entries_nil_of_last_none hr hl] at he
  | some l => exact opened_of_last hl m c

theorem opened_wf (hm : 1 < m) (hr : r.wf m) (c : Nat) : (r.opened m c).wf m := by
  cases hl : r.last with
  | none =>
    refine (wf_iff_of_last rfl).2 ?_
    simp only [Ring.opened, Ring.lastFor, hl, Option.getD_none, entries_nil_of_last_none hr hl]
    exact ⟨Nat.zero_le _, Nat.mod_lt _ (by omega), ⟨by simp, by simp, .nil⟩, by simp⟩
  | some l => rwa [opened_of_last hl]

/-- The first value after a clearing is never late (R36). -/
theorem opened_of_late (hm : 1 < m) (hc : c < m) (late : isAhead m (r.lastFor m c) c = false) : r.opened m c = r := by
  cases hl : r.last with
  | none =>
    have first : isAhead m (r.lastFor m c) c = true := by
      rw [isAhead_iff, Ring.lastFor, hl, Option.getD_none, lead_before hm hc]
      omega
    rw [late] at first
    cases first
  | some l => exact opened_of_last hl m c

theorem lastFor_lt (hm : 1 < m) (hr : r.wf m) (c : Nat) : r.lastFor m c < m :=
  ((wf_iff_of_last (r := r.opened m c) rfl).1 (opened_wf hm hr c)).2.1

/-! Steps 3 to 6 of R37 -/

theorem fileValue_late (h : isAhead m l c = false) (r : Ring) (role : Role) (v : RingValue) :
    fileValue m r l role c v = some { ring := r, out := [], report := .late } := by simp [fileValue, h]

/-- The entry of a count is the one that is found for it (R34). -/
theorem InLead.find_count (form : InLead m l es) (he : e ∈ es) : (es.find? fun y => y.count == e.count) = some e := by
  have found : (es.find? fun y => y.count == e.count).isSome = true := List.find?_isSome.2 ⟨e, he, beq_self_eq_true _⟩
  obtain ⟨y, hy⟩ := Option.isSome_iff_exists.1 found
  rw [hy, form.eq_of_count (List.mem_of_find?_eq_some hy) he (by simpa using List.find?_some hy)]

theorem fileValue_duplicate (form : InLead m l r.entries) (he : e ∈ r.entries) (held : e.holds role = true) (v : RingValue) :
    fileValue m r l role e.count v = some { ring := r, out := [], report := .duplicate } := by
  simp [fileValue, form.ahead e he, form.find_count he, held]

theorem fileValue_placed (form : InLead m l r.entries) (he : e ∈ r.entries) (free : e.holds role = false) (v : RingValue) :
    fileValue m r l role e.count v =
      some { ring := (departComplete m r (placeValue e.count role v r.entries)).1
             out := (departComplete m r (placeValue e.count role v r.entries)).2, report := .none } := by
  simp [fileValue, form.ahead e he, form.find_count he, free]

theorem fileValue_inserted (ha : isAhead m l c = true) (new : ∀ e ∈ r.entries, e.count ≠ c)
    (room : r.entries.length < Config.ringPlaces) (role : Role) (v : RingValue) :
    fileValue m r l role c v = some
      { ring := { r with entries := insertEntry m l (RingEntry.place { count := c, u := none, i := none } role v) r.entries }
        out := [], report := .none } := by
  have absent : (r.entries.find? fun e => e.count == c) = none := List.find?_eq_none.2 fun e he => by simpa using new e he
  simp [fileValue, ha, absent, room]

theorem fileValue_full (ha : isAhead m l c = true) (new : ∀ e ∈ r.entries, e.count ≠ c)
    (full : ¬ r.entries.length < Config.ringPlaces) (role : Role) (v : RingValue) : fileValue m r l role c v = none := by
  have absent : (r.entries.find? fun e => e.count == c) = none := List.find?_eq_none.2 fun e he => by simpa using new e he
  simp [fileValue, ha, absent, full]

/-- The branches of R37 for a count against a ring in form: late, held already, placed, new with room, or new in a full
ring. -/
theorem filing_cases (m : Nat) (r : Ring) (l c : Nat) (role : Role) :
    isAhead m l c = false ∨ (∃ e ∈ r.entries, e.count = c ∧ e.holds role = true)
      ∨ (∃ e ∈ r.entries, e.count = c ∧ e.holds role = false)
      ∨ isAhead m l c = true ∧ (∀ e ∈ r.entries, e.count ≠ c) := by
  cases ha : isAhead m l c with
  | false => exact .inl rfl
  | true =>
    by_cases he : ∃ e ∈ r.entries, e.count = c
    · obtain ⟨e, he, hc⟩ := he
      cases hh : e.holds role
      exacts [.inr (.inr (.inl ⟨e, he, hc, hh⟩)), .inr (.inl ⟨e, he, hc, hh⟩)]
    · exact .inr (.inr (.inr ⟨rfl, by simpa using he⟩))

/-- A ring with room files every value (R38). -/
theorem fileValue_room (hr : r.wf m) (hl : r.last = some l) (room : r.entries.length < Config.ringPlaces) (role : Role)
    (c : Nat) (v : RingValue) : ∃ f, fileValue m r l role c v = some f := by
  obtain ⟨-, -, form, -⟩ := (wf_iff_of_last hl).1 hr
  rcases filing_cases m r l c role with late | ⟨e, he, rfl, held⟩ | ⟨e, he, rfl, free⟩ | ⟨ahead, new⟩
  · exact ⟨_, fileValue_late late r role v⟩
  · exact ⟨_, fileValue_duplicate form he held v⟩
  · exact ⟨_, fileValue_placed form he free v⟩
  · exact ⟨_, fileValue_inserted ahead new room role v⟩

theorem keeps_same (hr : r.wf m) (report : RingReport) : Filed.Keeps m r { ring := r, out := [], report := report } :=
  ⟨hr, rfl⟩

/-- A value that is filed without a forced departure keeps the ring's form (R34, R35, R37, R39). -/
theorem fileValue_keeps {f : Filed} (hr : r.wf m) (hl : r.last = some l) (hc : c < m)
    (h : fileValue m r l role c v = some f) : f.Keeps m r := by
  obtain ⟨len, hm, form, head⟩ := (wf_iff_of_last hl).1 hr
  rcases filing_cases m r l c role with late | ⟨e, he, rfl, held⟩ | ⟨e, he, rfl, free⟩ | ⟨ahead, new⟩
  · rw [fileValue_late late] at h
    cases h
    exact keeps_same hr _
  · rw [fileValue_duplicate form he held] at h
    cases h
    exact keeps_same hr _
  · have placed := form.place e.count role v
    have parts := List.takeWhile_append_dropWhile (p := RingEntry.complete) (l := placeValue e.count role v r.entries)
    have fewer : ((placeValue e.count role v r.entries).dropWhile RingEntry.complete).length ≤ Config.ringPlaces :=
      ((List.dropWhile_sublist _).length_le.trans (List.length_map _).le).trans len
    rw [fileValue_placed form he free, departComplete_eq hl hm placed] at h
    cases h
    rw [← parts] at placed
    exact ⟨wf_afterDepartures hl hm placed fewer (head_dropWhile_complete _), index_afterDepartures hl hm placed⟩
  · by_cases room : r.entries.length < Config.ringPlaces
    · rw [fileValue_inserted ahead new room] at h
      cases h
      refine ⟨Iff.mpr (wf_iff_of_last hl) ⟨?_, hm, ?_, fun a ha => ?_⟩, rfl⟩
      · exact (insertEntry_perm _ _ _ _).length_eq.trans_le room
      · have count := RingEntry.place_count { count := c, u := none, i := none } role v
        exact form.insert hm (by rwa [count]) (place_holds _ _ _) (by rwa [count]) (by rwa [count])
      · rcases head_insertEntry ha with rfl | ha
        exacts [place_new_incomplete c role v, head a ha]
    · rw [fileValue_full ahead new room] at h
      cases h

/-! The whole record -/

/-- A record that finds its place without a forced departure (R37). -/
theorem file_filed {w : Int} {f : Filed} (hx : x.value = some w) (h : fileValue m (r.opened m x.count)
    (r.lastFor m x.count) x.role x.count { value := w, slot := x.slot } = some f) : r.file m x = f := by
  unfold Ring.file
  cases hl : r.last with
  | none =>
    simp only [Ring.opened, Ring.lastFor, hl, Option.getD_none] at h
    simp only [hx, h]
  | some l =>
    simp only [Ring.opened, Ring.lastFor, hl, Option.getD_some] at h
    simp only [hx, h]

theorem last_afterDepartures (m : Nat) (r : Ring) (h : RingEntry) (d rest : List RingEntry) :
    ∃ k, (r.afterDepartures m (h :: d) rest).last = some k := by
  induction d generalizing r h with
  | nil => exact ⟨h.count, rfl⟩
  | cons h' d ih =>
    rw [afterDepartures_cons m r h _ []]
    exact ih _ h'

theorem entries_afterDepartures (m : Nat) (r : Ring) (d rest : List RingEntry) : (r.afterDepartures m d rest).entries = rest := by
  induction d generalizing r with
  | nil => rfl
  | cons h d ih =>
    rw [afterDepartures_cons m r h d []]
    exact ih _

theorem last_of_entries (hr : r.wf m) (he : r.entries = h :: es) : ∃ l, r.last = some l :=
  Option.ne_none_iff_exists'.1 fun hl => by simp [entries_nil_of_last_none hr hl] at he

theorem head_parts (h : RingEntry) (es : List RingEntry) :
    h :: es.takeWhile RingEntry.complete ++ es.dropWhile RingEntry.complete = h :: es :=
  congrArg (h :: ·) List.takeWhile_append_dropWhile

theorem length_forced (he : r.entries = h :: es) (len : r.entries.length ≤ Config.ringPlaces) :
    (r.forced m h es).entries.length < Config.ringPlaces := by
  have fewer := (List.dropWhile_sublist (l := es) RingEntry.complete).length_le
  rw [he, List.length_cons] at len
  rw [Ring.forced, entries_afterDepartures]
  omega

theorem forced_keeps (hr : r.wf m) (he : r.entries = h :: es) :
    (r.forced m h es).wf m ∧ (r.forced m h es).index =
      r.index + ((r.departures m (h :: es.takeWhile RingEntry.complete)).map Delivery.span).sum := by
  obtain ⟨l, hl⟩ := last_of_entries hr he
  obtain ⟨len, hm, form, -⟩ := (wf_iff_of_last hl).1 hr
  have room := length_forced (m := m) he len
  rw [Ring.forced, entries_afterDepartures] at room
  rw [he, ← head_parts] at form
  exact ⟨wf_afterDepartures hl hm form room.le (head_dropWhile_complete es), index_afterDepartures hl hm form⟩

/-- A record for a new count in a full ring: the head departs, with the complete entries behind it, and the record is filed
against what is left (R38). -/
theorem file_forced {w : Int} (hr : r.wf m) (hx : x.value = some w) (he : r.entries = h :: es)
    (ahead : isAhead m (r.lastFor m x.count) x.count = true) (new : ∀ e ∈ r.entries, e.count ≠ x.count)
    (full : r.entries.length = Config.ringPlaces) :
    r.file m x = { (r.forced m h es).file m x with
      out := r.departures m (h :: es.takeWhile RingEntry.complete) ++ ((r.forced m h es).file m x).out } := by
  obtain ⟨l, hl⟩ := last_of_entries hr he
  obtain ⟨-, hm, form, -⟩ := (wf_iff_of_last hl).1 hr
  rw [he] at form
  obtain ⟨k, hk⟩ : ∃ k, (r.forced m h es).last = some k := last_afterDepartures m r h _ _
  obtain ⟨f, hf⟩ := fileValue_room (forced_keeps hr he).1 hk (length_forced he full.le) x.role x.count
    { value := w, slot := x.slot }
  have again : (r.forced m h es).file m x = f :=
    file_filed hx (by rw [opened_of_last hk, Ring.lastFor, hk]; exact hf)
  have last : r.lastFor m x.count = l := by rw [Ring.lastFor, hl]; rfl
  have opened : ({ r with last := some l } : Ring) = r := by rw [← hl]
  have unfiled := fileValue_full (r := r) (last ▸ ahead) new (by omega) x.role { value := w, slot := x.slot }
  rw [again]
  unfold Ring.file
  simp only [hx, hl, opened, unfiled, forceDeparture_eq hl hm he form, hk, hf]

/-- Only a new count ahead of the last one delivered, in a full ring, finds no place at once (R37, R38). -/
theorem forces_of_unfiled (hr : r.wf m) (hl : r.last = some l) (h : fileValue m r l role c v = none) :
    isAhead m l c = true ∧ (∀ e ∈ r.entries, e.count ≠ c) ∧ r.entries.length = Config.ringPlaces := by
  obtain ⟨len, -, form, -⟩ := (wf_iff_of_last hl).1 hr
  rcases filing_cases m r l c role with late | ⟨e, he, rfl, held⟩ | ⟨e, he, rfl, free⟩ | ⟨ahead, new⟩
  · simp [fileValue_late late] at h
  · simp [fileValue_duplicate form he held] at h
  · simp [fileValue_placed form he free] at h
  · refine ⟨ahead, new, len.antisymm (not_lt.1 fun room => ?_)⟩
    simp [fileValue_inserted ahead new room] at h

/-- A record that finds its place at once keeps the ring's form (R37). -/
theorem file_keeps_of_filed {w : Int} {f : Filed} (hm : 1 < m) (hr : r.wf m) (hc : x.count < m) (hx : x.value = some w)
    (h : fileValue m (r.opened m x.count) (r.lastFor m x.count) x.role x.count { value := w, slot := x.slot } = some f) :
    (r.file m x).Keeps m r := by
  rw [file_filed hx h]
  exact (fileValue_keeps (opened_wf hm hr x.count) rfl hc h : f.Keeps m (r.opened m x.count))

/-- Filing a record keeps the ring's form, and the index moves by what is delivered (R34 to R44). -/
theorem file_keeps (hm : 1 < m) (hr : r.wf m) (hc : x.count < m) : (r.file m x).Keeps m r := by
  cases hx : x.value with
  | none =>
    rw [Ring.file_absent m r x hx]
    exact keeps_same hr _
  | some w =>
    cases hf : fileValue m (r.opened m x.count) (r.lastFor m x.count) x.role x.count { value := w, slot := x.slot } with
    | some f => exact file_keeps_of_filed hm hr hc hx hf
    | none =>
      obtain ⟨ahead, new, full⟩ := forces_of_unfiled (opened_wf hm hr x.count) rfl hf
      obtain ⟨h, es, he⟩ : ∃ h es, r.entries = h :: es := List.exists_cons_of_length_pos (full ▸ by decide)
      obtain ⟨left, index⟩ := forced_keeps hr he
      obtain ⟨f, hf⟩ := fileValue_room (opened_wf hm left x.count) rfl (length_forced he full.le) x.role x.count
        { value := w, slot := x.slot }
      obtain ⟨wf, moved⟩ := file_keeps_of_filed hm left hc hx hf
      rw [file_forced hr hx he ahead new full]
      refine ⟨wf, ?_⟩
      rw [List.map_append, List.sum_append, ← Nat.add_assoc, ← index]
      exact moved

/-! The branches of a record, one by one -/

theorem file_late {w : Int} (hm : 1 < m) (hc : x.count < m) (hx : x.value = some w)
    (late : isAhead m (r.lastFor m x.count) x.count = false) : r.file m x = { ring := r, out := [], report := .late } := by
  rw [file_filed hx (fileValue_late late _ _ _), opened_of_late hm hc late]

/-- A record whose count has an entry is filed against a ring that has delivered before. -/
theorem exists_form_of_entry (hr : r.wf m) (he : e ∈ r.entries) (c : Nat) :
    r.opened m c = r ∧ r.last = some (r.lastFor m c) ∧ r.lastFor m c < m ∧ InLead m (r.lastFor m c) r.entries := by
  have opened := opened_of_entries hr he c
  have last : r.last = some (r.lastFor m c) := by
    conv_lhs => rw [← opened]
    rfl
  obtain ⟨-, hm, form, -⟩ := (wf_iff_of_last last).1 hr
  exact ⟨opened, last, hm, form⟩

theorem file_duplicate {w : Int} (hr : r.wf m) (hx : x.value = some w) (he : e ∈ r.entries) (hc : e.count = x.count)
    (held : e.holds x.role = true) : r.file m x = { ring := r, out := [], report := .duplicate } := by
  obtain ⟨opened, -, -, form⟩ := exists_form_of_entry hr he x.count
  refine file_filed hx ?_
  rw [opened, ← hc] at *
  exact fileValue_duplicate form he held _

/-- A value that its entry lacks is placed, and the complete entries at the head depart (R37 step 5, R39). -/
theorem file_placed {w : Int} (hr : r.wf m) (hx : x.value = some w) (he : e ∈ r.entries) (hc : e.count = x.count)
    (free : e.holds x.role = false) :
    let placed := placeValue x.count x.role { value := w, slot := x.slot } r.entries
    r.file m x = { ring := r.afterDepartures m (placed.takeWhile RingEntry.complete) (placed.dropWhile RingEntry.complete)
                   out := r.departures m (placed.takeWhile RingEntry.complete), report := .none } := by
  intro placed
  obtain ⟨opened, last, hm, form⟩ := exists_form_of_entry hr he x.count
  have filed := fileValue_placed form he free { value := w, slot := x.slot }
  rw [hc, departComplete_eq last hm (form.place x.count x.role _)] at filed
  exact file_filed hx (by rw [opened]; exact filed)

theorem file_inserted {w : Int} (hx : x.value = some w) (ahead : isAhead m (r.lastFor m x.count) x.count = true)
    (new : ∀ e ∈ r.entries, e.count ≠ x.count) (room : r.entries.length < Config.ringPlaces) :
    r.file m x =
      { ring := { r.opened m x.count with
          entries := insertEntry m (r.lastFor m x.count)
            (RingEntry.place { count := x.count, u := none, i := none } x.role { value := w, slot := x.slot }) r.entries }
        out := [], report := .none } :=
  file_filed hx (fileValue_inserted (r := r.opened m x.count) ahead new room x.role _)

theorem complete_of_mem_takeWhile (he : e ∈ es.takeWhile RingEntry.complete) : e.u.isSome = true ∧ e.i.isSome = true := by
  simpa [RingEntry.complete] using List.mem_takeWhile_imp he

/-- Settles O15, branch by branch of R37 and R38. -/
theorem ringFilesAndDelivers : Obligations.RingFilesAndDelivers := by
  intro q r x hr hc m f last ahead holds r₁ heads
  have hm : 1 < m := q.modulus_gt_one
  have last_mod : last % m = last := Nat.mod_eq_of_lt (lastFor_lt hm hr x.count)
  have lead_ahead : lead m last x.count = ahead := by simp only [lead, last_mod, ahead]
  have is_ahead : isAhead m last x.count = true ↔ 1 ≤ ahead ∧ ahead ≤ m / 2 := by rw [isAhead_iff, lead_ahead]
  have holds_eq (e : RingEntry) : holds e = e.holds x.role := by simp only [holds]; cases x.role <;> rfl
  have stays (es : List RingEntry) : ∀ e ∈ (es.dropWhile RingEntry.complete).head?, e.u = none ∨ e.i = none :=
    fun e he => complete_eq_false_iff.1 (head_dropWhile_complete es e he)
  obtain ⟨wf, index⟩ := file_keeps hm hr hc
  refine ⟨wf, index, Ring.file_absent m r x, fun v hv => ?_⟩
  intro w placed
  have placed_eq (e : RingEntry) : placed e = e.place x.role w := by simp only [placed]; cases x.role <;> rfl
  refine ⟨fun late => ?_, fun e he hcount held => ?_, fun e he hcount free => ?_, fun low high new => ⟨fun room => ?_,
    fun full => ?_⟩⟩
  · refine file_late hm hc hv (Bool.eq_false_iff.2 fun h => ?_)
    have := is_ahead.1 h
    omega
  · exact file_duplicate hr hv he hcount (holds_eq e ▸ held)
  · have filed := file_placed hr hv he hcount (holds_eq e ▸ free)
    refine ⟨_, _, ⟨?_, stays (placeValue x.count x.role w r.entries)⟩, fun y hy => complete_of_mem_takeWhile hy, filed⟩
    rw [List.takeWhile_append_dropWhile]
    simp only [placed_eq]
    rfl
  · have filed := file_inserted hv (is_ahead.2 ⟨low, high⟩) new room
    refine ⟨congrArg Filed.out filed, congrArg Filed.report filed, ?_, fun e => ?_⟩
    · exact (congrArg Filed.ring filed).trans (by simp only [f, filed]; rfl)
    · simp only [f, filed, mem_insertEntry, placed_eq]
      exact or_comm
  · obtain ⟨h, es, he⟩ : ∃ h es, r.entries = h :: es := List.exists_cons_of_length_pos (by omega)
    refine ⟨h, es.takeWhile RingEntry.complete, es.dropWhile RingEntry.complete, ⟨he.trans (head_parts h es).symm, stays es⟩,
      fun y hy => complete_of_mem_takeWhile hy, file_forced hr hv he (is_ahead.2 ⟨low, high⟩) new full⟩

end Sys2Proof.Machine

/-! ### The window engine takes what its ring delivers (R41, R46, R51, R54, R56 to R60, R65) -/

namespace Sys2Proof.Machine

variable {s : State} {n : SecId} {p : Pair} {w : Window}

theorem windowLength_eq (x : SectionSettings) (quick : Nat) : windowLength x quick =
    if 0 < quick ∨ x.windowCycles < 16 then 8 else if x.windowCycles < 32 then 16 else 32 := by
  simp [windowLength]

theorem atRest_iff {k : Coil} : k.atRest = true ↔
    ∃ r, k.reported = some r ∧ r.motion = .still ∧ k.move = none ∧ k.pendMove = none := by
  unfold Coil.atRest Coil.still
  cases k.reported <;> simp [and_assoc]

/-- Every counted coil rests (R57 condition 1). -/
def CountedRest (n : SecId) (s : State) : Prop :=
  ∀ c ∈ s.drives n, ∃ r, (s.coil c).reported = some r ∧ r.motion = .still ∧ (s.coil c).move = none
    ∧ (s.coil c).pendMove = none

/-- The injecting drive reports the code (R57 condition 2). -/
def CodeInjected (n : SecId) (s : State) : Prop :=
  ∃ c r, s.injector n = some c ∧ (s.coil c).reported = some r ∧ r.injection = some (s.sec n).settings.injectionCode

theorem mayStart_iff : mayStart n s = true ↔ CountedRest n s ∧ CodeInjected n s := by
  unfold mayStart
  rw [Bool.and_eq_true, List.all_eq_true]
  refine and_congr (forall₂_congr fun c _ => atRest_iff) ?_
  cases hi : s.injector n with
  | none => simp [CodeInjected, hi]
  | some c => cases hr : (s.coil c).reported <;> simp [CodeInjected, hi, hr]

/-- The products and the marks of a pair that a window takes (R59). -/
theorem take_eq (w : Window) (p : Pair) : w.take p =
    { w with
      taken := w.taken + 1
      auRe := w.auRe + p.u * cosRef (w.j * w.taken % 640)
      auIm := w.auIm - p.u * cosRef ((w.j * w.taken % 640 + 480) % 640)
      aiRe := w.aiRe + p.i * cosRef (w.j * w.taken % 640)
      aiIm := w.aiIm - p.i * cosRef ((w.j * w.taken % 640 + 480) % 640)
      subst := w.subst + if p.substU = true ∨ p.substI = true then 1 else 0 } := by
  unfold Window.take sinRef
  cases p.substU <;> cases p.substI <;> rfl

/-- The first pair meets the cosine table at its entries 0 and 480 (R57, R59). -/
theorem startWindow_eq (n : SecId) (len : Nat) (p : Pair) (s : State) : startWindow n len p s =
    { start := p.index, w := len, j := (s.sec n).settings.injectionCode, taken := 1, auRe := p.u * 32767, auIm := 0
      aiRe := p.i * 32767, aiIm := 0, subst := if p.substU = true ∨ p.substI = true then 1 else 0
      pos1 := countedPosition n .c1 s, pos2 := countedPosition n .c2 s } := by
  have cos0 : cosRef 0 = 32767 := by decide
  have cos480 : cosRef 480 = 0 := by decide
  simp [startWindow, take_eq, cos0, cos480]

theorem countedPosition_eq (n : SecId) (c : CoilId) (s : State) : countedPosition n c s =
    if c ∈ s.drives n then (s.coil c).reported.map Reported.pos else none := by
  simp [countedPosition]

/-! The engine's answer, state by state -/

theorem engineTakes_off (h : (s.sec n).engine.state = .off) : engineTakes n p s = s := by
  simp only [engineTakes, h]

theorem engineTakes_first (h : (s.sec n).engine.state = .wait) (hf : (s.sec n).engine.firstPair = false) :
    engineTakes n p s = s.setEngine n { (s.sec n).engine with firstPair := true } := by
  simp [engineTakes, h, hf]

/-- In WAIT with a first pair the engine acts on a boundary only, and only where a window may start (R57, R58). -/
theorem engineTakes_wait (h : (s.sec n).engine.state = .wait) (hf : (s.sec n).engine.firstPair = true) :
    engineTakes n p s =
      if p.index % (80 * windowLength (s.sec n).settings (s.sec n).engine.quick) = 0 ∧ mayStart n s = true then
        if (s.sec n).engine.settle = 0 then
          s.setEngine n { (s.sec n).engine with
            state := .run (startWindow n (windowLength (s.sec n).settings (s.sec n).engine.quick) p s) }
        else s.setEngine n { (s.sec n).engine with settle := (s.sec n).engine.settle - 1 }
      else s := by
  simp only [engineTakes, h, hf, Bool.not_true, Bool.false_eq_true, if_false]

theorem engineTakes_run (h : (s.sec n).engine.state = .run w) : engineTakes n p s =
    if (w.take p).taken = 80 * (w.take p).w then completeWindow n (w.take p) s
    else s.setEngine n { (s.sec n).engine with state := .run (w.take p) } := by
  simp only [engineTakes, h, Window.complete, beq_iff_eq]

/-! Deliveries -/

theorem deliver_single (n : SecId) (d : Delivery) (s : State) : deliver n [d] s = handOver n d s := by
  unfold deliver
  dsimp only
  split <;> rfl

/-- The deliveries follow in order until one has cleared the ring (R46). -/
theorem deliver_cons (n : SecId) (d : Delivery) (ds : List Delivery) (s : State) : deliver n (d :: ds) s =
    if ((deliver n [d] s).sec n).ring.last = none then deliver n [d] s else deliver n ds (deliver n [d] s) := by
  rw [deliver_single]
  rfl

/-- A gap notice discards the window in flight, and an engine without one takes no notice of it (R65). -/
theorem engine_deliver_gap (n : SecId) (first count : Nat) (s : State) :
    ((deliver n [.gap first count] s).sec n).engine = (s.sec n).engine.discard .gap := by
  rw [deliver_single]
  show (((engineTakesGap n s).modSec n fun x => { x with sup := x.sup.takeGap first count }).sec n).engine = _
  rw [State.sec_modSec, engineTakesGap, discardWindow, State.sec_modSec]

/-- Settles O16, state by state of the engine. -/
theorem windowEngineTakesPairs : Obligations.WindowEngineTakesPairs := by
  intro n p s x g t len boundary atRest injected counted started
  have length : windowLength x.settings g.quick = len := windowLength_eq _ _
  have starts : p.index % (80 * windowLength x.settings g.quick) = 0 ∧ mayStart n s = true ↔ boundary ∧ atRest ∧ injected := by
    rw [length, mayStart_iff]
    rfl
  have window : startWindow n (windowLength x.settings g.quick) p s = started := by
    rw [length, startWindow_eq, countedPosition_eq, countedPosition_eq]
  refine ⟨engineTakes_off, engineTakes_first, fun hw hf => ⟨fun no => ?_, fun b r i hs => ?_, fun b r i hs => ?_⟩,
    fun w hw => ?_, fun first count => ?_, deliver_single n (.pair p) s, fun q ds => deliver_cons n q ds s⟩
  · exact (engineTakes_wait hw hf).trans (if_neg (starts.not.2 no))
  · exact ((engineTakes_wait hw hf).trans (if_pos (starts.2 ⟨b, r, i⟩))).trans (if_neg hs.ne')
  · rw [← window]
    exact ((engineTakes_wait hw hf).trans (if_pos (starts.2 ⟨b, r, i⟩))).trans (if_pos hs)
  · have runs := engineTakes_run (p := p) hw
    rw [take_eq] at runs
    exact ⟨fun more => runs.trans (if_neg more), fun last => runs.trans (if_pos last)⟩
  · rw [engine_deliver_gap]
    cases hg : g.state with
    | off => exact discard_idle (by rw [Engine.window, hg]) _
    | wait => exact discard_idle (by rw [Engine.window, hg]) _
    | run w => exact discard_run hg _

end Sys2Proof.Machine

/-! ### What a request, a command and a step can do

Once for every invariant: what serving a request makes of the state, what a command makes of a part in action before the step
ends, and what a step answers. An invariant is then one case per effect. -/

namespace Sys2Proof.Machine

variable {s t : State}

/-- What serving a request makes of the state, with the checks it has passed (11.3). -/
inductive RequestActs (s : State) : State → Prop
  | nothing : RequestActs s s
  | slotWritten (i : Fin 24) (d : Option SlotDef) (fits : FitsTable i d s)
      (free : (tiedToEnabled (s.slot i).defn s || tiedToEnabled d s) = false) : RequestActs s (writeSlot i d s)
  | masksWritten (x y : Word32) : RequestActs s { s with maskA := x, maskB := y }
  | slotEnabled (i : Fin 24) : RequestActs s (enableSlot i s)
  | tableWritten (c : CoilId) (b : List Byte) (count : within 2 32 (word b 1) = true)
      (good : badPoint 0 none (tablePoints b (word b 1)) = none) (off : (s.sec c.sec).state = .disabled) :
      RequestActs s (writeTable c (tablePoints b (word b 1)) s)
  | sectionSet (n : SecId) (x : SectionSettings) (good : firstFailing x.checks = none)
      (free : (s.sec n).state = .disabled ∨ (s.sec n).settings.withLive x = x) :
      RequestActs s (s.modSec n fun z => { z with settings := x })
  | coilSet (c : CoilId) (x : CoilSettings) (good : firstFailing x.checks = none)
      (free : (s.sec c.sec).state = .disabled ∨ (s.coil c).settings = x) :
      RequestActs s (s.modCoil c fun k => { k with settings := x })
  | globalsSet (b : List Byte) (good : firstFailing (globalChecks b) = none)
      (off : s.sec1.state = .disabled ∧ s.sec2.state = .disabled) :
      RequestActs s (writeLive (globalsOf b)
        { writeNominal (globalsOf b).nominal s with couplerTimeout := (globalsOf b).couplerTimeout })
  | liveSet (b : List Byte) (good : firstFailing (globalChecks b) = none) : RequestActs s (writeLive (globalsOf b) s)
  | stateRead : RequestActs s { s with sec1 := s.sec1.worstRead, sec2 := s.sec2.worstRead }
  | eventsRead : RequestActs s { s with events := s.events.moveUp s.ms }
  | summaryRead : RequestActs s { s with events := { s.events with summary := [] } }
  | portRead (p : Port) : RequestActs s (s.modPort p PortState.cleared)
  | slotRead (i : Fin 24) : RequestActs s (s.modSlot i Slot.cleared)
  | sectionStarted (n : SecId)
      (allowed : mayEnable n s = true ∨ (s.sec n).state = .halted ∧ s.coilsSound n = true) : RequestActs s (enterStarting n s)
  | sectionDisabled (n : SecId) : RequestActs s (disableSection n s)
  | frozen (z : Bool) (n : SecId) : RequestActs s (setFrozen z n s)
  | coilReleased (c : CoilId) (failed : (s.coil c).failed = true) : RequestActs s (s.modCoil c Coil.released)
  | coilMoved (c : CoilId) (p : Nat) (inRange : inTableRange (s.coil c).table p = true)
      (allowed : (s.sec (s.driver c)).state = .disabled ∧ (s.coil c).takesRequests = true) :
      RequestActs s (manualMove c p s)
  | reset : RequestActs s (resetPart s)

/-! Requests by their fields -/

theorem noFields_acts {f : State → Served} (hf : RequestActs s (f s).state) (b : List Byte) :
    RequestActs s (noFields f b s).state := by
  unfold noFields
  split
  exacts [hf, .nothing]

theorem withSection_acts {f : SecId → State → Served} (hf : ∀ n, RequestActs s (f n s).state) (b : List Byte) :
    RequestActs s (withSection f b s).state := by
  unfold withSection
  split
  · split
    exacts [hf _, .nothing]
  · exact .nothing

theorem withCoil_acts {f : CoilId → State → Served} (hf : ∀ c, RequestActs s (f c s).state) (b : List Byte) :
    RequestActs s (withCoil f b s).state := by
  unfold withCoil
  split
  · split
    exacts [hf _, .nothing]
  · exact .nothing

theorem withSlot_acts {f : Fin 24 → State → Served} (hf : ∀ i, RequestActs s (f i s).state) (b : List Byte) :
    RequestActs s (withSlot f b s).state := by
  unfold withSlot
  split
  · split
    exacts [hf _, .nothing]
  · exact .nothing

/-! Requests that write -/

theorem serveWriteSlot_acts (b : List Byte) : RequestActs s (serveWriteSlot b s).state := by
  unfold serveWriteSlot
  split
  · exact .nothing
  · split
    · exact .nothing
    · split
      · exact .nothing
      · next hd =>
        split
        · exact .nothing
        · next hf => exact .slotWritten _ _ (slotDefOf_eq_ok.1 hd).2 (Bool.eq_false_iff.2 hf)

theorem serveWriteMasks_acts (b : List Byte) : RequestActs s (serveWriteMasks b s).state := by
  unfold serveWriteMasks
  split
  · exact .nothing
  · split
    exacts [.nothing, .masksWritten _ _]

theorem serveEnableSlot_acts (i : Fin 24) : RequestActs s (serveEnableSlot i s).state := by
  unfold serveEnableSlot
  split
  exacts [.slotEnabled i, .nothing]

theorem serveWriteCoilTable_acts (b : List Byte) : RequestActs s (serveWriteCoilTable b s).state := by
  unfold serveWriteCoilTable
  split
  · exact .nothing
  · split
    · exact .nothing
    · split
      · exact .nothing
      · next hc =>
        dsimp only
        split
        · exact .nothing
        · next hg =>
          split
          · next off => exact .tableWritten _ b (by simpa using hc) hg off
          · exact .nothing

theorem serveWriteSectionSettings_acts (b : List Byte) : RequestActs s (serveWriteSectionSettings b s).state := by
  unfold serveWriteSectionSettings
  split
  · exact .nothing
  · split
    · exact .nothing
    · dsimp only
      split
      · exact .nothing
      · next good =>
        split
        · next free => exact .sectionSet _ _ good free
        · exact .nothing

theorem serveWriteCoilSettings_acts (b : List Byte) : RequestActs s (serveWriteCoilSettings b s).state := by
  unfold serveWriteCoilSettings
  split
  · exact .nothing
  · split
    · exact .nothing
    · dsimp only
      split
      · exact .nothing
      · next good =>
        split
        · next free => exact .coilSet _ _ good free
        · exact .nothing

theorem serveWriteGlobal_acts (b : List Byte) : RequestActs s (serveWriteGlobal b s).state := by
  unfold serveWriteGlobal
  split
  · exact .nothing
  · split
    · exact .nothing
    · next good =>
      dsimp only
      split
      · next off => exact .globalsSet b good off
      · split
        exacts [.liveSet b good, .nothing]

/-! Reads that clear, and the commands -/

theorem serveReadCounters_acts (b : List Byte) : RequestActs s (serveReadCounters b s).state := by
  unfold serveReadCounters
  split
  · exact .nothing
  · split
    · split
      exacts [.slotRead _, .nothing]
    · split
      exacts [.portRead _, .nothing]
    · exact .nothing

theorem serveEnableSection_acts (n : SecId) : RequestActs s (serveEnableSection n s).state := by
  unfold serveEnableSection
  split
  · next h => exact .sectionStarted n (.inl h)
  · exact .nothing

theorem serveRestartSection_acts (n : SecId) : RequestActs s (serveRestartSection n s).state := by
  unfold serveRestartSection
  split
  · next h => exact .sectionStarted n (.inr h)
  · exact .nothing

theorem serveReleaseCoil_acts (c : CoilId) : RequestActs s (serveReleaseCoil c s).state := by
  unfold serveReleaseCoil
  split
  · next h => exact .coilReleased c h
  · exact .nothing

theorem serveManualMove_acts (b : List Byte) : RequestActs s (serveManualMove b s).state := by
  unfold serveManualMove
  split
  · exact .nothing
  · split
    · exact .nothing
    · split
      · exact .nothing
      · next inRange =>
        split
        · next allowed => exact .coilMoved _ _ (by simpa using inRange) allowed
        · exact .nothing

/-- Serving a request of any kind (11.3). -/
theorem served_acts (k : Nat) (b : List Byte) : RequestActs s (served k b s).state := by
  unfold served
  split
  case h_1 => exact noFields_acts .nothing b
  case h_2 => exact withSlot_acts (fun _ => .nothing) b
  case h_3 => exact serveWriteSlot_acts b
  case h_4 => exact serveWriteMasks_acts b
  case h_5 => exact withSlot_acts serveEnableSlot_acts b
  case h_6 => exact withCoil_acts (fun _ => .nothing) b
  case h_7 => exact serveWriteCoilTable_acts b
  case h_8 => exact withSection_acts (fun _ => .nothing) b
  case h_9 => exact serveWriteSectionSettings_acts b
  case h_10 => exact withCoil_acts (fun _ => .nothing) b
  case h_11 => exact serveWriteCoilSettings_acts b
  case h_12 => exact serveWriteGlobal_acts b
  case h_13 => exact noFields_acts .stateRead b
  case h_14 => exact noFields_acts .eventsRead b
  case h_15 => exact noFields_acts .summaryRead b
  case h_16 => exact serveReadCounters_acts b
  case h_17 => exact withSection_acts serveEnableSection_acts b
  case h_18 => exact withSection_acts .sectionDisabled b
  case h_19 => exact withSection_acts serveRestartSection_acts b
  case h_20 => exact withSection_acts (.frozen true) b
  case h_21 => exact withSection_acts (.frozen false) b
  case h_22 => exact withCoil_acts serveReleaseCoil_acts b
  case h_23 => exact serveManualMove_acts b
  case h_24 => exact noFields_acts .reset b
  case h_25 => exact .nothing

/-! ### Commands and steps -/

/-- What a command does in a part in action, before the end of the step. -/
inductive CommandActs (s : State) : State → Prop
  | nothing : CommandActs s s
  | received (p : Port) (f : Frame) (lost : Bool) : CommandActs s (receive p f lost s)
  | sent (p : Port) : CommandActs s (s.modPort p PortState.complete)
  | linkLost (p : Port) : CommandActs s (loseLink p s)
  | linkRestored (p : Port) : CommandActs s (s.modPort p fun x => { x with link := .up })
  | heldOff (n : SecId) : CommandActs s (holdOffRunsOut n s)
  | acceptance (c : CoilId) : CommandActs s (acceptanceExpires c s)
  | confirmation (c : CoilId) : CommandActs s (confirmationExpires c s)
  | moveLimit (c : CoilId) : CommandActs s (moveLimitExpires c s)
  | silence (c : CoilId) : CommandActs s (silenceExpires c s)
  | stale : CommandActs s (staleExpires s)
  | reasserted : CommandActs s (alarmReasserts s)
  | answered (r : Request) (x : Served) (acts : RequestActs s x.state) : CommandActs s (answer r x)

/-- What a step answers. -/
inductive StepActs (s : State) : State → Prop
  | nothing : StepActs s s
  | ticked (live : s.live = true) : StepActs s { s with ms := s.ms + 1 }
  | acted {u : State} (live : s.live = true) (acts : CommandActs s u) : StepActs s (conclude u)
  | restarted (straps : BitVec 4) (la lb : Link) : StepActs s { State.initial straps la lb with pending := s.pending }
  | linkReported (p : Port) (l : Link) (still : s.live = false) : StepActs s (s.modPort p fun x => { x with link := l })
  | resetHeld : StepActs s { s with
      held := true, portA := s.portA.hold, portB := s.portB.hold, events := { s.events with alarm := .deasserted } }
  | supplyLost : StepActs s { s with supplyOk := false }

theorem act_acts {f : State → State} (acts : CommandActs s (f s)) : StepActs s (act f s) := by
  cases hl : s.live
  · rw [act_still hl]; exact .nothing
  · rw [act_live hl]; exact .acted hl acts

/-- The responder answers the request at the head, or does nothing (R171, R172; notes/assumptions/3.md). -/
theorem serve_acts (k : Nat) : CommandActs s (serve k (served k) s) := by
  unfold serve
  split
  · exact .nothing
  · split
    · split
      · exact .answered _ _ .nothing
      · exact .answered _ _ (served_acts k _)
    · exact .nothing

theorem serveUnknown_acts : CommandActs s (serveUnknown s) := by
  unfold serveUnknown
  split
  · exact .nothing
  · split
    exacts [.answered _ (unchanged s _) .nothing, .nothing]

/-- What each command answers (spec/opcode_table.json). -/
theorem exec_acts (i : Instr) (s : State) : ∃ t, exec i s = .next t ∧ StepActs s t := by
  have request (k : Nat) : StepActs s (act (serve k (served k)) s) := act_acts (serve_acts k)
  cases i with
  | frameReceptionComplete p f lost => exact ⟨_, rfl, act_acts (.received p f lost)⟩
  | holdOffRunOut n => exact ⟨_, rfl, act_acts (.heldOff n)⟩
  | transmitComplete p => exact ⟨_, rfl, act_acts (.sent p)⟩
  | linkLoss p =>
    refine ⟨_, rfl, ?_⟩
    split
    exacts [act_acts (.linkLost p), .linkReported p .down (Bool.eq_false_iff.2 ‹_›)]
  | linkRestoration p =>
    refine ⟨_, rfl, ?_⟩
    split
    exacts [act_acts (.linkRestored p), .linkReported p .up (Bool.eq_false_iff.2 ‹_›)]
  | powerOn straps la lb => exact ⟨_, rfl, .restarted straps la lb⟩
  | resetHeld =>
    refine ⟨_, rfl, ?_⟩
    split
    exacts [.resetHeld, .nothing]
  | resetRelease straps la lb =>
    refine ⟨_, rfl, ?_⟩
    split
    exacts [.restarted straps la lb, .nothing]
  | acceptTimeoutExpiry c => exact ⟨_, rfl, act_acts (.acceptance c)⟩
  | confirmationTimerExpiry c => exact ⟨_, rfl, act_acts (.confirmation c)⟩
  | moveTimeLimitExpiry c => exact ⟨_, rfl, act_acts (.moveLimit c)⟩
  | silenceExpiry c => exact ⟨_, rfl, act_acts (.silence c)⟩
  | staleTimerExpiry => exact ⟨_, rfl, act_acts .stale⟩
  | alarmReassertion => exact ⟨_, rfl, act_acts .reasserted⟩
  | readInfo => exact ⟨_, rfl, request 1⟩
  | readSlot => exact ⟨_, rfl, request 2⟩
  | writeSlot => exact ⟨_, rfl, request 3⟩
  | writeMasks => exact ⟨_, rfl, request 4⟩
  | enableSlot => exact ⟨_, rfl, request 5⟩
  | readCoilTable => exact ⟨_, rfl, request 6⟩
  | writeCoilTable => exact ⟨_, rfl, request 7⟩
  | readSectionSettings => exact ⟨_, rfl, request 8⟩
  | writeSectionSettings => exact ⟨_, rfl, request 9⟩
  | readCoilSettings => exact ⟨_, rfl, request 10⟩
  | writeCoilSettings => exact ⟨_, rfl, request 11⟩
  | writeGlobal => exact ⟨_, rfl, request 12⟩
  | readState => exact ⟨_, rfl, request 13⟩
  | readEvents => exact ⟨_, rfl, request 14⟩
  | readSummary => exact ⟨_, rfl, request 15⟩
  | readCounters => exact ⟨_, rfl, request 16⟩
  | enableSection => exact ⟨_, rfl, request 17⟩
  | disableSection => exact ⟨_, rfl, request 18⟩
  | restartSection => exact ⟨_, rfl, request 19⟩
  | freeze => exact ⟨_, rfl, request 20⟩
  | unfreeze => exact ⟨_, rfl, request 21⟩
  | releaseCoil => exact ⟨_, rfl, request 22⟩
  | manualMove => exact ⟨_, rfl, request 23⟩
  | resetPart => exact ⟨_, rfl, request 24⟩
  | unknownRequest => exact ⟨_, rfl, act_acts serveUnknown_acts⟩
  | supplyOutOfRange => exact ⟨_, rfl, .supplyLost⟩

/-- A step takes a command from the queue, or none, and does what the command does. -/
theorem step_acts (h : step s = .next t) : ∃ q, StepActs { s with pending := q } t := by
  have answers {i : Instr} {u : State} (hi : exec i u = .next t) : StepActs u t := by
    obtain ⟨t', ht, acts⟩ := exec_acts i u
    rw [ht] at hi
    cases hi
    exact acts
  unfold step at h
  split at h
  · exact ⟨_, answers h⟩
  · refine ⟨s.pending, ?_⟩
    split at h
    · exact answers h
    · cases h
      unfold tick
      split
      exacts [.ticked ‹_›, .nothing]

end Sys2Proof.Machine

/-! ### Every step keeps both rings in form (R34 to R39, R46, R47) -/

namespace Sys2Proof.Machine

variable {s t u : State} {P : Prop} {i : Fin 24} {m : List Byte} {n : SecId}

/-- Each ring is cleared, or it stays as it is under the modulus it was filed by (R46, R47). -/
def RingsKept (s t : State) : Prop :=
  ∀ n, (t.sec n).ring = Ring.cleared ∨ t.nominal = s.nominal ∧ (t.sec n).ring = (s.sec n).ring

namespace RingsKept

theorem wf (h : RingsKept s t) (hs : RingsWellFormed s) : RingsWellFormed t := fun n => by
  rcases h n with cleared | ⟨nominal, same⟩
  · rw [cleared]; exact ring_cleared_wf _
  · rw [nominal, same]; exact hs n

theorem of_same (hq : t.nominal = s.nominal) (hr : ∀ n, (t.sec n).ring = (s.sec n).ring) : RingsKept s t :=
  fun n => .inr ⟨hq, hr n⟩

theorem of_secs (hq : t.nominal = s.nominal) (h1 : t.sec1.ring = s.sec1.ring) (h2 : t.sec2.ring = s.sec2.ring) :
    RingsKept s t := of_same hq fun n => by cases n; exacts [h1, h2]

theorem refl (s : State) : RingsKept s s := of_same rfl fun _ => rfl

theorem trans (h : RingsKept s t) (h' : RingsKept t u) : RingsKept s u := fun n => by
  rcases h' n with cleared | ⟨nominal, same⟩
  · exact .inl cleared
  · rw [nominal, same]; exact h n

theorem link (h : LinkFrame s t) : RingsKept s t := of_same h.toStream.nominal fun n => by rw [h.sec n]

theorem modPort (s : State) (p : Port) (f : PortState → PortState) : RingsKept s (s.modPort p f) := .link (.modPort s p f)

theorem modCoil (s : State) (c : CoilId) (f : Coil → Coil) : RingsKept s (s.modCoil c f) :=
  of_same (SectionFrame.modCoil s c f).toStream.nominal fun n => by rw [State.sec_modCoil]

end RingsKept

/-- The operations of the sections, the coils and the coupler keep a ring or clear it. -/
theorem SectionActs.rings (h : SectionActs P s t) : RingsKept s t := fun n => by
  rcases h.ring n with same | ⟨-, cleared⟩
  exacts [.inr ⟨h.frame.toStream.nominal, same⟩, .inl cleared]

/-! Requests -/

theorem writeSlot_rings (i : Fin 24) (d : Option SlotDef) (s : State) : RingsKept s (writeSlot i d s) := by
  obtain ⟨x, -, acts⟩ := rewriteCoupler_acts (isStateSlot (s.slot i).defn) (isStateSlot d) (slotWritten i d s)
  have told : RingsKept (s.setSlot i (Slot.fresh d)) (if (s.slot i).state = .active then s.setSlot i (Slot.fresh d)
      else raise .streamState (.slot i) (s.setSlot i (Slot.fresh d))) := .link (raise_setSlot_cases _ _)
  have written : RingsKept s (slotWritten i d s) :=
    (((RingsKept.of_secs rfl rfl rfl).trans told).trans (.modCoil _ .c1 _)).trans (.modCoil _ .c2 _)
  have recorded : RingsKept (slotWritten i d s) { slotWritten i d s with coupler := x } := .of_secs rfl rfl rfl
  rw [writeSlot_eq]
  exact (written.trans recorded).trans acts.rings

theorem enableSlot_rings (i : Fin 24) (s : State) : RingsKept s (enableSlot i s) := by
  have enabled : RingsKept s (s.setSlot i (s.slot i).enabled) := .of_secs rfl rfl rfl
  exact (enabled.trans (.link (slotEnabled_frame i s))).trans (enableSlot_acts i s).rings

/-- A write of the frequency clears both rings (R47). -/
theorem writeNominal_rings (q : Nominal) (s : State) : RingsKept s (writeNominal q s) := fun n => by
  rw [sec_writeNominal]
  exact .inl rfl

theorem writeLive_rings (g : Globals) (s : State) : RingsKept s (writeLive g s) := .of_secs rfl rfl rfl

theorem writeGlobals_rings (g : Globals) (s : State) :
    RingsKept s (writeLive g { writeNominal g.nominal s with couplerTimeout := g.couplerTimeout }) := by
  have timed (t : State) (k : Nat) : RingsKept t { t with couplerTimeout := k } := .of_secs rfl rfl rfl
  exact ((writeNominal_rings g.nominal s).trans (timed _ _)).trans (writeLive_rings g _)

/-- RESET_PART clears both rings (R48). -/
theorem resetPart_rings (s : State) : RingsKept s (resetPart s) := fun n => by
  rw [(resetPart_frame s).sec n]
  cases n <;> exact .inl rfl

/-- A new set of settings leaves the ring (R48). -/
theorem writeSettings_rings (n : SecId) (x : SectionSettings) (s : State) :
    RingsKept s (s.modSec n fun z => { z with settings := x }) :=
  .of_same (SectionFrame.modSec s n _).toStream.nominal fun k => by
    by_cases hk : k = n
    · rw [hk, State.sec_modSec]
    · rw [State.sec_modSec_other s n k _ hk]

theorem manualMove_rings (c : CoilId) (p : Nat) (s : State) : RingsKept s (manualMove c p s) :=
  SectionActs.rings (P := False) (.ite (.refl s) (SectionActs.coil (.refl s) (requestMove_acts c p .manual s)))

theorem RequestActs.rings (h : RequestActs s t) : RingsKept s t := by
  cases h with
  | nothing => exact .refl s
  | slotWritten i d => exact writeSlot_rings i d s
  | masksWritten => exact .of_secs rfl rfl rfl
  | slotEnabled i => exact enableSlot_rings i s
  | tableWritten c => exact .modCoil s c _
  | sectionSet n x => exact writeSettings_rings n x s
  | coilSet c => exact .modCoil s c _
  | globalsSet b => exact writeGlobals_rings (globalsOf b) s
  | liveSet b => exact writeLive_rings (globalsOf b) s
  | stateRead => exact .of_secs rfl rfl rfl
  | eventsRead => exact .of_secs rfl rfl rfl
  | summaryRead => exact .of_secs rfl rfl rfl
  | portRead p => exact .modPort s p _
  | slotRead => exact .of_secs rfl rfl rfl
  | sectionStarted n => exact (enterStarting_sectionActs trivial (.refl s) n).rings
  | sectionDisabled n => exact (disableSection_sectionActs (P := False) (.refl s) n).rings
  | frozen z n => exact (setInhibit_sectionActs (P := False) (.refl s) n _).rings
  | coilReleased c => exact .modCoil s c _
  | coilMoved c p => exact manualMove_rings c p s
  | reset => exact resetPart_rings s

theorem answer_rings (r : Request) (x : Served) : RingsKept x.state (answer r x) := by
  rw [answer_frame]
  exact .of_secs rfl rfl rfl

/-! Receptions -/

/-- A ring that takes a record of a count below the modulus in force keeps its form, and so it does through the deliveries,
which clear it or leave it (R37, R46). -/
theorem ringTakes_rings {x : ValueRecord} (hs : RingsWellFormed s) (hc : x.count < s.nominal.modulus) :
    RingsWellFormed (ringTakes n x s) := by
  have nominal : (ringFiled n x s).nominal = s.nominal := (ringFiled_acts (.refl x.slot s) n rfl).frame.nominal
  have filed : RingsWellFormed (ringFiled n x s) := fun k => by
    rw [sec_ringFiled, nominal]
    split
    exacts [(file_keeps s.nominal.modulus_gt_one (hs k) hc).1, hs k]
  rw [ringTakes_eq]
  exact (deliver_sectionActs (P := True) (fun _ => trivial) (.refl _) n _).rings.wf filed

theorem distributeBinding_rings (hs : RingsWellFormed s) (hc : sampleCount m < s.nominal.modulus) (i : Fin 24) (b : Binding) :
    RingsWellFormed (distributeBinding i m b s) := by
  have clamped : RingsWellFormed (clampCounted i m b s) := fun k => by
    rw [sec_clampCounted, nominal_clampCounted]
    exact hs k
  rw [distributeBinding_eq]
  exact ringTakes_rings clamped (by rw [nominal_clampCounted]; exact hc)

theorem distributeSample_rings (bs : List Binding) (hs : RingsWellFormed s) (hc : sampleCount m < s.nominal.modulus)
    (i : Fin 24) : RingsWellFormed (bs.foldl (fun s b => distributeBinding i m b s) s) := by
  induction bs generalizing s with
  | nil => exact hs
  | cons b bs ih =>
    refine ih (distributeBinding_rings hs hc i b) ?_
    rwa [(distributeBinding_acts (.refl i s) m b).frame.nominal]

theorem distribute_rings (b : SlotBody) (hs : RingsWellFormed s) (good : malformedFor b s.nominal.modulus m = false)
    (i : Fin 24) (p : Port) : RingsWellFormed (distribute i b p m s) := by
  cases b with
  | sample bs => exact distributeSample_rings bs hs (by simp [malformedFor] at good; omega) i
  | state k =>
    unfold distribute
    dsimp only
    split
    exacts [(couplerValue_sectionActs trivial (.refl s) _).rings.wf hs, hs]
  | drive c => exact (treatStatus_sectionActs trivial (.refl s) c _).rings.wf hs

/-- No slot distributes a malformed frame, so no count at or above the modulus reaches a ring (R21, R47). -/
theorem Distributes.well_formed {b : SlotBody} (h : Distributes i b m s) : malformedFor b s.nominal.modulus m = false := by
  obtain ⟨handed, -⟩ := h
  cases hm : malformedFor b s.nominal.modulus m with
  | false => rfl
  | true => rw [judge_malformed hm] at handed; cases handed

theorem slotTakes_rings (b : SlotBody) (hs : RingsWellFormed s) (i : Fin 24) (p : Port) :
    RingsWellFormed (slotTakes i b p m s) := by
  have counted : RingsKept s (s.setSlot i (takenSlot b m s.nominal.modulus (s.slot i))) := .of_secs rfl rfl rfl
  have told := (counted.trans (frameTold_acts i b m s).rings).wf hs
  by_cases h : Distributes i b m s
  · rw [slotTakes_distributes h]
    have nominal : (frameTold i b m s).nominal = s.nominal := (frameTold_acts i b m s).frame.toStream.nominal
    exact distribute_rings b told (nominal ▸ h.well_formed) i p
  · rw [slotTakes_told h]
    exact told

theorem offerToMatcher_rings (k : FrameClass) (hs : RingsWellFormed s) (p : Port) :
    RingsWellFormed (offerToMatcher k p m s) := by
  have uncounted : RingsWellFormed (countUnmatched p s) := (RingsKept.modPort s p _).wf hs
  unfold offerToMatcher
  split
  · exact uncounted
  · split
    · exact uncounted
    · split
      exacts [slotTakes_rings _ hs _ p, hs]

theorem handleGood_rings (hs : RingsWellFormed s) (p : Port) (f : Frame) : RingsWellFormed (handleGood p f s) := by
  have relayed := (RingsKept.link (relay_frame p f s)).wf hs
  unfold handleGood
  dsimp only
  split
  case h_1 | h_2 => exact relayed
  case h_3 => exact (RingsKept.modPort _ p _).wf relayed
  case h_7 =>
    split
    · unfold enqueueRequest
      split <;> exact RingsKept.wf (.of_secs rfl rfl rfl) hs
    · exact relayed
  all_goals exact offerToMatcher_rings _ relayed p

theorem receive_rings (hs : RingsWellFormed s) (p : Port) (f : Frame) (lost : Bool) : RingsWellFormed (receive p f lost s) := by
  have counted {u : State} (hu : RingsWellFormed u) (g : PortState → PortState) := (RingsKept.modPort u p g).wf hu
  unfold receive
  dsimp only
  split
  exacts [counted (counted hs _) _, handleGood_rings (counted hs _) p f]

/-! Commands and steps -/

theorem failCoilIf_rings {b : Prop} [Decidable b] (c : CoilId) (k : EventKind) (s : State) :
    RingsKept s (if b then failCoil c k s else s) :=
  SectionActs.rings (P := False) (.ite (failCoil_sectionActs (.refl s) c k) (.refl s))

theorem loseLink_rings (p : Port) (s : State) : RingsKept s (loseLink p s) := by
  unfold loseLink
  split
  exacts [(RingsKept.modPort s p _).trans (.link (raise_frame _ _ _)), .refl s]

theorem alarmReasserts_rings (s : State) : RingsKept s (alarmReasserts s) := by
  unfold alarmReasserts
  split <;> exact .of_secs rfl rfl rfl

theorem CommandActs.rings (h : CommandActs s t) (hs : RingsWellFormed s) : RingsWellFormed t := by
  cases h with
  | nothing => exact hs
  | received p f lost => exact receive_rings hs p f lost
  | sent p => exact (RingsKept.modPort s p _).wf hs
  | linkLost p => exact (loseLink_rings p s).wf hs
  | linkRestored p => exact (RingsKept.modPort s p _).wf hs
  | heldOff n => exact (holdOffRunsOut_sectionActs trivial (.refl s) n).rings.wf hs
  | acceptance c => exact (acceptanceExpires_sectionActs (P := False) (.refl s) c).rings.wf hs
  | confirmation c => exact (failCoilIf_rings c _ s).wf hs
  | moveLimit c => exact (failCoilIf_rings c _ s).wf hs
  | silence c => exact (failCoilIf_rings c _ s).wf hs
  | stale => exact (staleExpires_sectionActs (P := False) (.refl s)).rings.wf hs
  | reasserted => exact (alarmReasserts_rings s).wf hs
  | answered r x acts => exact (acts.rings.trans (answer_rings r x)).wf hs

theorem StepActs.rings (h : StepActs s t) (hs : RingsWellFormed s) : RingsWellFormed t := by
  cases h with
  | nothing => exact hs
  | ticked => exact RingsKept.wf (.of_secs rfl rfl rfl) hs
  | acted _ acts => exact (conclude_sectionActs (P := False) (.refl _)).rings.wf (acts.rings hs)
  | restarted straps la lb => exact fun n => by cases n <;> exact ring_cleared_wf _
  | linkReported p l => exact (RingsKept.modPort s p _).wf hs
  | resetHeld => exact RingsKept.wf (.of_secs rfl rfl rfl) hs
  | supplyLost => exact RingsKept.wf (.of_secs rfl rfl rfl) hs

/-- Settles O55: a value record keeps the form of the ring that files it, and everything else leaves a ring with its modulus or
clears it. -/
theorem stepKeepsRings : Obligations.StepKeepsRings := by
  intro s t hs ht
  obtain ⟨q, acts⟩ := step_acts ht
  exact acts.rings (RingsKept.wf (.of_secs rfl rfl rfl) hs)

end Sys2Proof.Machine

/-! ### Every step keeps sections with the coupler, engines and supervisors with their sections (R51, R131, R143 to R146, R157)

The three invariants are carried as one, which also holds in the middle of an operation: it names the coupler position for
which the sections stand and the position held apart, as a coupler change sets the one before the other, and at most one
section whose engine is being changed. -/

namespace Sys2Proof.Machine

variable {s t u : State} {n m : SecId} {st : SecState} {j j' k : Held} {w : Option SecId}

/-- The window engine is OFF exactly where its section does not measure or is unsure of the coupler (R51). -/
def Section.EngineFits (x : Section) : Prop :=
  x.engine.state = .off ↔ (x.state.measures = false ∨ x.inhibit.unsure = true)

theorem engineFits_off {x : Section} (hg : x.engine.state = .off) (hs : x.state.measures = false) : x.EngineFits :=
  iff_of_true hg (.inl hs)

/-- Sections that stand for the coupler position `j` while `k` is held: section 2 alone is JOINED, and exactly for CLOSED; every
engine fits its section, but perhaps that of section `w`; and every supervisor follows. -/
structure InStep (j k : Held) (w : Option SecId) (s : State) : Prop where
  joined : ∀ n, (s.sec n).state = .joined ↔ n = .s2 ∧ j = .closed
  held : s.coupler.held = k
  engines : ∀ n, w ≠ some n → (s.sec n).EngineFits
  supervisors : SupervisorsFollow s

/-- What the three invariants read of a section is the same of both. -/
structure Section.SameStanding (x y : Section) : Prop where
  state : y.state = x.state
  unsure : y.inhibit.unsure = x.inhibit.unsure
  engine : y.engine.state = .off ↔ x.engine.state = .off
  phase : y.sup.phase = .idle ↔ x.sup.phase = .idle

theorem Section.SameStanding.refl (x : Section) : x.SameStanding x := ⟨rfl, rfl, .rfl, .rfl⟩

theorem Section.SameStanding.engineFits {x y : Section} (h : x.SameStanding y) : y.EngineFits ↔ x.EngineFits := by
  unfold Section.EngineFits
  rw [h.state, h.unsure, h.engine]

theorem supervised_of_states (h : ∀ n, (t.sec n).state = (s.sec n).state) (n : SecId) : t.supervised n = s.supervised n := by
  have one : t.sec1.state = s.sec1.state := h .s1
  have two : t.sec2.state = s.sec2.state := h .s2
  cases n <;> simp only [State.supervised, one, two]

namespace InStep

theorem of_invariants (hj : JoinFollowsCoupler s) (he : EnginesFollow s) (hs : SupervisorsFollow s) :
    InStep s.coupler.held s.coupler.held none s where
  joined n := by
    obtain ⟨two, one⟩ := hj
    cases n
    · exact iff_of_false one fun h => nomatch h.1
    · exact two.trans (and_iff_right rfl).symm
  held := rfl
  engines n _ := he n
  supervisors := hs

theorem invariants (h : InStep j j none s) : JoinFollowsCoupler s ∧ EnginesFollow s ∧ SupervisorsFollow s := by
  refine ⟨⟨?_, fun one => nomatch ((h.joined .s1).1 one).1⟩, fun n => h.engines n nofun, h.supervisors⟩
  rw [h.held]
  exact (h.joined .s2).trans (and_iff_right rfl)

/-! Changes that the invariants do not see -/

theorem keep (h : InStep j k w s) (held : t.coupler.held = s.coupler.held)
    (same : ∀ n, (s.sec n).SameStanding (t.sec n)) : InStep j k w t where
  joined n := by rw [(same n).state]; exact h.joined n
  held := held.trans h.held
  engines n hn := (same n).engineFits.2 (h.engines n hn)
  supervisors n := by
    rw [(same n).phase, supervised_of_states fun n => (same n).state]
    exact h.supervisors n

theorem of_secs (h : InStep j k w s) (held : t.coupler.held = s.coupler.held) (same : ∀ n, t.sec n = s.sec n) :
    InStep j k w t := h.keep held fun n => by rw [same n]; exact .refl _

theorem drive (h : InStep j k w s) (frame : DriveFrame s t) : InStep j k w t :=
  h.of_secs (by rw [frame.coupler]) frame.sec

theorem link (h : InStep j k w s) (frame : LinkFrame s t) : InStep j k w t := h.of_secs (by rw [frame.coupler]) frame.sec

theorem raise (h : InStep j k w s) (e : EventKind) (o : Obj) : InStep j k w (raise e o s) := h.link (raise_frame e o s)

theorem modCoil (h : InStep j k w s) (c : CoilId) (f : Coil → Coil) : InStep j k w (s.modCoil c f) :=
  h.drive (.modCoil s c f)

theorem modPort (h : InStep j k w s) (p : Port) (f : PortState → PortState) : InStep j k w (s.modPort p f) :=
  h.link (.modPort s p f)

theorem modSec (h : InStep j k w s) (n : SecId) {f : Section → Section}
    (same : (s.sec n).SameStanding (f (s.sec n)) := by exact ⟨rfl, rfl, .rfl, .rfl⟩) : InStep j k w (s.modSec n f) :=
  h.keep (by rw [State.modSec_coupler]) fun m => by
    by_cases hm : m = n
    · rw [hm, State.sec_modSec]; exact same
    · rw [State.sec_modSec_other _ _ _ _ hm]; exact .refl _

theorem ite {b : Prop} [Decidable b] (h : InStep j k w t) (h' : InStep j k w u) : InStep j k w (if b then t else u) := by
  split
  exacts [h, h']

/-! A section whose engine is being changed -/

theorem but (h : InStep j k none s) (n : SecId) : InStep j k (some n) s where
  joined := h.joined
  held := h.held
  engines m _ := h.engines m nofun
  supervisors := h.supervisors

theorem fit (h : InStep j k (some n) s) (fits : (s.sec n).EngineFits) : InStep j k none s where
  joined := h.joined
  held := h.held
  engines m _ := by
    by_cases hm : n = m
    · exact hm ▸ fits
    · exact h.engines m fun e => hm (Option.some.inj e)
  supervisors := h.supervisors

theorem changeEngine (h : InStep j k (some n) s) {f : Section → Section} (state : (f (s.sec n)).state = (s.sec n).state)
    (phase : (f (s.sec n)).sup.phase = (s.sec n).sup.phase) : InStep j k (some n) (s.modSec n f) := by
  have states (m : SecId) : ((s.modSec n f).sec m).state = (s.sec m).state := by
    by_cases hm : m = n
    · rw [hm, State.sec_modSec, state]
    · rw [State.sec_modSec_other _ _ _ _ hm]
  refine ⟨fun m => by rw [states]; exact h.joined m, by rw [State.modSec_coupler]; exact h.held, fun m hm => ?_, fun m => ?_⟩
  · rw [State.sec_modSec_other _ _ _ _ fun e => hm (by rw [e])]
    exact h.engines m hm
  · rw [supervised_of_states states]
    by_cases hm : m = n
    · rw [hm, State.sec_modSec, phase]; exact h.supervisors n
    · rw [State.sec_modSec_other _ _ _ _ hm]; exact h.supervisors m

theorem turnOff (h : InStep j k (some n) s) (cause : DiscardCause) : InStep j k (some n) (turnEngineOff n cause s) :=
  h.changeEngine rfl rfl

end InStep

/-! A section takes another state -/

/-- With section `n` in state `st`, section 2 alone is JOINED, and exactly for the position CLOSED. -/
def JoinsAs (n : SecId) (st : SecState) (j : Held) (s : State) : Prop :=
  ∀ m, (if m = n then st else (s.sec m).state) = .joined ↔ m = .s2 ∧ j = .closed

/-- A section that was not JOINED takes another such state. -/
theorem InStep.joinsAs (h : InStep j k w s) (hn : (s.sec n).state ≠ .joined) (hst : st ≠ .joined) : JoinsAs n st j s := by
  intro m
  split
  · next hm => exact iff_of_false hst fun both => hn ((h.joined n).2 (hm ▸ both))
  · exact h.joined m

theorem Supervisor.follow_idle (active : Bool) (v : Supervisor) : (v.follow active).phase = .idle ↔ active = false := by
  unfold Supervisor.follow
  cases hv : v.phase <;> cases active <;> simp [hv, Supervisor.goIdle]

theorem state_setSectionState (n m : SecId) (st : SecState) (s : State) :
    ((setSectionState n st s).sec m).state = if m = n then st else (s.sec m).state := by
  obtain ⟨v, e⟩ := sec_setSectionState n m st s
  rw [e]
  split <;> rfl

/-- A change of section state has both supervisors follow, whatever they did before (R131, R157). -/
theorem supervisors_setSectionState (n : SecId) (st : SecState) (s : State) : SupervisorsFollow (setSectionState n st s) := by
  intro m
  unfold setSectionState
  have states (m : SecId) : ∀ u : State, ((followSections u).sec m).state = (u.sec m).state := fun u => by
    rw [sec_followSections]
  rw [supervised_of_states fun m => states m _, sec_followSections]
  exact Supervisor.follow_idle _ _

theorem InStep.enter (h : InStep j k (some n) s) (joins : JoinsAs n st j' s) :
    InStep j' k (some n) (setSectionState n st s) where
  joined m := by rw [state_setSectionState]; exact joins m
  held := by rw [coupler_setSectionState]; exact h.held
  engines m hm := by
    obtain ⟨v, e⟩ := sec_setSectionState n m st s
    rw [e, if_neg fun same => hm (by rw [same])]
    exact h.engines m hm
  supervisors := supervisors_setSectionState n st s

/-- A section takes a state that does not measure, its engine OFF. -/
theorem InStep.enterOff (h : InStep j k (some n) s) (joins : JoinsAs n st j' s) (off : (s.sec n).engine.state = .off)
    (still : st.measures = false) : InStep j' k none (setSectionState n st s) := by
  refine (h.enter joins).fit ?_
  obtain ⟨v, e⟩ := sec_setSectionState n n st s
  rw [e, if_pos rfl]
  exact engineFits_off off still

/-- A section turns its engine off and takes a state that does not measure (R64, R131). -/
theorem InStep.exit (h : InStep j k none s) (joins : JoinsAs n st j' s) (still : st.measures = false) (cause : DiscardCause) :
    InStep j' k none (setSectionState n st (turnEngineOff n cause s)) := by
  refine ((h.but n).turnOff cause).enterOff (fun m => ?_) (by rw [turnEngineOff, State.sec_modSec]; rfl) still
  have := joins m
  split at this
  · next hm => rwa [if_pos hm]
  · next hm => rwa [if_neg hm, turnEngineOff, State.sec_modSec_other _ _ _ _ hm]

theorem InStep.setHoldOff (h : InStep j k w s) (n : SecId) (x : Option Nat) : InStep j k w (setHoldOff n x s) := h.modSec n

/-- A start leaves the engine OFF, whatever it did before (R133). -/
theorem enterStarting_inStep (h : InStep j k (some n) s) (joins : JoinsAs n .starting j' s) :
    InStep j' k none (enterStarting n s) := by
  obtain ⟨v, e⟩ := sec_setSectionState n n .starting s
  rw [if_pos rfl] at e
  have started : InStep j' k none (startedSections n s) := by
    refine ((h.enter joins).changeEngine rfl rfl).fit ?_
    rw [State.sec_modSec, e]
    exact engineFits_off rfl rfl
  exact started.drive (enterStarting_acts n s).frame

theorem enterFault_inStep (h : InStep j k none s) (hn : (s.sec n).state ≠ .joined) : InStep j k none (enterFault n s) :=
  ((h.exit (h.joinsAs hn (by decide)) rfl .state).setHoldOff n none).drive (stopAndSilence_acts n _).frame

theorem enterHalted_inStep (h : InStep j k none s) (hn : (s.sec n).state ≠ .joined) (cause : HaltCause) :
    InStep j k none (enterHalted n cause s) := by
  have halted : InStep j k none (haltedSections n cause s) := (h.exit (h.joinsAs hn (by decide)) rfl .state).modSec n
  have silent := halted.drive (stopAndSilence_acts n _).frame
  rcases enterHalted_cases n cause s with e | e <;> rw [e]
  exacts [silent, silent.raise _ _]

theorem recordJoinedHalt_inStep (h : InStep j k w s) (cause : HaltCause) : InStep j k w (recordJoinedHalt cause s) :=
  (h.modSec .s2 (f := fun x => { x with lastHalt := some cause })).of_secs rfl fun n => by cases n <;> rfl

theorem haltSection_inStep (h : InStep j k none s) (n : SecId) (cause : HaltCause) :
    InStep j k none (haltSection n cause s) := by
  unfold haltSection
  split
  case h_8 => exact recordJoinedHalt_inStep h cause
  case h_6 | h_7 => exact h
  all_goals next hs => exact enterHalted_inStep h (by rw [hs]; decide) cause

theorem disableSection_inStep (h : InStep j k none s) (n : SecId) : InStep j k none (disableSection n s) := by
  have off (hn : (s.sec n).state ≠ .joined) := h.exit (h.joinsAs (n := n) (st := .disabled) hn (by decide)) rfl .state
  have silent (hn : (s.sec n).state ≠ .joined) (cs : List CoilId) :=
    ((off hn).drive (clearTargets_frame cs _)).drive (requestInjector_frame n .off _)
  unfold disableSection
  split
  case h_1 => exact h
  case h_2 => exact h.of_secs rfl fun n => by cases n <;> rfl
  all_goals
    next hs =>
      have hn : (s.sec n).state ≠ .joined := by rw [hs]; decide
      exact .ite ((silent hn _).raise _ _) (silent hn _)

theorem failCoil_inStep (h : InStep j k none s) (c : CoilId) (e : EventKind) : InStep j k none (failCoil c e s) := by
  have failed : InStep j k none (failedAlone c e s) := (h.raise e _).drive (failedAlone_frame c e s)
  have halted := haltSection_inStep failed (s.driver c) { kind := e, obj := .coil c, time := s.ms }
  rcases failCoil_cases c e s with eq | ⟨-, eq⟩ <;> rw [eq]
  exacts [halted, recordJoinedHalt_inStep halted _]

/-! Faults and recovery (R140, R141, R156) -/

theorem faultConfirmed_inStep (h : InStep j k none s) (m : SecId) : InStep j k none (faultConfirmed m s) := by
  unfold faultConfirmed
  dsimp only
  split
  case h_1 | h_2 | h_3 | h_4 => next hs => exact enterFault_inStep h (by rw [hs]; decide)
  all_goals exact h

/-- A section goes from FAULT to RECOVERY, its engine OFF in both, or on to STARTING at once. -/
theorem enterRecovery_inStep (h : InStep j k none s) (hn : (s.sec n).state = .fault) :
    InStep j k none (enterRecovery n s) := by
  have joins := h.joinsAs (n := n) (st := .recovery) (by rw [hn]; decide) (by decide)
  have off : (s.sec n).engine.state = .off := (h.engines n nofun).2 (.inl (by rw [hn]; rfl))
  have entered : InStep j k none (setHoldOff n (some 0) (setSectionState n .recovery s)) :=
    ((h.but n).enterOff joins off rfl).setHoldOff n _
  have state : ((setHoldOff n (some 0) (setSectionState n .recovery s)).sec n).state = .recovery := by
    rw [setHoldOff, State.sec_modSec]
    exact (state_setSectionState n n .recovery s).trans (if_pos rfl)
  unfold enterRecovery
  dsimp only
  exact .ite (enterStarting_inStep (entered.but n) (entered.joinsAs (by rw [state]; decide) (by decide))) entered

theorem enterRecovery_if_inStep (h : InStep j k none s) {b : Prop} [Decidable ((s.sec n).state = .fault ∧ b)] :
    InStep j k none (if (s.sec n).state = .fault ∧ b then enterRecovery n s else s) := by
  split
  · next hs => exact enterRecovery_inStep h hs.1
  · exact h

theorem faultCleared_inStep (h : InStep j k none s) (m : SecId) : InStep j k none (faultCleared m s) :=
  enterRecovery_if_inStep h

/-! Injection and the first estimate (R135) -/

theorem injectionConfirmed_inStep (h : InStep j k none s) (n : SecId) : InStep j k none (injectionConfirmed n s) := by
  unfold injectionConfirmed
  split
  · next hs =>
    have joins := h.joinsAs (n := n) (st := .measuring) (by rw [hs]; decide) (by decide)
    have off : (s.sec n).engine.state = .off := (h.engines n nofun).2 (.inl (by rw [hs]; rfl))
    refine (((h.but n).enter joins).changeEngine rfl rfl).fit ?_
    obtain ⟨v, e⟩ := sec_setSectionState n n .measuring s
    rw [State.sec_modSec, e, if_pos rfl]
    unfold Section.EngineFits
    cases hu : (s.sec n).inhibit.unsure <;> simp [off, Engine.ready, SecState.measures]
  · exact h

theorem firstEstimate_inStep (h : InStep j k none s) (n : SecId) : InStep j k none (firstEstimate n s) := by
  unfold firstEstimate
  split
  · next hs =>
    refine ((h.but n).enter (h.joinsAs (by rw [hs]; decide) (by decide))).fit ?_
    obtain ⟨v, e⟩ := sec_setSectionState n n .tracking s
    have fits := h.engines n nofun
    unfold Section.EngineFits at fits ⊢
    rw [hs] at fits
    rw [e, if_pos rfl]
    exact fits
  · exact h

theorem injectionLost_inStep (h : InStep j k none s) (n : SecId) : InStep j k none (injectionLost n s) := by
  unfold injectionLost
  split
  · next hs =>
    have hn : (s.sec n).state ≠ .joined := fun e => by rw [e] at hs; cases hs
    have cleared := (h.raise .injectionLost (.busSection n)).drive
      (clearTargets_frame ((raise .injectionLost (.busSection n) s).drives n) _)
    refine enterStarting_inStep (cleared.but n) (cleared.joinsAs ?_ (by decide))
    rwa [(clearTargets_frame _ _).sec, (raise_frame _ _ _).sec]
  · exact h

/-! Inhibits and the unsure causes (R143, R144) -/

theorem setInhibit_inStep (h : InStep j k none s) (n : SecId) {x : Inhibit} (hx : x.unsure = (s.sec n).inhibit.unsure) :
    InStep j k none (setInhibit n x s) := by
  have set : InStep j k none (s.modSec n fun y => { y with inhibit := x }) := h.modSec n ⟨rfl, hx, .rfl, .rfl⟩
  exact .ite (set.drive (clearTargets_frame _ _)) set

/-- Both sections change their inhibit set and engine, so that the engines fit again. -/
theorem InStep.changeInhibits (h : InStep j k none s) (held : t.coupler.held = s.coupler.held)
    (same : ∀ n, (t.sec n).state = (s.sec n).state ∧ (t.sec n).sup = (s.sec n).sup) (fits : ∀ n, (t.sec n).EngineFits) :
    InStep j k none t where
  joined n := by rw [(same n).1]; exact h.joined n
  held := held.trans h.held
  engines n _ := fits n
  supervisors n := by
    rw [(same n).2, supervised_of_states fun n => (same n).1]
    exact h.supervisors n

theorem engineFits_unsureNow (x : Section) : x.unsureNow.EngineFits := iff_of_true rfl (.inr rfl)

theorem engineFits_sureAgain {x : Section} (h : x.EngineFits) : x.sureAgain.EngineFits := by
  unfold Section.EngineFits Section.sureAgain at *
  cases hm : x.state.measures <;> simp_all [Engine.ready]

theorem becomeUnsure_inStep (h : InStep j k none s) : InStep j k none (becomeUnsure s) :=
  h.changeInhibits (by rw [coupler_becomeUnsure]) (fun n => by rw [sec_becomeUnsure]; exact ⟨rfl, rfl⟩) fun n => by
    rw [sec_becomeUnsure]; exact engineFits_unsureNow _

theorem becomeSure_inStep (h : InStep j k none s) : InStep j k none (becomeSure s) :=
  h.changeInhibits rfl (fun n => by rw [sec_becomeSure]; exact ⟨rfl, rfl⟩) fun n => by
    rw [sec_becomeSure]; exact engineFits_sureAgain (h.engines n nofun)

/-- A change of the coupler record that leaves the held position. -/
theorem InStep.withCoupler (h : InStep j k w s) {x : Coupler} (hx : x.held = s.coupler.held) :
    InStep j k w { s with coupler := x } := h.of_secs hx fun n => by cases n <;> rfl

theorem setUnsure_inStep (h : InStep j k none s) (x : Unsure) : InStep j k none (setUnsure x s) := by
  have written : InStep j k none { s with coupler := { s.coupler with unsure := x } } := h.withCoupler rfl
  rcases setUnsure_cases x s with ⟨hs, hx⟩ | ⟨hs, hx⟩ | hs
  · rw [setUnsure_unsure hs hx]; exact becomeUnsure_inStep written
  · rw [setUnsure_sure hs hx]; exact becomeSure_inStep written
  · rw [setUnsure_still hs]; exact written

theorem reportAvailability_inStep (h : InStep j k none s) (a : Bool) : InStep j k none (reportAvailability a s) :=
  setUnsure_inStep (h.withCoupler (x := { s.coupler with available := a }) rfl) _

theorem rewriteCoupler_inStep (h : InStep j k none s) (was now : Bool) : InStep j k none (rewriteCoupler was now s) := by
  rw [rewriteCoupler_eq]
  exact setUnsure_inStep (h.withCoupler (by cases was <;> cases now <;> rfl)) _

/-! The coupler closes and opens (R145, R146) -/

theorem setHeld_inStep (h : InStep j k w s) (x : Held) : InStep j x w (setHeld x s) where
  joined n := by cases n; exacts [h.joined .s1, h.joined .s2]
  held := rfl
  engines n hn := by cases n; exacts [h.engines .s1 hn, h.engines .s2 hn]
  supervisors n := by cases n; exacts [h.supervisors .s1, h.supervisors .s2]

theorem resetEstimate_inStep (h : InStep j k w s) (n : SecId) : InStep j k w (resetEstimate n s) := h.modSec n

theorem off_discard (g : Engine) (cause : DiscardCause) : (g.discard cause).state = .off ↔ g.state = .off := by
  unfold Engine.discard
  cases hg : g.state <;> simp [hg]

theorem discardWindow_inStep (h : InStep j k w s) (n : SecId) (cause : DiscardCause) :
    InStep j k w (discardWindow n cause s) := h.modSec n ⟨rfl, rfl, off_discard _ _, .rfl⟩

/-- TRACKING to MEASURING leaves the engine as it is; both measure. -/
theorem couplerChangeSec1_inStep (h : InStep j k none s) (cs : List CoilId) : InStep j k none (couplerChangeSec1 cs s) := by
  have changed := resetEstimate_inStep (discardWindow_inStep h .s1 .coupler) .s1
  unfold couplerChangeSec1
  dsimp only
  generalize resetEstimate .s1 (discardWindow .s1 .coupler s) = t at changed ⊢
  split
  · next ht =>
    have state : (t.sec .s1).state = .tracking := ht
    refine InStep.drive ?_ (clearTargets_frame cs _)
    refine ((changed.but .s1).enter (changed.joinsAs (by rw [state]; decide) (by decide))).fit ?_
    obtain ⟨v, e⟩ := sec_setSectionState .s1 .s1 .measuring t
    have fits := changed.engines .s1 nofun
    unfold Section.EngineFits at fits ⊢
    rw [state] at fits
    rw [e, if_pos rfl]
    exact fits
  · exact changed

/-- Section 2 enters JOINED under a coupler already held CLOSED. -/
theorem joinSection2_inStep (h : InStep .open k none s) : InStep .closed k none (joinSection2 s) := by
  have told : InStep .open k none { s with ret2 := returnFor s.sec2.state } := h.of_secs rfl fun n => by cases n <;> rfl
  have joins : JoinsAs .s2 .joined .closed { s with ret2 := returnFor s.sec2.state } := fun m => by
    cases m
    · exact iff_of_false (fun e => nomatch ((h.joined .s1).1 e).2) fun e => nomatch e.1
    · exact iff_of_true rfl ⟨rfl, rfl⟩
  have joined := (told.exit joins rfl .coupler).setHoldOff .s2 none
  have asked {t : State} (ht : InStep .closed k none t) :
      InStep .closed k none (resetEstimate .s2 (requestInjection .c2 .off t)) :=
    resetEstimate_inStep (ht.drive (requestInjection_frame .c2 .off t)) .s2
  unfold joinSection2
  dsimp only
  exact asked (.ite joined (joined.modCoil .c2 _))

theorem state_couplerChanged (g : Engine) : g.couplerChanged.state = g.state := by
  unfold Engine.couplerChanged
  cases hg : g.state <;> simp [hg]

theorem tellEngines_inStep (h : InStep j k w s) : InStep j k w (tellEngines s) :=
  h.keep rfl fun n => by
    have same (g : Engine) : g.couplerChanged.state = .off ↔ g.state = .off := by rw [state_couplerChanged]
    cases n <;> exact ⟨rfl, rfl, same _, .rfl⟩

theorem couplerCloses_inStep (h : InStep .open .open none s) : InStep .closed .closed none (couplerCloses s) := by
  have held := setHeld_inStep (h.raise .couplerChange (.busSection .s1)) .closed
  have closed := couplerChangeSec1_inStep (joinSection2_inStep held) [.c1]
  have alone := (closed.joined .s1).not.2 fun e => nomatch e.1
  exact tellEngines_inStep (.ite (closed.raise _ _) (.ite (enterFault_inStep closed alone) closed))

/-- Section 2 leaves JOINED under a coupler already held OPEN, its engine OFF. -/
theorem leaveJoined_inStep (h : InStep .closed k none s) : InStep .open k none (leaveJoined s) := by
  have state : (s.sec .s2).state = .joined := (h.joined .s2).2 ⟨rfl, rfl⟩
  have off : (s.sec .s2).engine.state = .off := (h.engines .s2 nofun).2 (.inl (by rw [state]; rfl))
  have leaves {st : SecState} (hst : st ≠ .joined) : JoinsAs .s2 st .open s := fun m => by
    cases m
    · exact iff_of_false (fun e => nomatch ((h.joined .s1).1 e).1) fun e => nomatch e.1
    · exact iff_of_false hst fun e => nomatch e.2
  have enters {st : SecState} (hst : st ≠ .joined) (still : st.measures = false) :
      InStep .open k none (setSectionState .s2 st s) := (h.but .s2).enterOff (leaves hst) off still
  have closed {t : State} (ht : InStep .open k none t) : InStep .open k none { t with ret2 := .disabled } :=
    ht.of_secs rfl fun n => by cases n <;> rfl
  unfold leaveJoined
  refine closed ?_
  split
  · exact .ite (enters (by decide) rfl) (enterStarting_inStep (h.but .s2) (leaves (by decide)))
  · exact enters (by decide) rfl
  · exact enters (by decide) rfl

theorem couplerOpens_inStep (h : InStep .closed .closed none s) : InStep .open .open none (couplerOpens s) := by
  have changed := couplerChangeSec1_inStep (h.raise .couplerChange (.busSection .s1)) [.c1, .c2]
  exact tellEngines_inStep (leaveJoined_inStep (setHeld_inStep (enterRecovery_if_inStep (n := .s1) changed) .open))

/-- A coupler value brings the sections to the position it may change. -/
theorem couplerValue_inStep (h : InStep j j none s) (v : CouplerValue) : ∃ j', InStep j' j' none (couplerValue v s) := by
  have noted : InStep j j none { s with coupler :=
      { s.coupler with last := some (v, s.ms), staleTimer := some (s.ms + span s.couplerTimeout) } } := h.withCoupler rfl
  have position : s.coupler.held = j := h.held
  unfold couplerValue
  dsimp only
  split
  · next hs =>
    obtain rfl : j = .open := position.symm.trans hs
    exact ⟨_, setUnsure_inStep (couplerCloses_inStep noted) _⟩
  · next hs =>
    obtain rfl : j = .closed := position.symm.trans hs
    exact ⟨_, setUnsure_inStep (couplerOpens_inStep noted) _⟩
  · exact ⟨_, setUnsure_inStep noted _⟩

/-! Windows, estimates and decisions (R60 to R83, R95 to R105) -/

theorem takeDecision_inStep (h : InStep j k none s) (n : SecId) (g : Trigger) (e : Int) :
    InStep j k none (takeDecision n g e s) := by
  have decided {x : Decision} : InStep j k none (s.modSec n fun y => { y with decision := some x }) := h.modSec n
  exact .ite decided
    (InStep.drive (InStep.drive (.ite (decided.raise _ _) decided) (handOn_frame .c1 _ _ _)) (handOn_frame .c2 _ _ _))

theorem targetTakes_inStep (h : InStep j k none s) (n : SecId) (x : UpdateKind) (e : Int) :
    InStep j k none (targetTakes n x e s) := by
  have counted {i : Nat} : InStep j k none (s.modSec n fun y => { y with counter := i }) := h.modSec n
  cases x with
  | first => exact takeDecision_inStep counted _ _ _
  | step => exact takeDecision_inStep counted _ _ _
  | filtered => exact .ite (takeDecision_inStep counted _ _ _) counted

theorem rejectWindow_inStep (h : InStep j k none s) (n : SecId) (w : Window) (f : Phasors) (why : RejectReason) :
    InStep j k none (rejectWindow n w f why s) := by
  have counted : InStep j k none (s.modSec n fun x => { x with
      estimate := { x.estimate with run := min (x.estimate.run + 1) 255, reason := some why } }) := h.modSec n
  have recorded : InStep j k none ((raise .windowRejected (.busSection n) _).modSec n fun x => { x with
      engine := x.engine.reject (w.completed f (.rejected why)) }) := (counted.raise _ _).modSec n
  exact .ite (haltSection_inStep (recorded.raise _ _) _ _) recorded

theorem acceptWindow_inStep (h : InStep j k none s) (n : SecId) (w : Window) (f : Phasors) (x : Int) :
    InStep j k none (acceptWindow n w f x s) := by
  have taken : InStep j k none (s.modSec n fun z => { z with
      estimate := z.estimate.accept (s.sec n).settings s.ms (reY f) x }) := h.modSec n
  have told {e : UpdateKind} : InStep j k none
      (if e = .step then raise .stepDetected (.busSection n) (s.modSec n fun z => { z with
        estimate := z.estimate.accept (s.sec n).settings s.ms (reY f) x })
      else s.modSec n fun z => { z with estimate := z.estimate.accept (s.sec n).settings s.ms (reY f) x }) :=
    .ite (taken.raise _ _) taken
  exact targetTakes_inStep (.ite (firstEstimate_inStep (told.modSec n) n) (told.modSec n)) _ _ _

theorem estimateWindow_inStep (h : InStep j k none s) (n : SecId) (w : Window) (f : Phasors) :
    InStep j k none (estimateWindow n w f s) := by
  have given {x : Option Int} : InStep j k none (s.modSec n fun z => { z with
      estimate := { z.estimate with lastReY := some (reY f), lastImY := some (imY f), lastBL := x } }) := h.modSec n
  unfold estimateWindow
  dsimp only
  split
  · exact rejectWindow_inStep given _ _ _ _
  · exact .ite (acceptWindow_inStep (given.modSec n) _ _ _ _) (rejectWindow_inStep (given.modSec n) _ _ _ _)

/-- A window that completes was in flight, so its engine goes on to WAIT and not out of OFF. -/
theorem completeWindow_inStep (h : InStep j k none s) (on : (s.sec n).engine.state ≠ .off) (w : Window) :
    InStep j k none (completeWindow n w s) := by
  have waits {x y : Nat} : InStep j k none (s.modSec n fun z => { z with
      engine := { z.engine with state := .wait, firstPair := true, grade := x, worst := min z.engine.worst y } }) :=
    h.modSec n ⟨rfl, rfl, iff_of_false nofun on, .rfl⟩
  unfold completeWindow
  dsimp only
  split
  · exact rejectWindow_inStep waits _ _ _ _
  · exact estimateWindow_inStep waits _ _ _

theorem setEngine_inStep (h : InStep j k w s) {g : Engine} (same : g.state = .off ↔ (s.sec n).engine.state = .off) :
    InStep j k w (s.setEngine n g) := h.modSec n ⟨rfl, rfl, same, .rfl⟩

theorem engineTakes_inStep (h : InStep j k none s) (n : SecId) (p : Pair) : InStep j k none (engineTakes n p s) := by
  unfold engineTakes
  dsimp only
  split
  · exact h
  · next hg =>
    have on : (s.sec n).engine.state ≠ .off := by rw [hg]; nofun
    exact .ite (setEngine_inStep h .rfl)
      (.ite (.ite (setEngine_inStep h (iff_of_false nofun on)) (setEngine_inStep h .rfl)) h)
  · next hg =>
    have on : (s.sec n).engine.state ≠ .off := by rw [hg]; nofun
    exact .ite (completeWindow_inStep h on _) (setEngine_inStep h (iff_of_false nofun on))

/-! Supervision and deliveries (R151 to R157) -/

theorem setSup_inStep (h : InStep j k w s) {v : Supervisor} (same : v.phase = .idle ↔ (s.sec n).sup.phase = .idle) :
    InStep j k w (s.setSup n v) := h.modSec n ⟨rfl, rfl, .rfl, same⟩

theorem confirmFault_inStep (h : InStep j k none s) (on : (s.sec n).sup.phase ≠ .idle) (x : Capture) :
    InStep j k none (confirmFault n x s) := by
  have confirmed : InStep j k none (s.modSec n fun y => { y with sup := { y.sup with
      record := y.sup.record.confirmed x s.ms, confirm := 0, capture := none, clear := 0, phase := .standing,
      holdOff := none } }) := h.modSec n ⟨rfl, rfl, .rfl, iff_of_false nofun on⟩
  exact faultConfirmed_inStep (confirmed.raise _ _) n

theorem judgeWatch_inStep (h : InStep j k none s) (on : (s.sec n).sup.phase ≠ .idle) (x : Nat) (q : Int) :
    InStep j k none (judgeWatch n x q s) :=
  .ite (.ite (confirmFault_inStep h on _) (setSup_inStep h .rfl)) (setSup_inStep h .rfl)

theorem clearFault_inStep (h : InStep j k none s) (on : (s.sec n).sup.phase ≠ .idle) : InStep j k none (clearFault n s) := by
  have cleared : InStep j k none (s.modSec n fun y => { y with sup := { y.sup with
      record := { y.sup.record with status := some .cleared, clear := some s.ms }, clear := 0, phase := .watch } }) :=
    h.modSec n ⟨rfl, rfl, .rfl, iff_of_false nofun on⟩
  exact faultCleared_inStep (cleared.raise _ _) n

theorem judgeStanding_inStep (h : InStep j k none s) (on : (s.sec n).sup.phase ≠ .idle) (q : Int) :
    InStep j k none (judgeStanding n q s) := by
  have counted {v : Supervisor} (hv : v.phase = (s.sec n).sup.phase) : InStep j k none (s.setSup n v) :=
    setSup_inStep h (by rw [hv])
  have stays {v : Supervisor} (hv : v.phase = (s.sec n).sup.phase) : ((s.setSup n v).sec n).sup.phase ≠ .idle := by
    rw [State.setSup, State.sec_modSec, hv]; exact on
  exact .ite (.ite (clearFault_inStep (counted rfl) (stays rfl)) (counted rfl)) (counted rfl)

theorem closeCycle_inStep (h : InStep j k none s) (n : SecId) (a : CycleAcc) : InStep j k none (closeCycle n a s) := by
  have closed {x : Option (Nat × Option Int)} : InStep j k none (s.setSup n { (s.sec n).sup with acc := none, last := x }) :=
    setSup_inStep h .rfl
  have on {v : Supervisor} (hv : v.phase ≠ .idle) : ((s.setSup n v).sec n).sup.phase ≠ .idle := by
    rwa [State.setSup, State.sec_modSec]
  unfold closeCycle
  refine .ite (setSup_inStep h .rfl) ?_
  dsimp only
  split
  · next hv => exact judgeWatch_inStep closed (on (by rw [hv]; decide)) _ _
  · next hv => exact judgeStanding_inStep closed (on (by rw [hv]; decide)) _
  · exact closed

theorem supervisorTakes_inStep (h : InStep j k none s) (n : SecId) (p : Pair) : InStep j k none (supervisorTakes n p s) :=
  .ite h (.ite (closeCycle_inStep h _ _) (setSup_inStep h .rfl))

theorem phase_takeGap (v : Supervisor) (first count : Nat) : (v.takeGap first count).phase = v.phase := by
  have blinds (xs : List Nat) (m : Nat) (v : Supervisor) : (xs.foldl (fun v k => v.closeBlind (m + k)) v).phase = v.phase := by
    induction xs generalizing v with
    | nil => rfl
    | cons x xs ih => exact ih _
  unfold Supervisor.takeGap
  split
  exacts [rfl, blinds _ _ _, blinds _ _ _]

theorem handOver_inStep (h : InStep j k none s) (n : SecId) (d : Delivery) : InStep j k none (handOver n d s) := by
  cases d with
  | pair p => exact supervisorTakes_inStep (engineTakes_inStep h n p) n p
  | gap first count =>
    show InStep j k none ((engineTakesGap n s).modSec n fun x => { x with sup := x.sup.takeGap first count })
    exact (discardWindow_inStep h n .gap).modSec n ⟨rfl, rfl, .rfl, by rw [phase_takeGap]⟩

theorem deliver_inStep (h : InStep j k none s) (n : SecId) (ds : List Delivery) : InStep j k none (deliver n ds s) := by
  induction ds generalizing s with
  | nil => exact h
  | cons d ds ih => exact .ite (handOver_inStep h n d) (ih (handOver_inStep h n d))

/-! Status records and expiries (R115, R124, R142, R156) -/

theorem engineSeesStatus_inStep (h : InStep j k none s) (n : SecId) (c : CoilId) (r : StatusRecord) :
    InStep j k none (engineSeesStatus n c r s) := by
  unfold engineSeesStatus
  split
  · exact h
  · exact .ite (discardWindow_inStep h n _) (.ite (discardWindow_inStep h n _) h)

theorem moveEndCounts_inStep (h : InStep j k none s) (c : CoilId) : InStep j k none (moveEndCounts c s) := h.modSec _

theorem moveStopped_inStep (h : InStep j k none s) (c : CoilId) : InStep j k none (moveStopped c s) :=
  discardWindow_inStep (moveEndCounts_inStep (h.modCoil c _) c) _ _

theorem moveDone_inStep (h : InStep j k none s) (c : CoilId) : InStep j k none (moveDone c s) :=
  moveEndCounts_inStep ((h.modCoil c _).raise _ _) c

theorem acceptKind_inStep (h : InStep j k none s) (c : CoilId) (x : RecordKind) : InStep j k none (acceptKind c x s) := by
  unfold acceptKind
  split
  case h_2 => exact .ite (moveStopped_inStep h c) h
  all_goals exact h.modCoil c _

theorem testAcceptance_inStep (h : InStep j k none s) (c : CoilId) (e : Bool) : InStep j k none (testAcceptance c e s) := by
  unfold testAcceptance
  split
  · exact h
  · exact .ite (acceptKind_inStep (h.modCoil c _) _ _) h

theorem testFailure_inStep (h : InStep j k none s) (c : CoilId) (r : StatusRecord) :
    InStep j k none (testFailure c r s) := by
  rcases testFailure_cases c r s with e | ⟨x, e⟩ <;> rw [e]
  exacts [h, failCoil_inStep h c x]

theorem testArrival_inStep (h : InStep j k none s) (c : CoilId) (r : StatusRecord) :
    InStep j k none (testArrival c r s) := by
  unfold testArrival
  split
  · exact h
  · exact .ite (moveDone_inStep (h.modCoil c _) _) (h.modCoil c _)

theorem testConfirmed_inStep (h : InStep j k none s) (c : CoilId) (r : StatusRecord) :
    InStep j k none (testConfirmed c r s) := by
  unfold testConfirmed
  split
  · exact .ite (injectionConfirmed_inStep (h.modCoil c _) _) h
  · exact h

theorem testLost_inStep (h : InStep j k none s) (c : CoilId) (r : StatusRecord) : InStep j k none (testLost c r s) := by
  unfold testLost
  split
  · exact .ite h (injectionLost_inStep (h.modCoil c _) _)
  · exact h
  · exact h

theorem finishStatus_inStep (h : InStep j k none s) (c : CoilId) (r : StatusRecord) :
    InStep j k none (finishStatus c r s) :=
  .ite h (InStep.drive (testLost_inStep (testConfirmed_inStep (testArrival_inStep h c r) c r) c r) (takePending_frame c _))

theorem treatStatus_inStep (h : InStep j k none s) (c : CoilId) (r : StatusRecord) :
    InStep j k none (treatStatus c r s) := by
  have reported : InStep j k none (s.modCoil c fun x => x.report r s.ms) := h.modCoil c _
  exact .ite reported (finishStatus_inStep (testFailure_inStep (testAcceptance_inStep
    (engineSeesStatus_inStep (engineSeesStatus_inStep reported .s1 c r) .s2 c r) c _) c r) c r)

theorem acceptanceExpires_inStep (h : InStep j k none s) (c : CoilId) : InStep j k none (acceptanceExpires c s) := by
  unfold acceptanceExpires
  split
  · exact .ite (failCoil_inStep h _ _)
      (.ite (InStep.drive (h.modCoil c _) (offerRecord_frame _ _ _ _)) (h.drive (withdraw_frame c s)))
  · exact h

theorem failCoilIf_inStep (h : InStep j k none s) {b : Prop} [Decidable b] (c : CoilId) (e : EventKind) :
    InStep j k none (if b then failCoil c e s else s) := .ite (failCoil_inStep h c e) h

theorem staleExpires_inStep (h : InStep j k none s) : InStep j k none (staleExpires s) :=
  .ite (setUnsure_inStep (h.withCoupler (x := { s.coupler with staleTimer := none }) rfl) _) h

theorem holdOffRunsOut_inStep (h : InStep j k none s) (n : SecId) : InStep j k none (holdOffRunsOut n s) := by
  unfold holdOffRunsOut
  split
  · next due =>
    have stopped := h.setHoldOff n none
    have state : ((setHoldOff n none s).sec n).state = .recovery := by
      rw [setHoldOff, State.sec_modSec]
      simp only [holdOffDue, Bool.and_eq_true, beq_iff_eq] at due
      exact due.1
    exact enterStarting_inStep (stopped.but n) (stopped.joinsAs (by rw [state]; decide) (by decide))
  · exact h

/-! Streams (R24 to R31) -/

theorem voltageLost_inStep (h : InStep j k none s) (n : SecId) : InStep j k none (voltageLost n s) :=
  .ite h (haltSection_inStep (h.raise _ _) _ _)

theorem slotStateChanged_inStep (h : InStep j k none s) (i : Fin 24) (b : SlotBody) (was now : SlotState) :
    InStep j k none (slotStateChanged i b was now s) := by
  have lost {u : State} {x : Bool} (n : SecId) (h : InStep j k none u) :
      InStep j k none (if x then voltageLost n u else u) := .ite (voltageLost_inStep h n) h
  have told := h.raise .streamState (.slot i)
  cases b with
  | state x => exact .ite h (.ite (lost .s2 (lost .s1 told)) (reportAvailability_inStep (lost .s2 (lost .s1 told)) _))
  | sample bs => exact .ite h (lost .s2 (lost .s1 told))
  | drive c => exact .ite h (lost .s2 (lost .s1 told))

theorem InStep.setSlot (h : InStep j k w s) (i : Fin 24) (x : Slot) : InStep j k w (s.setSlot i x) :=
  h.of_secs rfl fun n => State.sec_setSlot s i x n

theorem ringTakes_inStep (h : InStep j k none s) (n : SecId) (x : ValueRecord) : InStep j k none (ringTakes n x s) := by
  have filed {r : Ring} : InStep j k none (s.modSec n fun y => { y with ring := r }) := h.modSec n
  have counted : InStep j k none (ringFiled n x s) := by
    unfold ringFiled
    dsimp only
    split
    · exact filed
    · exact .ite (filed.setSlot _ _) filed
    · exact .ite (filed.setSlot _ _) filed
  rw [ringTakes_eq]
  exact deliver_inStep counted n _

theorem distributeSample_inStep (bs : List Binding) (h : InStep j k none s) (i : Fin 24) (m : List Byte) :
    InStep j k none (bs.foldl (fun s b => distributeBinding i m b s) s) := by
  induction bs generalizing s with
  | nil => exact h
  | cons b bs ih =>
    have clamped : InStep j k none (clampCounted i m b s) := by rw [clampCounted_eq]; exact h.setSlot _ _
    have taken : InStep j k none (distributeBinding i m b s) := by
      rw [distributeBinding_eq]
      exact ringTakes_inStep clamped _ _
    exact ih taken

/-! What holds after every operation: the sections stand for the coupler position that is held -/

/-- The sections stand for the coupler position that is held, whichever it is. -/
def SectionsStand (s : State) : Prop := ∃ j, InStep j j none s

theorem distribute_sectionsStand (h : InStep j j none s) (i : Fin 24) (b : SlotBody) (p : Port) (m : List Byte) :
    SectionsStand (distribute i b p m s) := by
  cases b with
  | sample bs => exact ⟨j, distributeSample_inStep bs h i m⟩
  | state x =>
    unfold distribute
    dsimp only
    split
    exacts [couplerValue_inStep h _, ⟨j, h⟩]
  | drive c => exact ⟨j, treatStatus_inStep h c _⟩

theorem slotTakes_sectionsStand (h : InStep j j none s) (i : Fin 24) (b : SlotBody) (p : Port) (m : List Byte) :
    SectionsStand (slotTakes i b p m s) := by
  have told : InStep j j none (frameTold i b m s) := slotStateChanged_inStep (h.setSlot i _) i b _ _
  by_cases hd : Distributes i b m s
  · rw [slotTakes_distributes hd]; exact distribute_sectionsStand told i b p m
  · rw [slotTakes_told hd]; exact ⟨j, told⟩

theorem offerToMatcher_sectionsStand (h : InStep j j none s) (x : FrameClass) (p : Port) (m : List Byte) :
    SectionsStand (offerToMatcher x p m s) := by
  have uncounted : SectionsStand (countUnmatched p s) := ⟨j, h.modPort p _⟩
  unfold offerToMatcher
  split
  · exact uncounted
  · split
    · exact uncounted
    · split
      exacts [slotTakes_sectionsStand h _ _ p m, ⟨j, h⟩]

theorem handleGood_sectionsStand (h : InStep j j none s) (p : Port) (f : Frame) : SectionsStand (handleGood p f s) := by
  have relayed : InStep j j none (relay p f s) := h.link (relay_frame p f s)
  unfold handleGood
  dsimp only
  split
  case h_1 | h_2 => exact ⟨j, relayed⟩
  case h_3 => exact ⟨j, relayed.modPort p _⟩
  case h_7 =>
    split
    · unfold enqueueRequest
      split <;> exact ⟨j, h.of_secs rfl fun n => by cases n <;> rfl⟩
    · exact ⟨j, relayed⟩
  all_goals exact offerToMatcher_sectionsStand relayed _ p _

theorem receive_sectionsStand (h : InStep j j none s) (p : Port) (f : Frame) (lost : Bool) :
    SectionsStand (receive p f lost s) := by
  unfold receive
  dsimp only
  split
  exacts [⟨j, (h.modPort p _).modPort p _⟩, handleGood_sectionsStand (h.modPort p _) p f]

/-! Requests, commands and steps -/

theorem sectionStarted_inStep (h : InStep j k none s) (n : SecId)
    (allowed : mayEnable n s = true ∨ (s.sec n).state = .halted ∧ s.coilsSound n = true) :
    InStep j k none (enterStarting n s) := by
  have hn : (s.sec n).state ≠ .joined := by
    rcases allowed with enabled | ⟨halted, -⟩
    · simp only [mayEnable, Bool.and_eq_true, beq_iff_eq] at enabled
      obtain ⟨⟨⟨⟨⟨disabled, -⟩, -⟩, -⟩, -⟩, -⟩ := enabled
      rw [disabled]; decide
    · rw [halted]; decide
  exact enterStarting_inStep (h.but n) (h.joinsAs hn (by decide))

theorem writeSlot_inStep (h : InStep j k none s) (i : Fin 24) (d : Option SlotDef) : InStep j k none (writeSlot i d s) := by
  have told : InStep j k none (if (s.slot i).state = .active then s.setSlot i (Slot.fresh d)
      else raise .streamState (.slot i) (s.setSlot i (Slot.fresh d))) :=
    (h.setSlot i (Slot.fresh d)).link (raise_setSlot_cases _ _)
  have written : InStep j k none (slotWritten i d s) :=
    (told.modCoil .c1 fun x => x.rebind .c1 i d).modCoil .c2 fun x => x.rebind .c2 i d
  rw [writeSlot_eq]
  exact rewriteCoupler_inStep written _ _

theorem enableSlot_inStep (h : InStep j k none s) (i : Fin 24) : InStep j k none (enableSlot i s) := by
  have enabled : InStep j k none (slotEnabled i s) := (h.setSlot i _).link (slotEnabled_frame i s)
  rw [enableSlot_eq]
  exact .ite (reportAvailability_inStep enabled true) enabled

theorem writeNominal_inStep (h : InStep j k none s) (q : Nominal) : InStep j k none (writeNominal q s) := by
  refine h.keep (by rw [writeNominal_kept]) fun n => ?_
  rw [sec_writeNominal]
  exact ⟨rfl, rfl, .rfl, .rfl⟩

/-- A state whose sections and coupler record are those of power-on or RESET_PART. -/
theorem InStep.initial (opened : s.coupler.held = .open)
    (hs : ∀ n, ∃ y x, s.sec n = Section.initial y x) : InStep .open .open none s := by
  have state (n : SecId) : (s.sec n).state = .disabled := by
    obtain ⟨y, x, e⟩ := hs n
    rw [e]; rfl
  refine ⟨fun n => ?_, opened, fun n _ => ?_, fun n => ?_⟩
  · rw [state n]
    exact iff_of_false nofun fun e => nomatch e.2
  · obtain ⟨y, x, e⟩ := hs n
    rw [e]; exact engineFits_off rfl rfl
  · have one : s.sec1.state = .disabled := state .s1
    have two : s.sec2.state = .disabled := state .s2
    obtain ⟨y, x, e⟩ := hs n
    rw [e]
    refine iff_of_true rfl ?_
    cases n <;> simp [State.supervised, one, two, SecState.active]

theorem resetPart_inStep (s : State) : InStep .open .open none (resetPart s) :=
  .initial (by rw [(resetPart_frame s).coupler]; rfl) fun n => by
    rw [(resetPart_frame s).sec n]
    cases n <;> exact ⟨_, _, rfl⟩

theorem RequestActs.sectionsStand (acts : RequestActs s t) (h : InStep j j none s) : SectionsStand t := by
  have same {t : State} (held : t.coupler.held = s.coupler.held) (one : t.sec1 = s.sec1) (two : t.sec2 = s.sec2) :
      SectionsStand t :=
    ⟨j, h.of_secs held fun n => by cases n; exacts [one, two]⟩
  cases acts with
  | nothing => exact ⟨j, h⟩
  | slotWritten i d => exact ⟨j, writeSlot_inStep h i d⟩
  | masksWritten => exact same rfl rfl rfl
  | slotEnabled i => exact ⟨j, enableSlot_inStep h i⟩
  | tableWritten c => exact ⟨j, h.modCoil c _⟩
  | sectionSet n => exact ⟨j, h.modSec n⟩
  | coilSet c => exact ⟨j, h.modCoil c _⟩
  | globalsSet b => exact ⟨j, (writeNominal_inStep h (globalsOf b).nominal).of_secs rfl fun n => by cases n <;> rfl⟩
  | liveSet b => exact same rfl rfl rfl
  | stateRead => exact ⟨j, h.keep rfl fun n => by cases n <;> exact ⟨rfl, rfl, .rfl, .rfl⟩⟩
  | eventsRead => exact same rfl rfl rfl
  | summaryRead => exact same rfl rfl rfl
  | portRead p => exact ⟨j, h.modPort p _⟩
  | slotRead i => exact ⟨j, h.setSlot i _⟩
  | sectionStarted n allowed => exact ⟨j, sectionStarted_inStep h n allowed⟩
  | sectionDisabled n => exact ⟨j, disableSection_inStep h n⟩
  | frozen z n => exact ⟨j, setInhibit_inStep h n rfl⟩
  | coilReleased c => exact ⟨j, h.modCoil c _⟩
  | coilMoved c p => exact ⟨j, .ite h (h.drive (requestMove_frame c p .manual s))⟩
  | reset => exact ⟨.open, resetPart_inStep s⟩

theorem CommandActs.sectionsStand (acts : CommandActs s t) (h : InStep j j none s) : SectionsStand t := by
  cases acts with
  | nothing => exact ⟨j, h⟩
  | received p f lost => exact receive_sectionsStand h p f lost
  | sent p => exact ⟨j, h.modPort p _⟩
  | linkLost p => exact ⟨j, .ite ((h.modPort p _).raise _ _) h⟩
  | linkRestored p => exact ⟨j, h.modPort p _⟩
  | heldOff n => exact ⟨j, holdOffRunsOut_inStep h n⟩
  | acceptance c => exact ⟨j, acceptanceExpires_inStep h c⟩
  | confirmation c => exact ⟨j, failCoilIf_inStep h c _⟩
  | moveLimit c => exact ⟨j, failCoilIf_inStep h c _⟩
  | silence c => exact ⟨j, failCoilIf_inStep h c _⟩
  | stale => exact ⟨j, staleExpires_inStep h⟩
  | reasserted =>
    unfold alarmReasserts
    split <;> exact ⟨j, h.of_secs rfl fun n => by cases n <;> rfl⟩
  | answered r x acts =>
    obtain ⟨j', answered⟩ := acts.sectionsStand h
    refine ⟨j', answered.of_secs ?_ fun n => ?_⟩ <;> rw [answer_frame]
    cases n <;> rfl

theorem StepActs.sectionsStand (acts : StepActs s t) (h : InStep j j none s) : SectionsStand t := by
  cases acts with
  | nothing => exact ⟨j, h⟩
  | ticked => exact ⟨j, h.of_secs rfl fun n => by cases n <;> rfl⟩
  | acted _ acts =>
    obtain ⟨j', acted⟩ := acts.sectionsStand h
    exact ⟨j', acted.drive (conclude_frame _)⟩
  | restarted straps la lb => exact ⟨.open, .initial rfl fun n => by cases n <;> exact ⟨_, _, rfl⟩⟩
  | linkReported p => exact ⟨j, h.modPort p _⟩
  | resetHeld => exact ⟨j, h.of_secs rfl fun n => by cases n <;> rfl⟩
  | supplyLost => exact ⟨j, h.of_secs rfl fun n => by cases n <;> rfl⟩

/-- Settles O57: a change of section state has both supervisors follow and finds or leaves the engine as the state asks; the
coupler alone makes section 2 JOINED or lets it go, each time with the position it takes. -/
theorem stepKeepsSections : Obligations.StepKeepsSections := by
  intro s t join engines supervisors ht
  obtain ⟨q, acts⟩ := step_acts ht
  have before : InStep s.coupler.held s.coupler.held none { s with pending := q } :=
    (InStep.of_invariants join engines supervisors).of_secs rfl fun n => by cases n <;> rfl
  obtain ⟨j, after⟩ := acts.sectionsStand before
  exact after.invariants

end Sys2Proof.Machine

/-! ### The grade of a window (R67) -/

namespace Sys2Proof.Machine

variable {ts : List (Nat × Nat)} {h g k : Nat} {d : Int}

/-- A grade with this level, less the hysteresis `h` and not below 0, is reached by D (R67). -/
abbrev Reaches (h : Nat) (d : Int) (kt : Nat × Nat) : Prop := (((kt.2 - h) * (kt.2 - h) : Nat) : Int) ≤ d

/-- `g` is the largest grade reached of the list, or 0 where none is. -/
structure HighestReached (ts : List (Nat × Nat)) (h : Nat) (d : Int) (g : Nat) : Prop where
  reached : g = 0 ∨ ∃ kt ∈ ts, kt.1 = g ∧ Reaches h d kt
  highest : ∀ kt ∈ ts, Reaches h d kt → kt.1 ≤ g

theorem highestReached_nil (h : Nat) (d : Int) : HighestReached [] h d 0 := ⟨.inl rfl, by simp⟩

theorem HighestReached.append (hg : HighestReached ts h d g) (kt : Nat × Nat) :
    HighestReached (ts ++ [kt]) h d (if Reaches h d kt then max g kt.1 else g) := by
  have before : g = 0 ∨ ∃ x ∈ ts ++ [kt], x.1 = g ∧ Reaches h d x :=
    hg.reached.imp_right fun ⟨x, hx, e⟩ => ⟨x, List.mem_append_left _ hx, e⟩
  have bound {top : Nat} (hb : g ≤ top) (own : Reaches h d kt → kt.1 ≤ top) : ∀ x ∈ ts ++ [kt], Reaches h d x → x.1 ≤ top := by
    intro x hx hr
    rcases List.mem_append.1 hx with hx | hx
    · exact (hg.highest x hx hr).trans hb
    · obtain rfl := List.mem_singleton.1 hx
      exact own hr
  split
  · next hr =>
    refine ⟨?_, bound (le_max_left _ _) fun _ => le_max_right _ _⟩
    rcases max_choice g kt.1 with e | e <;> rw [e]
    · exact before
    · exact .inr ⟨kt, by simp, rfl, hr⟩
  · next hr => exact ⟨before, bound le_rfl fun own => absurd own hr⟩

theorem highestGrade_reached (ts : List (Nat × Nat)) (h : Nat) (d : Int) :
    HighestReached ts h d (highestGrade ts h d) := by
  induction ts using List.reverseRecOn with
  | nil => exact highestReached_nil h d
  | append_singleton ts kt ih =>
    have appended := ih.append kt
    unfold highestGrade at appended ⊢
    rwa [List.foldl_append]

/-- The thresholds are the levels of the grades 1 to 7. -/
theorem mem_thresholds {x : SectionSettings} {kt : Nat × Nat} :
    kt ∈ x.thresholds ↔ ∃ k, 1 ≤ k ∧ k ≤ 7 ∧ kt = (k, x.level k) := by
  constructor
  · intro h
    simp only [SectionSettings.thresholds, List.mem_cons, List.not_mem_nil, or_false] at h
    rcases h with rfl | rfl | rfl | rfl | rfl | rfl | rfl <;> exact ⟨_, by decide, by decide, rfl⟩
  · rintro ⟨k, h1, h7, rfl⟩
    interval_cases k <;> simp [SectionSettings.thresholds, SectionSettings.level]

theorem gradeOf_up (x : SectionSettings) (h : g ≤ highestGrade x.thresholds 0 d) :
    gradeOf x g d = highestGrade x.thresholds 0 d := if_pos h

theorem gradeOf_held (x : SectionSettings) (h : highestGrade x.thresholds 0 d < g) :
    gradeOf x g d = highestGrade (x.thresholds.filter fun kt => kt.1 ≤ g) x.hysteresis d := if_neg (Nat.not_le.2 h)

/-- Settles O17: both grades are the highest reached of their thresholds, those of the lower one being held to `g`. -/
theorem gradeRule : Obligations.GradeRule := by
  intro x g d hg reaches holds
  obtain ⟨upReached, upHighest⟩ := highestGrade_reached x.thresholds 0 d
  obtain ⟨downReached, downHighest⟩ := highestGrade_reached (x.thresholds.filter fun kt => kt.1 ≤ g) x.hysteresis d
  refine ⟨highestGrade x.thresholds 0 d, ?_, ?_, fun k h1 h7 hk => ?_, gradeOf_up x, fun below => ?_⟩
  · rcases upReached with e | ⟨kt, hkt, e, -⟩
    · omega
    · obtain ⟨k, -, h7, rfl⟩ := mem_thresholds.1 hkt
      exact e ▸ h7
  · refine upReached.imp_right fun ⟨kt, hkt, e, hr⟩ => ?_
    obtain ⟨k, -, -, rfl⟩ := mem_thresholds.1 hkt
    exact e ▸ hr
  · exact upHighest (k, x.level k) (mem_thresholds.2 ⟨k, h1, h7, rfl⟩) hk
  · rw [gradeOf_held x below]
    have held {kt : Nat × Nat} : kt ∈ x.thresholds.filter (fun kt => kt.1 ≤ g) ↔ kt ∈ x.thresholds ∧ kt.1 ≤ g := by
      simp
    refine ⟨?_, ?_, fun k h1 hk hr => ?_⟩
    · rcases downReached with e | ⟨kt, hkt, e, -⟩
      · omega
      · exact e ▸ (held.1 hkt).2
    · refine downReached.imp_right fun ⟨kt, hkt, e, hr⟩ => ?_
      obtain ⟨k, -, -, rfl⟩ := mem_thresholds.1 (held.1 hkt).1
      exact e ▸ hr
    · exact downHighest (k, x.level k) (held.2 ⟨mem_thresholds.2 ⟨k, h1, hk.trans hg, rfl⟩, hk⟩) hr

end Sys2Proof.Machine

/-! ### Arrival ends a move (R58, R97, R116, R117) -/

namespace Sys2Proof.Machine

variable {s : State} {c : CoilId} {r : StatusRecord} {m : Move}

theorem arrived_iff {tol : Nat} : m.arrived tol r = true ↔ m.accepted.isSome = true ∧ r.motion = .still
    ∧ posDiff r.pos m.target ≤ tol ∧ (posDiff m.target m.start ≤ tol ∨ m.movingSeen = true) := by
  simp [Move.arrived, and_assoc]

/-- A move after a record, with the mark of a drive seen MOVING (R116). -/
def Move.marked (m : Move) (r : StatusRecord) : Move := { m with movingSeen := m.movingSeen || r.motion == .moving }

def moveMarked (c : CoilId) (m : Move) (r : StatusRecord) (s : State) : State :=
  s.modCoil c fun k => { k with move := some (m.marked r) }

theorem testArrival_move (hm : (s.coil c).move = some m) (r : StatusRecord) : testArrival c r s =
    if (m.marked r).arrived (s.coil c).settings.arrivalTolerance r = true then moveDone c (moveMarked c m r s)
    else moveMarked c m r s := by
  simp only [testArrival, hm, State.coil_modCoil]
  rfl

theorem driver_of_coupler {t : State} (h : t.coupler = s.coupler) (c : CoilId) : t.driver c = s.driver c := by
  unfold State.driver State.joined
  rw [h]

theorem coil_moveDone (c : CoilId) (s : State) :
    (moveDone c s).coil c = { s.coil c with move := none, moveTimer := none, pendStop := false } := by
  unfold moveDone moveEndCounts clearMove
  rw [State.coil_modSec, coil_raise, State.coil_modCoil]

/-- The end of a move tells the section that drives the coil (R58, R97). -/
theorem sec_moveDone (c : CoilId) (s : State) : (moveDone c s).sec (s.driver c) = { s.sec (s.driver c) with
    counter := 0
    engine := { (s.sec (s.driver c)).engine with settle := (s.sec (s.driver c)).settings.settleBoundaries } } := by
  have driver : (raise .moveDone (.coil c) (clearMove c s)).driver c = s.driver c :=
    driver_of_coupler (by rw [(raise_frame _ _ _).coupler, clearMove, State.modCoil_coupler]) c
  unfold moveDone moveEndCounts
  rw [driver, State.sec_modSec, (raise_frame _ _ _).sec, clearMove, State.sec_modCoil]

theorem mem_summary_moveDone (c : CoilId) (s : State) : .moveDone ∈ (moveDone c s).events.summary := by
  unfold moveDone moveEndCounts
  rw [State.modSec_events]
  exact mem_summary_raise _ _ _

/-- Settles O25: the record marks the move, and then either ends it or leaves it. -/
theorem arrivalEndsMove : Obligations.ArrivalEndsMove := by
  intro c r s m hm t seen tol here
  have tests : t = if (m.marked r).arrived tol r = true then moveDone c (moveMarked c m r s) else moveMarked c m r s :=
    testArrival_move hm r
  have arrives : (m.marked r).arrived tol r = true ↔ here := arrived_iff
  refine ⟨fun now => ?_, fun short => tests.trans (if_neg (mt arrives.1 short))⟩
  have driver : (moveMarked c m r s).driver c = s.driver c := driver_of_coupler (State.modCoil_coupler s c _) c
  have told := sec_moveDone c (moveMarked c m r s)
  rw [driver, moveMarked, State.sec_modCoil] at told
  rw [tests, if_pos (arrives.2 now), coil_moveDone, moveMarked, told]
  exact ⟨rfl, rfl, rfl, mem_summary_moveDone _ _, rfl, rfl⟩

end Sys2Proof.Machine

/-! ### Writes of section and coil settings (R50, R128, R150, R172, R175) -/

namespace Sys2Proof.Machine

variable {s : State} {r : Request} {b : List Byte} {n : SecId} {c : CoilId} {k : Nat}

/-- The first failing check is named (R172). -/
theorem firstFailing_append {before rest : List (Nat × Bool)} (good : ∀ f ∈ before, f.2 = true) :
    firstFailing (before ++ (k, false) :: rest) = some k := by
  induction before with
  | nil => exact firstFailing_cons_fail rfl k rest
  | cons f before ih =>
    exact (firstFailing_cons_pass (good f (by simp)) f.1 _).trans (ih fun g hg => good g (by simp [hg]))

/-- The locked settings of `x` are those in force, and the live ones may differ (11.4). -/
theorem withLive_eq_iff {x y : SectionSettings} : y.withLive x = x ↔ y =
    { x with detuningSet := y.detuningSet, deadband := y.deadband, decisionInterval := y.decisionInterval } := by
  constructor
  · intro h
    rw [← h]
    rfl
  · intro h
    rw [h]
    rfl

theorem secOf_eq_none {k : Nat} (h1 : k ≠ 1) (h2 : k ≠ 2) : secOf k = none := by
  unfold secOf
  split <;> simp_all

theorem coilOf_eq_none {k : Nat} (h1 : k ≠ 1) (h2 : k ≠ 2) : coilOf k = none := by
  unfold coilOf
  split <;> simp_all

theorem serveWriteSectionSettings_unknown (hb : b.length = 108) (hn : secOf (word b 0) = none) :
    serveWriteSectionSettings b s = unchanged s (.range 0 none) := by
  simp [serveWriteSectionSettings, hb, hn]

theorem serveWriteSectionSettings_refused (hb : b.length = 108) (hn : secOf (word b 0) = some n)
    (bad : firstFailing (sectionSettingsOf b).checks = some k) :
    serveWriteSectionSettings b s = unchanged s (.range k none) := by
  simp [serveWriteSectionSettings, hb, hn, bad]

theorem serveWriteSectionSettings_good (hb : b.length = 108) (hn : secOf (word b 0) = some n)
    (good : firstFailing (sectionSettingsOf b).checks = none) : serveWriteSectionSettings b s =
      if (s.sec n).state = .disabled ∨ (s.sec n).settings.withLive (sectionSettingsOf b) = sectionSettingsOf b then
        done (s.modSec n fun z => { z with settings := sectionSettingsOf b })
      else unchanged s .state := by
  simp only [serveWriteSectionSettings, hb, hn, good, ne_eq, not_true_eq_false, if_false]

theorem serveWriteCoilSettings_unknown (hb : b.length = 24) (hc : coilOf (word b 0) = none) :
    serveWriteCoilSettings b s = unchanged s (.range 0 none) := by
  simp [serveWriteCoilSettings, hb, hc]

theorem serveWriteCoilSettings_refused (hb : b.length = 24) (hc : coilOf (word b 0) = some c)
    (bad : firstFailing (coilSettingsOf b).checks = some k) :
    serveWriteCoilSettings b s = unchanged s (.range k none) := by
  simp [serveWriteCoilSettings, hb, hc, bad]

theorem serveWriteCoilSettings_good (hb : b.length = 24) (hc : coilOf (word b 0) = some c)
    (good : firstFailing (coilSettingsOf b).checks = none) : serveWriteCoilSettings b s =
      if (s.sec c.sec).state = .disabled ∨ (s.coil c).settings = coilSettingsOf b then
        done (s.modCoil c fun k => { k with settings := coilSettingsOf b })
      else unchanged s .state := by
  simp only [serveWriteCoilSettings, hb, hc, good, ne_eq, not_true_eq_false, if_false]

/-- Settles O41: the object is named first, then the first failing check, then the lock. -/
theorem writeSettingsLocks : Obligations.WriteSettingsLocks := by
  intro s r b
  have section_answers (h : Serving s 9 r b) {x : Served} (hx : serveWriteSectionSettings b s = x) :
      exec .writeSectionSettings s = .next (conclude (answer r x)) :=
    hx ▸ congrArg Host.Outcome.next (act_serving h _)
  have coil_answers (h : Serving s 11 r b) {x : Served} (hx : serveWriteCoilSettings b s = x) :
      exec .writeCoilSettings s = .next (conclude (answer r x)) :=
    hx ▸ congrArg Host.Outcome.next (act_serving h _)
  refine ⟨fun n h hb hn => ?_, fun c h hb hc => ?_, fun h1 h2 => ⟨fun h hb => ?_, fun h hb => ?_⟩⟩
  · have hs : secOf (word b 0) = some n := by rw [hn, secOf_number]
    refine ⟨fun before k rest fails good => ?_, fun pass => ?_⟩
    · exact section_answers h (serveWriteSectionSettings_refused hb hs (by rw [fails, firstFailing_append good]))
    · have good := serveWriteSectionSettings_good (s := s) hb hs (firstFailing_eq_none pass)
      refine ⟨fun free => section_answers h ?_, fun on differ => section_answers h ?_⟩
      · exact good.trans (if_pos (free.imp_right withLive_eq_iff.2))
      · exact good.trans (if_neg (not_or.2 ⟨on, mt withLive_eq_iff.1 differ⟩))
  · have hs : coilOf (word b 0) = some c := by rw [hc, coilOf_number]
    refine ⟨fun before k rest fails good => ?_, fun pass => ?_⟩
    · exact coil_answers h (serveWriteCoilSettings_refused hb hs (by rw [fails, firstFailing_append good]))
    · have good := serveWriteCoilSettings_good (s := s) hb hs (firstFailing_eq_none pass)
      refine ⟨fun free => coil_answers h (good.trans (if_pos free)), fun on differ => coil_answers h ?_⟩
      exact good.trans (if_neg (not_or.2 ⟨on, differ⟩))
  · exact section_answers h (serveWriteSectionSettings_unknown hb (secOf_eq_none h1 h2))
  · exact coil_answers h (serveWriteCoilSettings_unknown hb (coilOf_eq_none h1 h2))

end Sys2Proof.Machine

/-! ### A section that halts silences its drive (R111 to R113, R136) -/

namespace Sys2Proof.Machine

variable {s t u : State} {c d : CoilId} {n : SecId}

/-- An offered record touches the sends and the waiting records of its coil, and leaves which record is in flight (R7, R114). -/
theorem coil_offerRecord (c : CoilId) (b : Bool) (r : DriveRecord) (s : State) : ∃ f w a x,
    (offerRecord c b r s).coil c = { s.coil c with inFlight := f, waiting := w, acceptTimer := a, confirmTimer := x }
      ∧ f.map InFlight.record = (s.coil c).inFlight.map InFlight.record := by
  rcases offerRecord_cases c b r s with ⟨-, e⟩ | e <;> rw [e]
  · rw [coil_enterRecord]
    unfold Coil.sendMade
    split
    · split
      · exact ⟨_, _, _, _, rfl, rfl⟩
      · next f hf => exact ⟨_, _, _, _, rfl, by rw [hf]; rfl⟩
    · exact ⟨_, _, _, _, rfl, rfl⟩
  · rcases waitRecord_cases c { tracked := b, record := r, route := (s.coil c).route } (fun w => (s.coil c).waiting ++ [w]) s
      with ⟨q, -, e⟩ | ⟨-, e⟩ <;> rw [e, State.coil_modCoil]
    · rw [State.coil_modPort]
      exact ⟨_, _, _, _, rfl, rfl⟩
    · exact ⟨_, _, _, _, rfl, rfl⟩

/-- A tracked record that is formed stands in flight, and leaves the move and the pending work (R110, R113). -/
theorem coil_formTracked {b : Bool} (ht : (s.coil c).toggle = some b) (k : RecordKind) : ∃ g f w a x,
    (formTracked c k s).coil c =
        { s.coil c with toggle := g, inFlight := some f, waiting := w, acceptTimer := a, confirmTimer := x }
      ∧ f.record.kind = k := by
  simp only [formTracked, ht]
  obtain ⟨f, w, a, x, e, hf⟩ := coil_offerRecord c true { kind := k, toggle := !b } (s.modCoil c fun l =>
    { l with toggle := some !b, inFlight := some { record := { kind := k, toggle := !b }, sends := 0, lastSend := none } })
  rw [State.coil_modCoil] at e hf
  obtain ⟨f, rfl, hr⟩ := Option.map_eq_some_iff.1 hf
  exact ⟨_, f, w, a, x, e, by rw [hr]⟩

/-! Requests are still taken after other requests -/

theorem takesRequests_iff {k : Coil} : k.takesRequests = true ↔ k.failed = false
    ∧ (k.binding.isSome = true ∨ k.inFlight.isSome = true ∨ k.move.isSome = true) := by
  have state : k.takesRequests = true ↔ k.state ≠ .failed ∧ k.state ≠ .unbound := by
    simp only [Coil.takesRequests, Bool.and_eq_true, bne_iff_ne]
  rw [state]
  unfold Coil.state
  split
  · next failed => simp only [failed, ne_eq, not_true_eq_false, false_and, reduceCtorEq]
  · next failed =>
    split
    · next unbound =>
      simp only [Bool.and_eq_true, Option.isNone_iff_eq_none] at unbound
      obtain ⟨⟨binding, inFlight⟩, move⟩ := unbound
      simp [binding, inFlight, move]
    · next bound =>
      have held : k.binding.isSome = true ∨ k.inFlight.isSome = true ∨ k.move.isSome = true := by
        simpa [Option.isSome_iff_ne_none, or_iff_not_imp_left] using bound
      have notFailed : k.failed = false := by simpa using failed
      refine iff_of_true ?_ ⟨notFailed, held⟩
      split
      · decide
      · split
        · split <;> decide
        · decide

/-- A coil that had a record or a move in flight still has one. -/
def Coil.KeepsFlight (k k' : Coil) : Prop :=
  (k.inFlight.isSome = true → k'.inFlight.isSome = true) ∧ (k.move.isSome = true → k'.move.isSome = true)

theorem Coil.KeepsFlight.refl (k : Coil) : k.KeepsFlight k := ⟨id, id⟩

theorem Coil.KeepsFlight.trans {k l m : Coil} (h : k.KeepsFlight l) (h' : l.KeepsFlight m) : k.KeepsFlight m :=
  ⟨h'.1 ∘ h.1, h'.2 ∘ h.2⟩

theorem Coil.KeepsFlight.takesRequests {k k' : Coil} (h : k.KeepsFlight k') (same : k.agrees k')
    (takes : k.takesRequests = true) : k'.takesRequests = true := by
  obtain ⟨-, -, binding, failed, -⟩ := same
  rw [takesRequests_iff] at takes ⊢
  rw [binding, failed]
  exact takes.imp_right (Or.imp_right (Or.imp h.1 h.2))

theorem formTracked_keepsFlight (c : CoilId) (k : RecordKind) (s : State) :
    (s.coil c).KeepsFlight ((formTracked c k s).coil c) := by
  cases ht : (s.coil c).toggle with
  | none => simp only [formTracked, ht]; exact .refl _
  | some b =>
    obtain ⟨g, f, w, a, x, e, -⟩ := coil_formTracked ht k
    rw [e]
    exact ⟨fun _ => rfl, id⟩

/-- A change of the coil, and then a record formed. -/
theorem modCoil_formTracked_keepsFlight {f : Coil → Coil} (hf : (s.coil c).KeepsFlight (f (s.coil c))) (k : RecordKind) :
    (s.coil c).KeepsFlight ((formTracked c k (s.modCoil c f)).coil c) := by
  refine hf.trans ?_
  have formed := formTracked_keepsFlight c k (s.modCoil c f)
  rwa [State.coil_modCoil] at formed

theorem takeMove_keepsFlight (c : CoilId) (s : State) : (s.coil c).KeepsFlight ((takeMove c s).coil c) := by
  unfold takeMove
  dsimp only
  split
  · exact .refl _
  · split
    · split
      · exact modCoil_formTracked_keepsFlight ⟨id, fun _ => rfl⟩ _
      · rw [State.coil_modCoil]; exact ⟨id, id⟩
    · exact .refl _

theorem takePending_keepsFlight (c : CoilId) (s : State) : (s.coil c).KeepsFlight ((takePending c s).coil c) := by
  unfold takePending
  dsimp only
  split
  · split
    · exact modCoil_formTracked_keepsFlight ⟨id, id⟩ _
    · split
      · exact modCoil_formTracked_keepsFlight ⟨id, id⟩ _
      · split
        · exact modCoil_formTracked_keepsFlight ⟨id, id⟩ _
        · have taken := takeMove_keepsFlight c (s.modCoil c fun k => { k with pendInj := none })
          rw [State.coil_modCoil] at taken
          exact Coil.KeepsFlight.trans ⟨id, id⟩ taken
      · exact takeMove_keepsFlight c s
  · exact .refl _

theorem requestStop_keepsFlight (c : CoilId) (s : State) : (s.coil c).KeepsFlight ((requestStop c s).coil c) := by
  unfold requestStop
  split
  · have taken := takePending_keepsFlight c (s.modCoil c fun k =>
      { k with pendMove := none, pendStop := k.pendStop || k.move.isSome })
    rw [State.coil_modCoil] at taken
    exact Coil.KeepsFlight.trans ⟨id, id⟩ taken
  · exact .refl _

theorem requestStops_keepsFlight (cs : List CoilId) (c : CoilId) (s : State) :
    (s.coil c).KeepsFlight ((requestStops cs s).coil c) := by
  unfold requestStops
  induction cs generalizing s with
  | nil => exact .refl _
  | cons d cs ih =>
    refine Coil.KeepsFlight.trans ?_ (ih _)
    dsimp only
    split
    · by_cases hd : c = d
      · rw [hd]; exact requestStop_keepsFlight d s
      · rw [(requestStop_acts d s).others c hd]; exact .refl _
    · exact .refl _

theorem clearTargets_keepsFlight (cs : List CoilId) (c : CoilId) (s : State) :
    (s.coil c).KeepsFlight ((clearTargets cs s).coil c) := by
  rcases coil_clearTargets cs c s with e | e <;> rw [e] <;> exact ⟨id, id⟩

/-! The INJECT_OFF of an exit -/

/-- The INJECT_OFF of the coil is pending or in flight (R112, R113). -/
def Coil.Silent (k : Coil) : Prop := k.pendInj = some .off ∨ ∃ f, k.inFlight = some f ∧ f.record.kind = .injectOff

/-- A pending INJECT_OFF is taken, or a STOP goes before it, or it stays pending (R113). -/
theorem takePending_silent (h : (s.coil c).pendInj = some .off) : ((takePending c s).coil c).Silent := by
  have formed {f : Coil → Coil} (ht : (f (s.coil c)).toggle = (s.coil c).toggle) (free : (s.coil c).channelFree = true)
      (k : RecordKind) : ∃ g f' w a x, (formTracked c k (s.modCoil c f)).coil c =
        { f (s.coil c) with toggle := g, inFlight := some f', waiting := w, acceptTimer := a, confirmTimer := x }
      ∧ f'.record.kind = k := by
    simp only [Coil.channelFree, Bool.and_eq_true] at free
    obtain ⟨b, hb⟩ := Option.isSome_iff_exists.1 free.1.2
    have := coil_formTracked (s := s.modCoil c f) (c := c) (b := b) (by rw [State.coil_modCoil, ht, hb]) k
    rwa [State.coil_modCoil] at this
  unfold takePending
  dsimp only
  split
  · next free =>
    split
    · obtain ⟨g, f, w, a, x, e, -⟩ := formed (f := fun k => { k with pendStop := false }) rfl free .stop
      rw [e]
      exact .inl h
    · rw [h]
      obtain ⟨g, f, w, a, x, e, hf⟩ := formed (f := fun k => { k with pendInj := none }) rfl free .injectOff
      dsimp only
      rw [e]
      exact .inr ⟨f, rfl, hf⟩
  · exact .inl h

theorem requestInjection_silent (h : (s.coil c).takesRequests = true) : ((requestInjection c .off s).coil c).Silent := by
  unfold requestInjection
  rw [if_pos h]
  exact takePending_silent (by rw [State.coil_modCoil])

/-- The exit to FAULT or HALTED silences the drive of the section (R136). -/
theorem stopAndSilence_silenced (n : SecId) (s : State) : Silenced n s (stopAndSilence n s) := by
  intro c hc takes
  have cleared := clearTargets_acts (s.drives n) s
  have stopped := cleared.trans (requestStops_acts (s.drives n) _)
  have still := ((clearTargets_keepsFlight (s.drives n) c s).trans (requestStops_keepsFlight (s.drives n) c _)).takesRequests
    (stopped.coils c) takes
  have injector := (drives_of_coupler stopped.frame.coupler n).2.trans hc
  unfold stopAndSilence requestInjector
  simp only [injector]
  exact requestInjection_silent still

/-- The silencing is judged by the coil and the coupler as they were, and lasts while the coil stays as it is. -/
theorem Silenced.of_same {s' u' : State} (h : Silenced n s u) (coupler : s'.coupler = s.coupler)
    (before : ∀ c, s'.coil c = s.coil c) (after : ∀ c, u'.coil c = u.coil c) : Silenced n s' u' := by
  intro c hc takes
  rw [after]
  exact h c ((drives_of_coupler coupler n).2 ▸ hc) (before c ▸ takes)

theorem enterHalted_silenced (n : SecId) (cause : HaltCause) (s : State) : Silenced n s (enterHalted n cause s) := by
  have silenced := stopAndSilence_silenced n (haltedSections n cause s)
  have exits {u' : State} (after : ∀ c, u'.coil c = (stopAndSilence n (haltedSections n cause s)).coil c) : Silenced n s u' :=
    silenced.of_same (coupler_haltedSections n cause s).symm (fun c => (coil_haltedSections n cause s c).symm) after
  rcases enterHalted_cases n cause s with e | e <;> rw [e]
  exacts [exits fun _ => rfl, exits fun c => coil_raise _ _ _ c]

end Sys2Proof.Machine

/-! ### A window completes (R60 to R62, R72 to R75, R80 to R83) -/

namespace Sys2Proof.Machine

variable {s t u v : State} {n m : SecId} {w : Window} {f : Phasors} {q : RejectReason} {g : Engine} {r : Estimate}

/-- Beyond the sections, the ports and the event unit nothing has changed. -/
def WindowFrame (s t : State) : Prop :=
  t = { s with portA := t.portA, portB := t.portB, sec1 := t.sec1, sec2 := t.sec2, events := t.events }

namespace WindowFrame

theorem refl (s : State) : WindowFrame s s := rfl

theorem trans (h : WindowFrame s t) (h' : WindowFrame t u) : WindowFrame s u := by
  unfold WindowFrame at *; rw [h']; rw [h]

theorem modSec (s : State) (n : SecId) (f : Section → Section) : WindowFrame s (s.modSec n f) := by cases n <;> rfl

theorem raise (k : EventKind) (o : Obj) (s : State) : WindowFrame s (raise k o s) := by
  have raised := raise_frame k o s
  unfold LinkFrame at raised
  unfold WindowFrame
  rw [raised]

theorem setSectionState (n : SecId) (st : SecState) (s : State) : WindowFrame s (setSectionState n st s) :=
  (WindowFrame.modSec s n _).trans rfl

theorem coil (h : WindowFrame s t) (c : CoilId) : t.coil c = s.coil c := by rw [h]; cases c <;> rfl

theorem coupler (h : WindowFrame s t) : t.coupler = s.coupler := by rw [h]

theorem ms (h : WindowFrame s t) : t.ms = s.ms := by rw [h]

theorem agreeBeyondLinks (h : WindowFrame s t) :
    AgreeBeyondLinks { s with sec1 := t.sec1, sec2 := t.sec2, events := t.events } t := by
  unfold AgreeBeyondLinks
  rw [h]

end WindowFrame

/-- Section `n` has come so far with its completed window: its engine and its estimate record stand at `g` and `r`, and nothing
else has changed. -/
structure Completing (n : SecId) (g : Engine) (r : Estimate) (s v : State) : Prop where
  frame : WindowFrame s v
  events : v.events = s.events
  own : v.sec n = { s.sec n with engine := g, estimate := r }
  others : ∀ m, m ≠ n → v.sec m = s.sec m

theorem Completing.estimate (h : Completing n g r s v) (f : Estimate → Estimate) :
    Completing n g (f r) s (v.modSec n fun z => { z with estimate := f z.estimate }) where
  frame := h.frame.trans (.modSec v n _)
  events := (State.modSec_events v n _).trans h.events
  own := by rw [State.sec_modSec, h.own]
  others m hm := (State.sec_modSec_other v n m _ hm).trans (h.others m hm)

/-! Rejection (R62, R75, R82, R83) -/

/-- The estimate record of a rejected window (R82). -/
def Estimate.rejected (r : Estimate) (q : RejectReason) : Estimate := { r with run := min (r.run + 1) 255, reason := some q }

/-- A rejected window before its run of rejections is looked at. -/
def windowRejected (n : SecId) (w : Window) (f : Phasors) (q : RejectReason) (s : State) : State :=
  (raise .windowRejected (.busSection n) (s.modSec n fun x => { x with estimate := x.estimate.rejected q })).modSec n
    fun x => { x with engine := x.engine.reject (w.completed f (.rejected q)) }

theorem rejectWindow_eq (n : SecId) (w : Window) (f : Phasors) (q : RejectReason) (s : State) : rejectWindow n w f q s =
    let t := windowRejected n w f q s
    if (t.sec n).estimate.run = (t.sec n).settings.rejectLimit then
      haltSection n { kind := .measureLost, obj := .busSection n, time := t.ms } (raise .measureLost (.busSection n) t)
    else t := rfl

theorem windowRejected_frame (n : SecId) (w : Window) (f : Phasors) (q : RejectReason) (s : State) :
    WindowFrame s (windowRejected n w f q s) :=
  ((WindowFrame.modSec s n _).trans (.raise _ _ _)).trans (.modSec _ n _)

theorem sec_windowRejected (n : SecId) (w : Window) (f : Phasors) (q : RejectReason) (s : State) (m : SecId) :
    (windowRejected n w f q s).sec m = if m = n then { s.sec m with
      estimate := (s.sec m).estimate.rejected q, engine := (s.sec m).engine.reject (w.completed f (.rejected q)) }
    else s.sec m := by
  unfold windowRejected
  split
  · next hm => rw [hm, State.sec_modSec, (raise_frame _ _ _).sec, State.sec_modSec]
  · next hm => rw [State.sec_modSec_other _ _ _ _ hm, (raise_frame _ _ _).sec, State.sec_modSec_other _ _ _ _ hm]

theorem mem_summary_windowRejected (n : SecId) (w : Window) (f : Phasors) (q : RejectReason) (s : State) :
    .windowRejected ∈ (windowRejected n w f q s).events.summary := by
  unfold windowRejected
  rw [State.modSec_events]
  exact mem_summary_raise _ _ _

/-- What the loss of measurement makes of an active section (R83, R137). -/
theorem measureLost_halts {now : Time} (active : (s.sec n).state.active = true) :
    let cause : HaltCause := { kind := .measureLost, obj := .busSection n, time := now }
    let t := haltSection n cause (raise .measureLost (.busSection n) s)
    (t.sec n).state = .halted ∧ (t.sec n).entryTime = s.ms ∧ (t.sec n).engine.state = .off
      ∧ (t.sec n).lastHalt = some cause ∧ Silenced n s t := by
  intro cause t
  have raised := raise_frame .measureLost (.busSection n) s
  have halts : t = enterHalted n cause (raise .measureLost (.busSection n) s) :=
    haltSection_active (by rw [raised.sec]; exact active) cause
  obtain ⟨x, e⟩ := sec_haltedSections n n cause (raise .measureLost (.busSection n) s)
  rw [if_pos rfl, ← sec_enterHalted, ← halts] at e
  rw [e]
  refine ⟨rfl, raised.ms, rfl, rfl, halts ▸ ?_⟩
  exact (enterHalted_silenced n cause _).of_same raised.coupler.symm (fun c => (raised.coil c).symm) fun _ => rfl

/-- A rejected window, from the engine `g` and the estimate record `r` that it has formed (R62, R75, R82, R83). -/
def Rejects (n : SecId) (g : Engine) (r : Estimate) (q : RejectReason) (s t : State) : Prop :=
  .windowRejected ∈ t.events.summary
    ∧ (min (r.run + 1) 255 ≠ (s.sec n).settings.rejectLimit →
      t.sec n = { s.sec n with estimate := r.rejected q, engine := g }
      ∧ (∀ m, m ≠ n → t.sec m = s.sec m) ∧ t.coil1 = s.coil1 ∧ t.coil2 = s.coil2
      ∧ AgreeBeyondLinks { s with sec1 := t.sec1, sec2 := t.sec2, events := t.events } t)
    ∧ (min (r.run + 1) 255 = (s.sec n).settings.rejectLimit →
      .measureLost ∈ t.events.summary ∧ (t.sec n).estimate = r.rejected q
      ∧ ((s.sec n).state.active = true →
        (t.sec n).state = .halted ∧ (t.sec n).entryTime = s.ms ∧ (t.sec n).engine.state = .off
          ∧ (t.sec n).lastHalt = some { kind := .measureLost, obj := .busSection n, time := s.ms } ∧ Silenced n s t))

/-- The rejected window is counted, and the run that reaches REJECT_LIMIT halts the section (R82, R83). -/
theorem rejectWindow_rejects (h : Completing n g r s v) (w : Window) (f : Phasors) (q : RejectReason) :
    Rejects n (g.reject (w.completed f (.rejected q))) r q s (rejectWindow n w f q v) := by
  have frame := h.frame.trans (windowRejected_frame n w f q v)
  have own := sec_windowRejected n w f q v n
  have others (m : SecId) (hm : m ≠ n) : (windowRejected n w f q v).sec m = s.sec m := by
    rw [sec_windowRejected, if_neg hm, h.others m hm]
  have summary := mem_summary_windowRejected n w f q v
  rw [if_pos rfl, h.own] at own
  have rejects := rejectWindow_eq n w f q v
  dsimp only at rejects
  generalize windowRejected n w f q v = t at frame own others summary rejects
  have run : (t.sec n).estimate.run = min (r.run + 1) 255 := by rw [own]; rfl
  have limit : (t.sec n).settings.rejectLimit = (s.sec n).settings.rejectLimit := by rw [own]
  rw [run, limit] at rejects
  have lost (k : EventKind) (hk : k ∈ (raise .measureLost (.busSection n) t).events.summary) (cause : HaltCause) :=
    (haltSection_sectionActs (P := True) (.refl (raise .measureLost (.busSection n) t)) n cause).summary k hk
  rw [rejects]
  refine ⟨?_, fun short => ?_, fun reached => ?_⟩
  · split
    exacts [lost _ (mem_summary_raise_of_mem summary _ _) _, summary]
  · rw [if_neg short]
    exact ⟨own, others, frame.coil .c1, frame.coil .c2, frame.agreeBeyondLinks⟩
  · rw [if_pos reached, frame.ms]
    refine ⟨lost _ (mem_summary_raise _ _ _) _, ?_, fun active => ?_⟩
    · rw [((haltSection_handsNothing n _ _).1 n).2, (raise_frame _ _ _).sec, own]
    · have halting : (t.sec n).state.active = true := by rw [own]; exact active
      obtain ⟨state, entry, off, cause, silenced⟩ := measureLost_halts (now := s.ms) halting
      exact ⟨state, entry.trans frame.ms, off, cause,
        silenced.of_same frame.coupler.symm (fun c => (frame.coil c).symm) fun _ => rfl⟩

/-! Acceptance (R55, R76 to R81) -/

/-- The kind of update that an accepted window with raw susceptance `x` brings to the estimate of section `n` (R76 to R78). -/
def State.updateKind (s : State) (n : SecId) (x : Int) : UpdateKind :=
  Machine.updateKind (s.sec n).settings (s.sec n).estimate.e x

/-- An accepted window in estimate, events and counts, before the section is told (R80, R81). -/
def windowTaken (n : SecId) (w : Window) (f : Phasors) (x : Int) (s : State) : State :=
  let y := (s.sec n).settings
  let k := s.updateKind n x
  let s := s.modSec n fun z => { z with estimate := z.estimate.accept y s.ms (reY f) x }
  let s := if k = .step then raise .stepDetected (.busSection n) s else s
  s.modSec n fun z => { z with engine := z.engine.accept y k (w.completed f .accepted) }

/-- An accepted window with the section told of a first estimate, before the target calculator takes it (R80). -/
def windowAccepted (n : SecId) (w : Window) (f : Phasors) (x : Int) (s : State) : State :=
  if s.updateKind n x = .first then firstEstimate n (windowTaken n w f x s) else windowTaken n w f x s

theorem acceptWindow_eq (n : SecId) (w : Window) (f : Phasors) (x : Int) (s : State) : acceptWindow n w f x s =
    targetTakes n (s.updateKind n x) (nextEstimate (s.sec n).settings (s.sec n).estimate.e x) (windowAccepted n w f x s) :=
  rfl

theorem windowTaken_frame (n : SecId) (w : Window) (f : Phasors) (x : Int) (s : State) :
    WindowFrame s (windowTaken n w f x s) := by
  unfold windowTaken
  dsimp only
  split
  · exact ((WindowFrame.modSec s n _).trans (.raise _ _ _)).trans (.modSec _ n _)
  · exact (WindowFrame.modSec s n _).trans (.modSec _ n _)

theorem sec_windowTaken (n : SecId) (w : Window) (f : Phasors) (x : Int) (s : State) (m : SecId) :
    (windowTaken n w f x s).sec m = if m = n then { s.sec n with
      estimate := (s.sec n).estimate.accept (s.sec n).settings s.ms (reY f) x
      engine := (s.sec n).engine.accept (s.sec n).settings (s.updateKind n x) (w.completed f .accepted) }
    else s.sec m := by
  have raised (m : SecId) (u : State) :
      (if s.updateKind n x = .step then raise .stepDetected (.busSection n) u else u).sec m = u.sec m := by
    split
    exacts [(raise_frame _ _ _).sec m, rfl]
  dsimp only [windowTaken]
  by_cases hm : m = n
  · rw [if_pos hm, hm, State.sec_modSec, raised n, State.sec_modSec]
  · rw [if_neg hm, State.sec_modSec_other _ _ _ _ hm, raised m, State.sec_modSec_other _ _ _ _ hm]

/-- An accepted window raises STEP_DETECTED at a step, and nothing otherwise (R80). -/
theorem events_windowTaken (n : SecId) (w : Window) (f : Phasors) (x : Int) (s : State) :
    let t := windowTaken n w f x s
    (s.updateKind n x = .step → .stepDetected ∈ t.events.summary) ∧ (s.updateKind n x ≠ .step → t.events = s.events) := by
  dsimp only [windowTaken]
  rw [State.modSec_events]
  refine ⟨fun step => ?_, fun other => ?_⟩
  · rw [if_pos step]
    exact mem_summary_raise _ _ _
  · rw [if_neg other, State.modSec_events]

theorem firstEstimate_windowFrame (n : SecId) (s : State) : WindowFrame s (firstEstimate n s) := by
  unfold firstEstimate
  split
  exacts [.setSectionState n _ s, .refl s]

theorem events_firstEstimate (n : SecId) (s : State) : (firstEstimate n s).events = s.events := by
  unfold firstEstimate
  split
  exacts [events_setSectionState n _ s, rfl]

/-- A first estimate takes MEASURING to TRACKING (R135); the supervisors follow. -/
theorem sec_firstEstimate (n m : SecId) (s : State) : ∃ v, (firstEstimate n s).sec m =
    if m = n ∧ (s.sec n).state = .measuring then { s.sec m with state := .tracking, entryTime := s.ms, sup := v }
    else { s.sec m with sup := v } := by
  unfold firstEstimate
  split
  · next measuring => simpa only [measuring, and_true] using sec_setSectionState n m .tracking s
  · next other => exact ⟨(s.sec m).sup, by rw [if_neg fun h => other h.2]⟩

theorem windowAccepted_frame (n : SecId) (w : Window) (f : Phasors) (x : Int) (s : State) :
    WindowFrame s (windowAccepted n w f x s) := by
  have taken := windowTaken_frame n w f x s
  unfold windowAccepted
  split
  exacts [taken.trans (firstEstimate_windowFrame n _), taken]

theorem events_windowAccepted (n : SecId) (w : Window) (f : Phasors) (x : Int) (s : State) :
    (windowAccepted n w f x s).events = (windowTaken n w f x s).events := by
  unfold windowAccepted
  split
  exacts [events_firstEstimate n _, rfl]

/-- The sections once the accepted window is told: only a first estimate in MEASURING changes the state (R80, R135). -/
theorem sec_windowAccepted (n : SecId) (w : Window) (f : Phasors) (x : Int) (s : State) (m : SecId) :
    let t := windowTaken n w f x s
    ∃ v, (windowAccepted n w f x s).sec m =
      if m = n ∧ s.updateKind n x = .first ∧ (s.sec n).state = .measuring then
        { t.sec m with state := .tracking, entryTime := s.ms, sup := v }
      else { t.sec m with sup := v } := by
  intro t
  have state : (t.sec n).state = (s.sec n).state := by rw [sec_windowTaken, if_pos rfl]
  have ms : t.ms = s.ms := (windowTaken_frame n w f x s).ms
  unfold windowAccepted
  split
  · next first => simpa only [first, true_and, state, ms] using sec_firstEstimate n m t
  · next other => exact ⟨(t.sec m).sup, by rw [if_neg fun h => other h.2.1]⟩

/-- An accepted window, from the engine `g` and the estimate record `r` that it has formed (R55, R76 to R81). -/
def Accepts (n : SecId) (g : Engine) (r : Estimate) (o : OutcomeRec) (re x : Int) (s t : State) : Prop :=
  let y := (s.sec n).settings
  let r' := r.accept y s.ms re x
  ∃ u e k, r'.e = some e ∧ r'.kind = some k ∧ t = targetTakes n k e u
    ∧ u.sec n = { s.sec n with
        estimate := r'
        engine := g.accept y k o
        state := if k = .first ∧ (s.sec n).state = .measuring then .tracking else (s.sec n).state
        entryTime := if k = .first ∧ (s.sec n).state = .measuring then s.ms else (s.sec n).entryTime
        sup := (u.sec n).sup }
    ∧ (∀ m, m ≠ n → (s.sec m).agreesButSup (u.sec m)) ∧ u.coil1 = s.coil1 ∧ u.coil2 = s.coil2
    ∧ (k = .step → .stepDetected ∈ u.events.summary) ∧ (k ≠ .step → u.events = s.events)
    ∧ AgreeBeyondLinks { s with sec1 := u.sec1, sec2 := u.sec2, events := u.events } u

/-- The accepted window goes into the estimate and the counts, and on to the target calculator (R80, R81). -/
theorem acceptWindow_accepts (h : Completing n g r s v) (w : Window) (f : Phasors) (x : Int) :
    Accepts n g r (w.completed f .accepted) (reY f) x s (acceptWindow n w f x v) := by
  have settings : (v.sec n).settings = (s.sec n).settings := by rw [h.own]
  have estimate : (v.sec n).estimate = r := by rw [h.own]
  have state : (v.sec n).state = (s.sec n).state := by rw [h.own]
  have kind : v.updateKind n x = updateKind (s.sec n).settings r.e x := by rw [State.updateKind, settings, estimate]
  have frame := h.frame.trans (windowAccepted_frame n w f x v)
  have told := sec_windowAccepted n w f x v
  have sections := sec_windowTaken n w f x v
  obtain ⟨step, other⟩ := events_windowTaken n w f x v
  rw [← events_windowAccepted] at step other
  rw [acceptWindow_eq, kind, settings, estimate]
  rw [kind] at step other
  refine ⟨_, _, _, rfl, rfl, rfl, ?_, fun m hm => ?_, frame.coil .c1, frame.coil .c2, step, fun hk => ?_,
    frame.agreeBeyondLinks⟩
  · obtain ⟨sup, e⟩ := told n
    rw [sections, if_pos rfl, kind, state, settings, estimate, h.frame.ms, h.own] at e
    rw [e]
    by_cases hf : updateKind (s.sec n).settings r.e x = .first ∧ (s.sec n).state = .measuring
    · simp only [hf, and_self, if_true]
    · simp only [hf, and_false, if_false]
  · obtain ⟨sup, e⟩ := told m
    rw [if_neg fun hn => hm hn.1, sections, if_neg hm, h.others m hm] at e
    rw [e]
    rfl
  · exact (other hk).trans h.events

/-! The last pair (R60, R61, R72 to R75) -/

/-- The engine of a completed window before its outcome: it waits with its first pair behind it, and is graded (R60, R67). -/
def Engine.ended (g : Engine) (f : Phasors) : Engine :=
  { g with state := .wait, firstPair := true, grade := f.grade, worst := min g.worst f.grade }

/-- What the estimate record notes of a window that passes R61 (R72, R73). -/
def Estimate.measured (r : Estimate) (f : Phasors) (bL : Option Int) : Estimate :=
  { r with lastReY := some (reY f), lastImY := some (imY f), lastBL := bL }

/-- A section with its completed window's grade (R60, R67). -/
def windowEnded (n : SecId) (f : Phasors) (s : State) : State :=
  s.modSec n fun z => { z with engine := z.engine.ended f }

/-- What a complete window of section `n` forms (R60, R67). -/
def windowPhasors (n : SecId) (w : Window) (s : State) : Phasors := w.phasors (s.sec n).settings (s.sec n).engine.grade

theorem completeWindow_eq (n : SecId) (w : Window) (s : State) : completeWindow n w s =
    let f := windowPhasors n w s
    match validity (s.sec n).settings w f with
    | some q => rejectWindow n w f q (windowEnded n f s)
    | none => estimateWindow n w f (windowEnded n f s) := rfl

theorem completeWindow_invalid (h : validity (s.sec n).settings w (windowPhasors n w s) = some q) :
    completeWindow n w s =
      rejectWindow n w (windowPhasors n w s) q (windowEnded n (windowPhasors n w s) s) := by
  rw [completeWindow_eq]
  simp only [h]

theorem completeWindow_valid (h : validity (s.sec n).settings w (windowPhasors n w s) = none) :
    completeWindow n w s =
      estimateWindow n w (windowPhasors n w s) (windowEnded n (windowPhasors n w s) s) := by
  rw [completeWindow_eq]
  simp only [h]

theorem windowEnded_completing (n : SecId) (f : Phasors) (s : State) :
    Completing n ((s.sec n).engine.ended f) (s.sec n).estimate s (windowEnded n f s) where
  frame := .modSec s n _
  events := State.modSec_events s n _
  own := State.sec_modSec s n _
  others m hm := State.sec_modSec_other s n m _ hm

theorem Completing.windowSusceptance (h : Completing n g r s v) (w : Window) :
    windowSusceptance w v = Machine.windowSusceptance w s := by
  have coil1 : v.coil1 = s.coil1 := h.frame.coil .c1
  have coil2 : v.coil2 = s.coil2 := h.frame.coil .c2
  rw [Machine.windowSusceptance, coil1, coil2]
  rfl

theorem windowSusceptance_none (h : recordedSusceptance s.coil1.table w.pos1 = none
    ∨ recordedSusceptance s.coil2.table w.pos2 = none) : windowSusceptance w s = none := by
  unfold windowSusceptance
  rcases h with h | h <;> simp [h]

theorem windowSusceptance_some {a b : Int} (ha : recordedSusceptance s.coil1.table w.pos1 = some a)
    (hb : recordedSusceptance s.coil2.table w.pos2 = some b) : windowSusceptance w s = some (a + b) := by
  simp only [windowSusceptance, ha, hb]

/-- A section whose completed window has its admittance and coil susceptance noted (R72, R73). -/
def windowMeasured (n : SecId) (f : Phasors) (bL : Option Int) (s : State) : State :=
  s.modSec n fun z => { z with estimate := z.estimate.measured f bL }

/-- A section whose completed window has its raw susceptance noted as well (R74). -/
def windowRaw (n : SecId) (f : Phasors) (b x : Int) (s : State) : State :=
  (windowMeasured n f (some b) s).modSec n fun z => { z with estimate := { z.estimate with lastX := some x } }

theorem estimateWindow_none (h : windowSusceptance w s = none) (n : SecId) (f : Phasors) :
    estimateWindow n w f s = rejectWindow n w f .estimateRange (windowMeasured n f none s) := by
  unfold estimateWindow
  rw [h]
  rfl

theorem estimateWindow_some {b : Int} (h : windowSusceptance w s = some b) (n : SecId) (f : Phasors) :
    let x := rawSusceptance w.j (imY f) b
    estimateWindow n w f s = if xInRange x then acceptWindow n w f x (windowRaw n f b x s)
      else rejectWindow n w f .estimateRange (windowRaw n f b x s) := by
  unfold estimateWindow
  rw [h]
  rfl

/-- A coil susceptance that does not exist rejects the window (R73, R75). -/
theorem estimateWindow_rejects_unknown (h : Completing n g r s v) (f : Phasors) (unknown : windowSusceptance w s = none) :
    Rejects n (g.reject (w.completed f (.rejected .estimateRange))) (r.measured f none) .estimateRange s
      (estimateWindow n w f v) := by
  rw [← h.windowSusceptance] at unknown
  rw [estimateWindow_none unknown]
  exact rejectWindow_rejects (h.estimate (·.measured f none)) w f .estimateRange

/-- With a coil susceptance the range of the raw susceptance decides (R74, R75). -/
theorem estimateWindow_known (h : Completing n g r s v) (f : Phasors) {b : Int} (known : windowSusceptance w s = some b) :
    let x := rawSusceptance w.j (imY f) b
    let r' := { r.measured f (some b) with lastX := some x }
    (x < 100 ∨ 1000000 < x →
      Rejects n (g.reject (w.completed f (.rejected .estimateRange))) r' .estimateRange s (estimateWindow n w f v))
    ∧ (100 ≤ x → x ≤ 1000000 →
      Accepts n g r' (w.completed f .accepted) (reY f) x s (estimateWindow n w f v)) := by
  intro x r'
  have formed : Completing n g r' s (windowRaw n f b x v) :=
    (h.estimate (·.measured f (some b))).estimate fun r => { r with lastX := some x }
  rw [← h.windowSusceptance] at known
  have eq := estimateWindow_some known n f
  refine ⟨fun outside => ?_, fun low high => ?_⟩
  · rw [eq, if_neg (by simp only [xInRange, Bool.and_eq_true, decide_eq_true_eq]; omega)]
    exact rejectWindow_rejects formed w f .estimateRange
  · rw [eq, if_pos (by simp only [xInRange, Bool.and_eq_true, decide_eq_true_eq]; omega)]
    exact acceptWindow_accepts formed w f x

/-- Settles O18: the checks of R61 and the range of R75 decide between `Rejects` and `Accepts`, from the section with its
window ended. -/
theorem windowCompletes : Obligations.WindowCompletes := by
  intro n w s
  have ended := windowEnded_completing n (windowPhasors n w s) s
  refine ⟨fun q why => ?_, fun why => ⟨fun unknown => ?_, fun a b ha hb => ?_⟩⟩
  · rw [completeWindow_invalid why]
    exact rejectWindow_rejects ended w _ q
  · rw [completeWindow_valid why]
    exact estimateWindow_rejects_unknown ended _ (windowSusceptance_none unknown)
  · rw [completeWindow_valid why]
    exact estimateWindow_known ended (windowPhasors n w s) (windowSusceptance_some ha hb)

end Sys2Proof.Machine

/-! ### The estimate an accepted window leaves (R75 to R79, R81) -/

namespace Sys2Proof.Machine

variable {y : SectionSettings} {e : Option Int} {e₀ x : Int}

/-- A rounded quotient lies between 0 and its dividend. -/
theorem roundDiv_between (a : Int) {b : Int} (hb : 1 ≤ b) : min 0 a ≤ roundDiv a b ∧ roundDiv a b ≤ max 0 a := by
  obtain ⟨low, high⟩ := roundDiv_close a b (by omega)
  rcases le_total 0 a with ha | ha
  · have nonneg : 0 ≤ roundDiv a b := by by_contra h; nlinarith
    have le : roundDiv a b ≤ a := by by_contra h; nlinarith
    omega
  · have nonpos : roundDiv a b ≤ 0 := by by_contra h; nlinarith
    have le : a ≤ roundDiv a b := by by_contra h; nlinarith
    omega

theorem updateKind_step (h : 0 < y.stepThreshold) (far : y.stepThreshold ≤ (x - e₀).natAbs) :
    updateKind y (some e₀) x = .step := if_pos ⟨h, far⟩

theorem updateKind_filtered (h : y.stepThreshold = 0 ∨ (x - e₀).natAbs < y.stepThreshold) :
    updateKind y (some e₀) x = .filtered := if_neg (by omega)

/-- FIRST and STEP take the raw value (R76, R77). -/
theorem nextEstimate_raw (h : updateKind y e x = .first ∨ updateKind y e x = .step) : nextEstimate y e x = x := by
  rcases h with h | h <;> rw [nextEstimate, h]

theorem nextEstimate_filtered (h : updateKind y (some e₀) x = .filtered) :
    nextEstimate y (some e₀) x = e₀ + roundDiv (x - e₀) (2 ^ y.filterDepth : Nat) := by
  rw [nextEstimate, h]; rfl

/-- A FILTERED estimate moves towards the raw value and not past it (R78). -/
theorem nextEstimate_filtered_between (h : updateKind y (some e₀) x = .filtered) :
    min e₀ x ≤ nextEstimate y (some e₀) x ∧ nextEstimate y (some e₀) x ≤ max e₀ x := by
  have between := roundDiv_between (x - e₀) (b := (2 ^ y.filterDepth : Nat)) (by exact_mod_cast Nat.one_le_two_pow)
  rw [nextEstimate_filtered h]
  omega

/-- What R75 lets in stays in range, whatever the kind of update (R76 to R78). -/
theorem nextEstimate_inRange (y : SectionSettings) (low : 100 ≤ x) (high : x ≤ 1000000)
    (he : ∀ e₀ ∈ e, 100 ≤ e₀ ∧ e₀ ≤ 1000000) : 100 ≤ nextEstimate y e x ∧ nextEstimate y e x ≤ 1000000 := by
  cases e with
  | none => rw [nextEstimate_raw (.inl rfl)]; exact ⟨low, high⟩
  | some e₀ =>
    obtain ⟨before, after⟩ := he e₀ rfl
    cases hk : updateKind y (some e₀) x with
    | first => rw [nextEstimate_raw (.inl hk)]; exact ⟨low, high⟩
    | step => rw [nextEstimate_raw (.inr hk)]; exact ⟨low, high⟩
    | filtered =>
      have between := nextEstimate_filtered_between hk
      omega

/-- Settles O19: the kind of update decides the value, and a filter step stays between the estimate and the raw value. -/
theorem acceptedEstimate : Obligations.AcceptedEstimate := by
  intro y r now re x low high before
  obtain ⟨least, most⟩ := nextEstimate_inRange y low high before
  refine ⟨nextEstimate y r.e x, rfl, least, most, rfl, rfl, rfl, rfl, rfl, ?_, rfl, rfl, rfl, rfl, rfl, fun absent => ?_,
    fun e₀ present => ⟨fun on far => ?_, fun near => ?_⟩⟩
  · simp [Estimate.accept]
  · rw [absent]
    exact ⟨nextEstimate_raw (.inl rfl), congrArg (fun e => some (updateKind y e x)) absent⟩
  · have kind := updateKind_step on far
    rw [present]
    exact ⟨nextEstimate_raw (.inr kind), by rw [← kind, ← present]; rfl⟩
  · have kind := updateKind_filtered near
    rw [present]
    exact ⟨by rw [← kind, ← present]; rfl, nextEstimate_filtered kind, nextEstimate_filtered_between kind⟩

end Sys2Proof.Machine

/-! ### Every step keeps settings, tables and estimates in their ranges (R50, R75, R78, R89, R150, R172, R176)

The settings are written by requests alone. The estimates are followed through the operations of sections, coils and coupler:
a completed window alone gives one a new value, and every other operation leaves or clears it. -/

namespace Sys2Proof.Machine

variable {s t u : State} {P : Prop} {n : SecId} {c : CoilId} {i : Fin 24}

/-! The settings (R50, R89, R150, R176) -/

/-- What WRITE_SECTION_SETTINGS, WRITE_COIL_SETTINGS, WRITE_COIL_TABLE and WRITE_GLOBAL set is as it was. -/
structure SettingsKept (s t : State) : Prop where
  secs : ∀ n, (t.sec n).settings = (s.sec n).settings
  coils : ∀ c, (t.coil c).settings = (s.coil c).settings ∧ (t.coil c).table = (s.coil c).table
  share : t.share = s.share
  timeout : t.couplerTimeout = s.couplerTimeout

namespace SettingsKept

theorem legal (h : SettingsKept s t) (hs : SettingsLegal s) : SettingsLegal t := by
  obtain ⟨secs, coils, tables, share, low, high⟩ := hs
  refine ⟨fun n => ?_, fun c => ?_, fun c => ?_, ?_, ?_, ?_⟩
  · rw [h.secs]; exact secs n
  · rw [(h.coils c).1]; exact coils c
  · rw [(h.coils c).2]; exact tables c
  · rw [h.share]; exact share
  · rw [h.timeout]; exact low
  · rw [h.timeout]; exact high

theorem of_parts (sec1 : t.sec1.settings = s.sec1.settings) (sec2 : t.sec2.settings = s.sec2.settings)
    (coil1 : t.coil1.settings = s.coil1.settings ∧ t.coil1.table = s.coil1.table)
    (coil2 : t.coil2.settings = s.coil2.settings ∧ t.coil2.table = s.coil2.table) (share : t.share = s.share)
    (timeout : t.couplerTimeout = s.couplerTimeout) : SettingsKept s t where
  secs n := by cases n; exacts [sec1, sec2]
  coils c := by cases c; exacts [coil1, coil2]
  share := share
  timeout := timeout

end SettingsKept

theorem DistributionActs.settingsKept (h : DistributionActs i s t) : SettingsKept s t where
  secs := h.settings
  coils c := by
    obtain ⟨table, settings, -⟩ := h.coils c
    exact ⟨settings, table⟩
  share := by rw [h.frame]
  timeout := by rw [h.frame]

theorem SectionActs.settingsKept (h : SectionActs P s t) : SettingsKept s t where
  secs := h.settings
  coils c := by
    obtain ⟨table, settings, -⟩ := h.coils c
    exact ⟨settings, table⟩
  share := by rw [h.frame]
  timeout := by rw [h.frame]

/-! What the writes have checked (R89, R90, R172) -/

theorem passes_of_firstFailing {cs : List (Nat × Bool)} (h : firstFailing cs = none) : ∀ k ∈ cs, k.2 = true := by
  simpa [firstFailing] using h

theorem pointAllowed_iff {q : Option TablePoint} {p : TablePoint} :
    pointAllowed q p = true ↔ (1 ≤ p.b ∧ p.b ≤ 1000000) ∧ ∀ x ∈ q, x.pos < p.pos ∧ x.b < p.b := by
  cases q <;> simp [pointAllowed, within]

/-- Points that pass R90 after a point before them lie in range and rise strictly from it on. -/
theorem points_rise {q : Option TablePoint} {ps : List TablePoint} {k : Nat} (h : badPoint k q ps = none) :
    (∀ p ∈ ps, 1 ≤ p.b ∧ p.b ≤ 1000000) ∧ (∀ x ∈ q, ∀ p ∈ ps, x.pos < p.pos ∧ x.b < p.b)
      ∧ ps.Pairwise fun p p' => p.pos < p'.pos ∧ p.b < p'.b := by
  induction ps generalizing q k with
  | nil => simp
  | cons p ps ih =>
    unfold badPoint at h
    split at h
    · next allowed =>
      obtain ⟨range, before⟩ := pointAllowed_iff.1 allowed
      obtain ⟨ranges, above, rising⟩ := ih h
      have first := above p rfl
      refine ⟨List.forall_mem_cons.2 ⟨range, ranges⟩, fun x hx => List.forall_mem_cons.2 ⟨before x hx, fun p' hp' => ?_⟩,
        List.pairwise_cons.2 ⟨first, rising⟩⟩
      obtain ⟨pos, sus⟩ := before x hx
      obtain ⟨pos', sus'⟩ := first p' hp'
      exact ⟨pos.trans pos', sus.trans sus'⟩
    · cases h

/-- A table that WRITE_COIL_TABLE takes is legal: its positions are 16 bits each (R89; notes/assumptions/20.md). -/
theorem tablePoints_legal {b : List Byte} {m : Nat} (count : within 2 32 m = true)
    (good : badPoint 0 none (tablePoints b m) = none) : tableLegal (tablePoints b m) := by
  obtain ⟨least, most⟩ := within_iff.1 count
  obtain ⟨ranges, -, rising⟩ := points_rise good
  have length : (tablePoints b m).length = m := by simp [tablePoints]
  refine .inr ⟨by omega, by omega, fun p hp => ⟨?_, ranges p hp⟩, rising⟩
  obtain ⟨k, -, rfl⟩ := List.mem_map.1 hp
  exact Nat.le_of_lt_succ (Nat.mod_lt _ (by decide))

theorem globalChecks_pass {b : List Byte} (good : firstFailing (globalChecks b) = none) :
    word b 1 ≤ 256 ∧ 50 ≤ word b 2 ∧ word b 2 ≤ 60000 := by
  have pass := passes_of_firstFailing good
  rw [globalChecks_eq] at pass
  have share : within 0 256 (word b 1) = true := pass (2, within 0 256 (word b 1)) (by simp)
  have timeout : within 50 60000 (word b 2) = true := pass (3, within 50 60000 (word b 2)) (by simp)
  exact ⟨(within_iff.1 share).2, within_iff.1 timeout⟩

/-! The estimates (R75, R78, R85): changes that no estimate sees, and changes of one section -/

namespace EstimatesInRange

theorem keep (h : EstimatesInRange s) (same : ∀ n, (t.sec n).estimate = (s.sec n).estimate) : EstimatesInRange t :=
  fun n => by rw [same]; exact h n

theorem of_secs (h : EstimatesInRange s) (one : t.sec1.estimate = s.sec1.estimate)
    (two : t.sec2.estimate = s.sec2.estimate) : EstimatesInRange t := h.keep fun n => by cases n; exacts [one, two]

theorem drive (h : EstimatesInRange s) (frame : DriveFrame s t) : EstimatesInRange t := h.keep fun n => by rw [frame.sec]

theorem link (h : EstimatesInRange s) (frame : LinkFrame s t) : EstimatesInRange t := h.keep fun n => by rw [frame.sec]

theorem raise (h : EstimatesInRange s) (k : EventKind) (o : Obj) : EstimatesInRange (raise k o s) := h.link (raise_frame k o s)

theorem modCoil (h : EstimatesInRange s) (c : CoilId) (f : Coil → Coil) : EstimatesInRange (s.modCoil c f) :=
  h.drive (.modCoil s c f)

theorem handsNothing (h : EstimatesInRange s) (acts : HandsNothingOn s t) : EstimatesInRange t := by
  obtain ⟨secs, -⟩ := acts
  exact h.keep fun n => (secs n).2

/-- A change of one section, which keeps its estimate in range; by default it leaves the estimate. -/
theorem modSec (h : EstimatesInRange s) (n : SecId) {f : Section → Section}
    (inRange : (∀ e ∈ (s.sec n).estimate.e, 100 ≤ e ∧ e ≤ 1000000) →
      ∀ e ∈ (f (s.sec n)).estimate.e, 100 ≤ e ∧ e ≤ 1000000 := by exact id) : EstimatesInRange (s.modSec n f) := fun m => by
  by_cases hm : m = n
  · rw [hm, State.sec_modSec]; exact inRange (h n)
  · rw [State.sec_modSec_other _ _ _ _ hm]; exact h m

theorem ite {b : Prop} [Decidable b] (h : EstimatesInRange t) (h' : EstimatesInRange u) :
    EstimatesInRange (if b then t else u) := by
  split
  exacts [h, h']

theorem setSectionState (h : EstimatesInRange s) (n : SecId) (st : SecState) : EstimatesInRange (setSectionState n st s) :=
  h.keep fun m => by
    obtain ⟨v, e⟩ := sec_setSectionState n m st s
    rw [e]
    split <;> rfl

theorem turnOff (h : EstimatesInRange s) (n : SecId) (cause : DiscardCause) : EstimatesInRange (turnEngineOff n cause s) :=
  h.modSec n

theorem setHoldOff (h : EstimatesInRange s) (n : SecId) (x : Option Nat) : EstimatesInRange (setHoldOff n x s) := h.modSec n

theorem resetEstimate (h : EstimatesInRange s) (n : SecId) : EstimatesInRange (resetEstimate n s) := h.modSec n fun _ => nofun

end EstimatesInRange

/-! Section states, faults and coils (R125, R133 to R141, R156) -/

theorem enterStarting_estimates (h : EstimatesInRange s) (n : SecId) : EstimatesInRange (enterStarting n s) := by
  have started : EstimatesInRange (startedSections n s) := (h.setSectionState n .starting).modSec n fun _ => nofun
  exact started.drive (enterStarting_acts n s).frame

theorem enterFault_estimates (h : EstimatesInRange s) (n : SecId) : EstimatesInRange (enterFault n s) :=
  (((h.turnOff n .state).setSectionState n .fault).setHoldOff n none).drive (stopAndSilence_acts n _).frame

theorem disableSection_estimates (h : EstimatesInRange s) (n : SecId) : EstimatesInRange (disableSection n s) := by
  have silent (cs : List CoilId) := (((h.turnOff n .state).setSectionState n .disabled).drive
    (clearTargets_frame cs _)).drive (requestInjector_frame n .off _)
  unfold disableSection
  split
  · exact h
  · exact h.of_secs rfl rfl
  all_goals exact .ite ((silent _).raise _ _) (silent _)

theorem failCoil_estimates (h : EstimatesInRange s) (c : CoilId) (k : EventKind) : EstimatesInRange (failCoil c k s) :=
  h.keep fun n => by
    obtain ⟨-, estimate, -⟩ := (failCoil_haltActs c k s).kept n
    rw [estimate, sec_failedAlone]

theorem faultConfirmed_estimates (h : EstimatesInRange s) (m : SecId) : EstimatesInRange (faultConfirmed m s) := by
  unfold faultConfirmed
  dsimp only
  split
  case h_1 | h_2 | h_3 | h_4 => exact enterFault_estimates h _
  all_goals exact h

theorem enterRecovery_estimates (h : EstimatesInRange s) (n : SecId) : EstimatesInRange (enterRecovery n s) := by
  have entered := (h.setSectionState n .recovery).setHoldOff n (some 0)
  exact .ite (enterStarting_estimates entered n) entered

theorem faultCleared_estimates (h : EstimatesInRange s) (m : SecId) : EstimatesInRange (faultCleared m s) :=
  .ite (enterRecovery_estimates h _) h

theorem injectionConfirmed_estimates (h : EstimatesInRange s) (n : SecId) : EstimatesInRange (injectionConfirmed n s) :=
  .ite ((h.setSectionState n .measuring).modSec n) h

theorem injectionLost_estimates (h : EstimatesInRange s) (n : SecId) : EstimatesInRange (injectionLost n s) :=
  .ite (enterStarting_estimates ((h.raise _ _).drive (clearTargets_frame _ _)) n) h

theorem firstEstimate_estimates (h : EstimatesInRange s) (n : SecId) : EstimatesInRange (firstEstimate n s) :=
  .ite (h.setSectionState n .tracking) h

theorem setInhibit_estimates (h : EstimatesInRange s) (n : SecId) (x : Inhibit) : EstimatesInRange (setInhibit n x s) := by
  have set : EstimatesInRange (s.modSec n fun y => { y with inhibit := x }) := h.modSec n
  exact .ite (set.drive (clearTargets_frame _ _)) set

/-! The coupler (R142, R145, R146) -/

theorem discardWindow_estimates (h : EstimatesInRange s) (n : SecId) (cause : DiscardCause) :
    EstimatesInRange (discardWindow n cause s) := h.modSec n

theorem couplerChangeSec1_estimates (h : EstimatesInRange s) (cs : List CoilId) :
    EstimatesInRange (couplerChangeSec1 cs s) := by
  have changed := (discardWindow_estimates h .s1 .coupler).resetEstimate .s1
  exact .ite ((changed.setSectionState .s1 .measuring).drive (clearTargets_frame cs _)) changed

theorem joinSection2_estimates (h : EstimatesInRange s) : EstimatesInRange (joinSection2 s) := by
  have told : EstimatesInRange { s with ret2 := returnFor s.sec2.state } := h.of_secs rfl rfl
  have joined := ((told.turnOff .s2 .coupler).setSectionState .s2 .joined).setHoldOff .s2 none
  have asked {t : State} (ht : EstimatesInRange t) : EstimatesInRange (resetEstimate .s2 (requestInjection .c2 .off t)) :=
    (ht.drive (requestInjection_frame .c2 .off t)).resetEstimate .s2
  exact asked (.ite joined (joined.modCoil .c2 _))

theorem setHeld_estimates (h : EstimatesInRange s) (x : Held) : EstimatesInRange (setHeld x s) := h.of_secs rfl rfl

theorem tellEngines_estimates (h : EstimatesInRange s) : EstimatesInRange (tellEngines s) := h.of_secs rfl rfl

theorem couplerCloses_estimates (h : EstimatesInRange s) : EstimatesInRange (couplerCloses s) := by
  have held := setHeld_estimates (h.raise .couplerChange (.busSection .s1)) .closed
  have closed := couplerChangeSec1_estimates (joinSection2_estimates held) [.c1]
  exact tellEngines_estimates (.ite (closed.raise _ _) (.ite (enterFault_estimates closed .s1) closed))

theorem leaveJoined_estimates (h : EstimatesInRange s) : EstimatesInRange (leaveJoined s) := by
  have closed {t : State} (ht : EstimatesInRange t) : EstimatesInRange { t with ret2 := .disabled } := ht.of_secs rfl rfl
  unfold leaveJoined
  refine closed ?_
  split
  · exact .ite (h.setSectionState _ _) (enterStarting_estimates h _)
  · exact h.setSectionState _ _
  · exact h.setSectionState _ _

theorem couplerOpens_estimates (h : EstimatesInRange s) : EstimatesInRange (couplerOpens s) := by
  have changed := couplerChangeSec1_estimates (h.raise .couplerChange (.busSection .s1)) [.c1, .c2]
  exact tellEngines_estimates (leaveJoined_estimates
    (setHeld_estimates (.ite (enterRecovery_estimates changed .s1) changed) .open))

theorem couplerValue_estimates (h : EstimatesInRange s) (v : CouplerValue) : EstimatesInRange (couplerValue v s) := by
  have noted : EstimatesInRange { s with coupler :=
      { s.coupler with last := some (v, s.ms), staleTimer := some (s.ms + span s.couplerTimeout) } } := h.of_secs rfl rfl
  unfold couplerValue
  refine EstimatesInRange.handsNothing ?_ (setUnsure_handsNothing _ _)
  split
  · exact couplerCloses_estimates noted
  · exact couplerOpens_estimates noted
  · exact noted

/-! Windows and decisions (R61, R72 to R83, R95 to R105) -/

theorem takeDecision_estimates (h : EstimatesInRange s) (n : SecId) (g : Trigger) (e : Int) :
    EstimatesInRange (takeDecision n g e s) := by
  have decided {x : Decision} : EstimatesInRange (s.modSec n fun y => { y with decision := some x }) := h.modSec n
  exact .ite decided (EstimatesInRange.drive (EstimatesInRange.drive (.ite (decided.raise _ _) decided)
    (handOn_frame .c1 _ _ _)) (handOn_frame .c2 _ _ _))

theorem targetTakes_estimates (h : EstimatesInRange s) (n : SecId) (k : UpdateKind) (e : Int) :
    EstimatesInRange (targetTakes n k e s) := by
  have counted {x : Nat} : EstimatesInRange (s.modSec n fun y => { y with counter := x }) := h.modSec n
  cases k with
  | first => exact takeDecision_estimates counted _ _ _
  | step => exact takeDecision_estimates counted _ _ _
  | filtered => exact .ite (takeDecision_estimates counted _ _ _) counted

theorem rejectWindow_estimates (h : EstimatesInRange s) (n : SecId) (w : Window) (f : Phasors) (why : RejectReason) :
    EstimatesInRange (rejectWindow n w f why s) := by
  have counted : EstimatesInRange (s.modSec n fun x => { x with estimate := x.estimate.rejected why }) := h.modSec n
  have rejected : EstimatesInRange (windowRejected n w f why s) := (counted.raise _ _).modSec n
  exact .ite ((rejected.raise _ _).handsNothing (haltSection_handsNothing n _ _)) rejected

/-- The one operation that gives an estimate a new value: from a raw susceptance within the range of R75 (R76 to R78). -/
theorem acceptWindow_estimates (h : EstimatesInRange s) (n : SecId) (w : Window) (f : Phasors) {x : Int} (low : 100 ≤ x)
    (high : x ≤ 1000000) : EstimatesInRange (acceptWindow n w f x s) := by
  have taken : EstimatesInRange (windowTaken n w f x s) := fun m => by
    rw [sec_windowTaken]
    split
    · rintro _ ⟨⟩
      exact nextEstimate_inRange _ low high (h n)
    · exact h m
  have told : EstimatesInRange (windowAccepted n w f x s) := .ite (firstEstimate_estimates taken n) taken
  exact targetTakes_estimates told n _ _

/-- A raw susceptance outside the range of R75 rejects the window. -/
theorem estimateWindow_estimates (h : EstimatesInRange s) (n : SecId) (w : Window) (f : Phasors) :
    EstimatesInRange (estimateWindow n w f s) := by
  have measured (bL : Option Int) : EstimatesInRange (windowMeasured n f bL s) := h.modSec n
  cases hb : windowSusceptance w s with
  | none => rw [estimateWindow_none hb]; exact rejectWindow_estimates (measured none) n w f _
  | some b =>
    have raw (x : Int) : EstimatesInRange (windowRaw n f b x s) := (measured (some b)).modSec n
    rw [estimateWindow_some hb]
    split
    · next within =>
      simp only [xInRange, Bool.and_eq_true, decide_eq_true_eq] at within
      exact acceptWindow_estimates (raw _) n w f within.1 within.2
    · exact rejectWindow_estimates (raw _) n w f _

theorem completeWindow_estimates (h : EstimatesInRange s) (n : SecId) (w : Window) :
    EstimatesInRange (completeWindow n w s) := by
  have ended (f : Phasors) : EstimatesInRange (windowEnded n f s) := h.modSec n
  rw [completeWindow_eq]
  dsimp only
  split
  · exact rejectWindow_estimates (ended _) n w _ _
  · exact estimateWindow_estimates (ended _) n w _

theorem setEngine_estimates (h : EstimatesInRange s) (n : SecId) (g : Engine) : EstimatesInRange (s.setEngine n g) :=
  h.modSec n

theorem engineTakes_estimates (h : EstimatesInRange s) (n : SecId) (p : Pair) : EstimatesInRange (engineTakes n p s) := by
  unfold engineTakes
  dsimp only
  split
  · exact h
  · exact .ite (setEngine_estimates h n _) (.ite (.ite (setEngine_estimates h n _) (setEngine_estimates h n _)) h)
  · exact .ite (completeWindow_estimates h n _) (setEngine_estimates h n _)

/-! Supervision and deliveries (R39, R151 to R157) -/

theorem setSup_estimates (h : EstimatesInRange s) (n : SecId) (v : Supervisor) : EstimatesInRange (s.setSup n v) := h.modSec n

theorem confirmFault_estimates (h : EstimatesInRange s) (n : SecId) (x : Capture) : EstimatesInRange (confirmFault n x s) :=
  faultConfirmed_estimates (EstimatesInRange.raise (h.modSec n) _ _) n

theorem judgeWatch_estimates (h : EstimatesInRange s) (n : SecId) (x : Nat) (q : Int) :
    EstimatesInRange (judgeWatch n x q s) :=
  .ite (.ite (confirmFault_estimates h n _) (setSup_estimates h n _)) (setSup_estimates h n _)

theorem clearFault_estimates (h : EstimatesInRange s) (n : SecId) : EstimatesInRange (clearFault n s) :=
  faultCleared_estimates (EstimatesInRange.raise (h.modSec n) _ _) n

theorem judgeStanding_estimates (h : EstimatesInRange s) (n : SecId) (q : Int) : EstimatesInRange (judgeStanding n q s) :=
  .ite (.ite (clearFault_estimates (setSup_estimates h n _) n) (setSup_estimates h n _)) (setSup_estimates h n _)

theorem closeCycle_estimates (h : EstimatesInRange s) (n : SecId) (a : CycleAcc) : EstimatesInRange (closeCycle n a s) := by
  unfold closeCycle
  refine .ite (setSup_estimates h n _) ?_
  dsimp only
  split
  · exact judgeWatch_estimates (setSup_estimates h n _) n _ _
  · exact judgeStanding_estimates (setSup_estimates h n _) n _
  · exact setSup_estimates h n _

theorem supervisorTakes_estimates (h : EstimatesInRange s) (n : SecId) (p : Pair) :
    EstimatesInRange (supervisorTakes n p s) := .ite h (.ite (closeCycle_estimates h n _) (setSup_estimates h n _))

theorem handOver_estimates (h : EstimatesInRange s) (n : SecId) (d : Delivery) : EstimatesInRange (handOver n d s) := by
  cases d with
  | pair p => exact supervisorTakes_estimates (engineTakes_estimates h n p) n p
  | gap first count =>
    show EstimatesInRange ((engineTakesGap n s).modSec n fun x => { x with sup := x.sup.takeGap first count })
    exact (discardWindow_estimates h n .gap).modSec n

theorem deliver_estimates (h : EstimatesInRange s) (n : SecId) (ds : List Delivery) : EstimatesInRange (deliver n ds s) := by
  induction ds generalizing s with
  | nil => exact h
  | cons d ds ih => exact .ite (handOver_estimates h n d) (ih (handOver_estimates h n d))

/-! Status records and expiries (R115, R124, R142, R156) -/

theorem engineSeesStatus_estimates (h : EstimatesInRange s) (n : SecId) (c : CoilId) (r : StatusRecord) :
    EstimatesInRange (engineSeesStatus n c r s) := by
  unfold engineSeesStatus
  split
  · exact h
  · exact .ite (discardWindow_estimates h n _) (.ite (discardWindow_estimates h n _) h)

theorem moveEndCounts_estimates (h : EstimatesInRange s) (c : CoilId) : EstimatesInRange (moveEndCounts c s) := h.modSec _

theorem acceptKind_estimates (h : EstimatesInRange s) (c : CoilId) (k : RecordKind) :
    EstimatesInRange (acceptKind c k s) := by
  unfold acceptKind
  split
  case h_2 => exact .ite (discardWindow_estimates (moveEndCounts_estimates (h.modCoil c _) c) _ _) h
  all_goals exact h.modCoil c _

theorem testAcceptance_estimates (h : EstimatesInRange s) (c : CoilId) (e : Bool) :
    EstimatesInRange (testAcceptance c e s) := by
  unfold testAcceptance
  split
  · exact h
  · exact .ite (acceptKind_estimates (h.modCoil c _) c _) h

theorem testFailure_estimates (h : EstimatesInRange s) (c : CoilId) (r : StatusRecord) :
    EstimatesInRange (testFailure c r s) := by
  rcases testFailure_cases c r s with e | ⟨k, e⟩ <;> rw [e]
  exacts [h, failCoil_estimates h c k]

theorem testArrival_estimates (h : EstimatesInRange s) (c : CoilId) (r : StatusRecord) :
    EstimatesInRange (testArrival c r s) := by
  have arrived (f : Coil → Coil) : EstimatesInRange (moveDone c (s.modCoil c f)) :=
    moveEndCounts_estimates (((h.modCoil c f).modCoil c _).raise _ _) c
  unfold testArrival
  split
  · exact h
  · exact .ite (arrived _) (h.modCoil c _)

theorem testConfirmed_estimates (h : EstimatesInRange s) (c : CoilId) (r : StatusRecord) :
    EstimatesInRange (testConfirmed c r s) := by
  unfold testConfirmed
  split
  · exact .ite (injectionConfirmed_estimates (h.modCoil c _) _) h
  · exact h

theorem testLost_estimates (h : EstimatesInRange s) (c : CoilId) (r : StatusRecord) : EstimatesInRange (testLost c r s) := by
  unfold testLost
  split
  · exact .ite h (injectionLost_estimates (h.modCoil c _) _)
  · exact h
  · exact h

theorem finishStatus_estimates (h : EstimatesInRange s) (c : CoilId) (r : StatusRecord) :
    EstimatesInRange (finishStatus c r s) := by
  have tested := testLost_estimates (testConfirmed_estimates (testArrival_estimates h c r) c r) c r
  exact .ite h (tested.drive (takePending_frame c _))

theorem treatStatus_estimates (h : EstimatesInRange s) (c : CoilId) (r : StatusRecord) :
    EstimatesInRange (treatStatus c r s) := by
  have reported : EstimatesInRange (s.modCoil c fun x => x.report r s.ms) := h.modCoil c _
  have seen := engineSeesStatus_estimates (engineSeesStatus_estimates reported .s1 c r) .s2 c r
  exact .ite reported (finishStatus_estimates (testFailure_estimates (testAcceptance_estimates seen c _) c r) c r)

theorem acceptanceExpires_estimates (h : EstimatesInRange s) (c : CoilId) : EstimatesInRange (acceptanceExpires c s) := by
  unfold acceptanceExpires
  split
  · exact .ite (failCoil_estimates h c _)
      (.ite (EstimatesInRange.drive (h.modCoil c _) (offerRecord_frame _ _ _ _)) (h.drive (withdraw_frame c s)))
  · exact h

theorem staleExpires_estimates (h : EstimatesInRange s) : EstimatesInRange (staleExpires s) := by
  have stopped : EstimatesInRange { s with coupler := { s.coupler with staleTimer := none } } := h.of_secs rfl rfl
  exact .ite (stopped.handsNothing (setUnsure_handsNothing _ _)) h

theorem holdOffRunsOut_estimates (h : EstimatesInRange s) (n : SecId) : EstimatesInRange (holdOffRunsOut n s) :=
  .ite (enterStarting_estimates (h.setHoldOff n none) n) h

/-! Settings, tables and estimates together -/

/-- What O59 asks of a state. -/
def ValuesInRange (s : State) : Prop := SettingsLegal s ∧ EstimatesInRange s

/-- What O59 asks of a coil: its settings pass the rule of their write, and its table is legal. -/
def Coil.Legal (k : Coil) : Prop := (∀ x ∈ k.settings.checks, x.2 = true) ∧ tableLegal k.table

namespace ValuesInRange

theorem acts (h : ValuesInRange s) (ha : SectionActs P s t) (he : EstimatesInRange s → EstimatesInRange t) :
    ValuesInRange t := ⟨ha.settingsKept.legal h.1, he h.2⟩

theorem handsNothing (h : ValuesInRange s) (ha : SectionActs P s t) (hn : HandsNothingOn s t) : ValuesInRange t :=
  h.acts ha (·.handsNothing hn)

theorem drive (h : ValuesInRange s) (ha : DriveActs s t) : ValuesInRange t :=
  h.acts (SectionActs.drive (P := False) (.refl s) ha) (·.drive ha.frame)

/-- A change beyond sections, coils, SHARE and coupler timeout. -/
theorem of_same (h : ValuesInRange s) (secs : ∀ n, t.sec n = s.sec n) (coils : ∀ c, t.coil c = s.coil c)
    (share : t.share = s.share) (timeout : t.couplerTimeout = s.couplerTimeout) : ValuesInRange t where
  left := SettingsKept.legal ⟨fun n => by rw [secs], fun c => by rw [coils]; exact ⟨rfl, rfl⟩, share, timeout⟩ h.1
  right := h.2.keep fun n => by rw [secs]

theorem of_parts (h : ValuesInRange s) (sec1 : t.sec1 = s.sec1) (sec2 : t.sec2 = s.sec2) (coil1 : t.coil1 = s.coil1)
    (coil2 : t.coil2 = s.coil2) (share : t.share = s.share) (timeout : t.couplerTimeout = s.couplerTimeout) :
    ValuesInRange t :=
  h.of_same (fun n => by cases n; exacts [sec1, sec2]) (fun c => by cases c; exacts [coil1, coil2]) share timeout

theorem link (h : ValuesInRange s) (frame : LinkFrame s t) : ValuesInRange t :=
  h.of_same frame.sec frame.coil (by rw [frame]) (by rw [frame])

theorem modPort (h : ValuesInRange s) (p : Port) (f : PortState → PortState) : ValuesInRange (s.modPort p f) :=
  h.link (.modPort s p f)

theorem setSlot (h : ValuesInRange s) (i : Fin 24) (x : Slot) : ValuesInRange (s.setSlot i x) :=
  h.of_same (State.sec_setSlot s i x) (State.coil_setSlot s i x) rfl rfl

/-- A change of one coil, which leaves it legal; by default it leaves settings and table. -/
theorem modCoil (h : ValuesInRange s) (c : CoilId) {f : Coil → Coil}
    (legal : (s.coil c).Legal → (f (s.coil c)).Legal := by exact id) : ValuesInRange (s.modCoil c f) := by
  obtain ⟨⟨secs, coils, tables, share, low, high⟩, estimates⟩ := h
  have all (d : CoilId) : ((s.modCoil c f).coil d).Legal := by
    by_cases hd : d = c
    · rw [hd, State.coil_modCoil]; exact legal ⟨coils c, tables c⟩
    · rw [State.coil_modCoil_other _ _ _ _ hd]; exact ⟨coils d, tables d⟩
  refine ⟨⟨fun n => ?_, fun d => (all d).1, fun d => (all d).2, ?_, ?_, ?_⟩, estimates.modCoil c f⟩
  · rw [State.sec_modCoil]; exact secs n
  · rw [State.modCoil_share]; exact share
  · rw [State.modCoil_couplerTimeout]; exact low
  · rw [State.modCoil_couplerTimeout]; exact high

/-- A section takes settings that pass the rule of their write. -/
theorem setSettings (h : ValuesInRange s) (n : SecId) {x : SectionSettings} (legal : ∀ k ∈ x.checks, k.2 = true) :
    ValuesInRange (s.modSec n fun z => { z with settings := x }) := by
  obtain ⟨⟨secs, coils, tables, share, low, high⟩, estimates⟩ := h
  refine ⟨⟨fun m => ?_, fun c => ?_, fun c => ?_, ?_, ?_, ?_⟩, estimates.modSec n⟩
  · by_cases hm : m = n
    · rw [hm, State.sec_modSec]; exact legal
    · rw [State.sec_modSec_other _ _ _ _ hm]; exact secs m
  · rw [State.coil_modSec]; exact coils c
  · rw [State.coil_modSec]; exact tables c
  · rw [State.modSec_share]; exact share
  · rw [State.modSec_couplerTimeout]; exact low
  · rw [State.modSec_couplerTimeout]; exact high

end ValuesInRange

/-! Streams and receptions (R24 to R31) -/

theorem ringTakes_values (h : ValuesInRange s) (n : SecId) (x : ValueRecord) : ValuesInRange (ringTakes n x s) := by
  have filed : ValuesInRange (ringFiled n x s) :=
    ⟨(ringFiled_acts (.refl x.slot s) n rfl).settingsKept.legal h.1, h.2.keep fun k => by
      rw [sec_ringFiled]
      split <;> rfl⟩
  rw [ringTakes_eq]
  exact filed.acts (deliver_sectionActs (P := True) (fun _ => trivial) (.refl _) n _) (deliver_estimates · n _)

theorem distributeBinding_values (h : ValuesInRange s) (i : Fin 24) (m : List Byte) (b : Binding) :
    ValuesInRange (distributeBinding i m b s) := by
  have clamped : ValuesInRange (clampCounted i m b s) := by rw [clampCounted_eq]; exact h.setSlot i _
  rw [distributeBinding_eq]
  exact ringTakes_values clamped _ _

theorem distributeSample_values (bs : List Binding) (h : ValuesInRange s) (i : Fin 24) (m : List Byte) :
    ValuesInRange (bs.foldl (fun s b => distributeBinding i m b s) s) := by
  induction bs generalizing s with
  | nil => exact h
  | cons b bs ih => exact ih (distributeBinding_values h i m b)

theorem distribute_values (h : ValuesInRange s) (i : Fin 24) (b : SlotBody) (p : Port) (m : List Byte) :
    ValuesInRange (distribute i b p m s) := by
  cases b with
  | sample bs => exact distributeSample_values bs h i m
  | state k =>
    unfold distribute
    dsimp only
    split
    exacts [h.acts (couplerValue_sectionActs trivial (.refl s) _) (couplerValue_estimates · _), h]
  | drive c => exact h.acts (treatStatus_sectionActs trivial (.refl s) c _) (treatStatus_estimates · c _)

theorem slotTakes_values (h : ValuesInRange s) (i : Fin 24) (b : SlotBody) (p : Port) (m : List Byte) :
    ValuesInRange (slotTakes i b p m s) := by
  have told : ValuesInRange (frameTold i b m s) :=
    (h.setSlot i _).handsNothing (frameTold_acts i b m s) (slotStateChanged_handsNothing i b _ _ _)
  by_cases hd : Distributes i b m s
  · rw [slotTakes_distributes hd]; exact distribute_values told i b p m
  · rw [slotTakes_told hd]; exact told

theorem offerToMatcher_values (h : ValuesInRange s) (k : FrameClass) (p : Port) (m : List Byte) :
    ValuesInRange (offerToMatcher k p m s) := by
  have uncounted : ValuesInRange (countUnmatched p s) := h.modPort p _
  unfold offerToMatcher
  split
  · exact uncounted
  · split
    · exact uncounted
    · split
      exacts [slotTakes_values h _ _ p m, h]

theorem enqueueRequest_values (h : ValuesInRange s) (p : Port) (m : List Byte) : ValuesInRange (enqueueRequest p m s) := by
  unfold enqueueRequest
  split <;> exact h.of_parts rfl rfl rfl rfl rfl rfl

theorem handleGood_values (h : ValuesInRange s) (p : Port) (f : Frame) : ValuesInRange (handleGood p f s) := by
  have relayed := h.link (relay_frame p f s)
  unfold handleGood
  dsimp only
  split
  case h_1 | h_2 => exact relayed
  case h_3 => exact relayed.modPort p _
  case h_7 =>
    split
    exacts [enqueueRequest_values h p _, relayed]
  all_goals exact offerToMatcher_values relayed _ p _

theorem receive_values (h : ValuesInRange s) (p : Port) (f : Frame) (lost : Bool) : ValuesInRange (receive p f lost s) := by
  unfold receive
  dsimp only
  split
  exacts [(h.modPort p _).modPort p _, handleGood_values (h.modPort p _) p f]

/-! Requests (R16, R26, R91, R172, R175, R176, R178) -/

theorem rebind_legal {k : Coil} (h : k.Legal) (c : CoilId) (i : Fin 24) (d : Option SlotDef) : (k.rebind c i d).Legal := by
  unfold Coil.rebind
  split_ifs <;> exact h

theorem writeSlot_values (h : ValuesInRange s) (i : Fin 24) (d : Option SlotDef) : ValuesInRange (writeSlot i d s) := by
  have told : ValuesInRange (if (s.slot i).state = .active then s.setSlot i (Slot.fresh d)
      else raise .streamState (.slot i) (s.setSlot i (Slot.fresh d))) :=
    (h.setSlot i (Slot.fresh d)).link (raise_setSlot_cases _ _)
  have written : ValuesInRange (slotWritten i d s) :=
    (told.modCoil .c1 (rebind_legal · .c1 i d)).modCoil .c2 (rebind_legal · .c2 i d)
  have recorded (x : Coupler) : ValuesInRange { slotWritten i d s with coupler := x } :=
    written.of_parts rfl rfl rfl rfl rfl rfl
  rw [writeSlot_eq, rewriteCoupler_eq]
  exact (recorded _).handsNothing (setUnsure_sectionActs (P := False) (.refl _) _) (setUnsure_handsNothing _ _)

theorem enableSlot_values (h : ValuesInRange s) (i : Fin 24) : ValuesInRange (enableSlot i s) := by
  have enabled : ValuesInRange (slotEnabled i s) := (h.setSlot i _).link (slotEnabled_frame i s)
  rw [enableSlot_eq]
  split
  exacts [enabled.handsNothing (reportAvailability_sectionActs (P := False) (.refl _) _)
    (reportAvailability_handsNothing _ _), enabled]

/-- A write of the frequency resets both estimates (R85, R176). -/
theorem writeNominal_values (h : ValuesInRange s) (q : Nominal) : ValuesInRange (writeNominal q s) where
  left := by
    obtain ⟨-, -, -, coil1, coil2, -⟩ := writeNominal_reads q s
    refine SettingsKept.legal ⟨fun n => by rw [sec_writeNominal], fun c => ?_, by rw [writeNominal_kept],
      by rw [writeNominal_kept]⟩ h.1
    cases c
    · rw [State.coil, coil1]; exact ⟨rfl, rfl⟩
    · rw [State.coil, coil2]; exact ⟨rfl, rfl⟩
  right n := by rw [sec_writeNominal]; nofun

theorem writeLive_values (h : ValuesInRange s) {g : Globals} (share : g.share ≤ 256) : ValuesInRange (writeLive g s) := by
  obtain ⟨⟨secs, coils, tables, -, timeout⟩, estimates⟩ := h
  exact ⟨⟨fun n => by cases n; exacts [secs .s1, secs .s2], fun c => by cases c; exacts [coils .c1, coils .c2],
    fun c => by cases c; exacts [tables .c1, tables .c2], share, timeout⟩, estimates.of_secs rfl rfl⟩

theorem setTimeout_values (h : ValuesInRange s) {k : Nat} (timeout : 50 ≤ k ∧ k ≤ 60000) :
    ValuesInRange { s with couplerTimeout := k } := by
  obtain ⟨⟨secs, coils, tables, share, -⟩, estimates⟩ := h
  exact ⟨⟨fun n => by cases n; exacts [secs .s1, secs .s2], fun c => by cases c; exacts [coils .c1, coils .c2],
    fun c => by cases c; exacts [tables .c1, tables .c2], share, timeout⟩, estimates.of_secs rfl rfl⟩

/-- RESET_PART keeps settings and tables and resets both estimates (R86, R106, R130, R178). -/
theorem resetPart_values (h : ValuesInRange s) : ValuesInRange (resetPart s) := by
  have blocks : ValuesInRange (resetBlocks s) :=
    ⟨SettingsKept.legal (s := s) (.of_parts rfl rfl ⟨rfl, rfl⟩ ⟨rfl, rfl⟩ rfl rfl) h.1,
      fun n => by cases n <;> nofun⟩
  rw [resetPart_eq]
  exact ((((blocks.drive (resetOffered_acts s)).modPort .a _).modPort .b _).modCoil .c1).modCoil .c2

theorem RequestActs.values (acts : RequestActs s t) (h : ValuesInRange s) : ValuesInRange t := by
  cases acts with
  | nothing => exact h
  | slotWritten i d => exact writeSlot_values h i d
  | masksWritten => exact h.of_parts rfl rfl rfl rfl rfl rfl
  | slotEnabled i => exact enableSlot_values h i
  | tableWritten c b count good => exact h.modCoil c fun ⟨settings, _⟩ => ⟨settings, tablePoints_legal count good⟩
  | sectionSet n x good => exact h.setSettings n (passes_of_firstFailing good)
  | coilSet c x good => exact h.modCoil c fun ⟨_, table⟩ => ⟨passes_of_firstFailing good, table⟩
  | globalsSet b good =>
    obtain ⟨share, timeout⟩ := globalChecks_pass good
    exact writeLive_values (setTimeout_values (writeNominal_values h _) timeout) share
  | liveSet b good => exact writeLive_values h (globalChecks_pass good).1
  | stateRead =>
    exact ⟨SettingsKept.legal (s := s) (.of_parts rfl rfl ⟨rfl, rfl⟩ ⟨rfl, rfl⟩ rfl rfl) h.1, h.2.of_secs rfl rfl⟩
  | eventsRead => exact h.of_parts rfl rfl rfl rfl rfl rfl
  | summaryRead => exact h.of_parts rfl rfl rfl rfl rfl rfl
  | portRead p => exact h.modPort p _
  | slotRead i => exact h.setSlot i _
  | sectionStarted n => exact h.acts (enterStarting_sectionActs trivial (.refl s) n) (enterStarting_estimates · n)
  | sectionDisabled n => exact h.acts (disableSection_sectionActs (P := False) (.refl s) n) (disableSection_estimates · n)
  | frozen z n => exact h.acts (setInhibit_sectionActs (P := False) (.refl s) n _) (setInhibit_estimates · n _)
  | coilReleased c => exact h.modCoil c
  | coilMoved c p =>
    unfold manualMove
    split
    exacts [h, h.drive (requestMove_acts c p .manual s).toDrive]
  | reset => exact resetPart_values h

/-! Commands and steps -/

theorem failCoilIf_values (h : ValuesInRange s) {b : Prop} [Decidable b] (c : CoilId) (k : EventKind) :
    ValuesInRange (if b then failCoil c k s else s) := by
  split
  exacts [h.acts (failCoil_sectionActs (P := False) (.refl s) c k) (failCoil_estimates · c k), h]

theorem loseLink_values (h : ValuesInRange s) (p : Port) : ValuesInRange (loseLink p s) := by
  unfold loseLink
  split
  exacts [(h.modPort p _).link (raise_frame _ _ _), h]

theorem alarmReasserts_values (h : ValuesInRange s) : ValuesInRange (alarmReasserts s) := by
  unfold alarmReasserts
  split <;> exact h.of_parts rfl rfl rfl rfl rfl rfl

theorem CommandActs.values (acts : CommandActs s t) (h : ValuesInRange s) : ValuesInRange t := by
  cases acts with
  | nothing => exact h
  | received p f lost => exact receive_values h p f lost
  | sent p => exact h.modPort p _
  | linkLost p => exact loseLink_values h p
  | linkRestored p => exact h.modPort p _
  | heldOff n => exact h.acts (holdOffRunsOut_sectionActs trivial (.refl s) n) (holdOffRunsOut_estimates · n)
  | acceptance c => exact h.acts (acceptanceExpires_sectionActs (P := False) (.refl s) c) (acceptanceExpires_estimates · c)
  | confirmation c => exact failCoilIf_values h c _
  | moveLimit c => exact failCoilIf_values h c _
  | silence c => exact failCoilIf_values h c _
  | stale => exact h.acts (staleExpires_sectionActs (P := False) (.refl s)) staleExpires_estimates
  | reasserted => exact alarmReasserts_values h
  | answered r x acts =>
    rw [answer_frame]
    exact (acts.values h).of_parts rfl rfl rfl rfl rfl rfl

/-- Power-on and the release of RESET bring the defaults, with empty tables and no estimate (R14, R48, R86, R106, R130). -/
theorem restarted_values (s : State) (straps : BitVec 4) (la lb : Link) :
    ValuesInRange { State.initial straps la lb with pending := s.pending } :=
  ⟨SettingsKept.legal (.of_parts rfl rfl ⟨rfl, rfl⟩ ⟨rfl, rfl⟩ rfl rfl) settings_reset, fun n => by cases n <;> nofun⟩

theorem StepActs.values (acts : StepActs s t) (h : ValuesInRange s) : ValuesInRange t := by
  cases acts with
  | nothing => exact h
  | ticked => exact h.of_parts rfl rfl rfl rfl rfl rfl
  | acted _ acts => exact (acts.values h).acts (conclude_sectionActs (P := False) (.refl _)) (·.drive (conclude_frame _))
  | restarted straps la lb => exact restarted_values s straps la lb
  | linkReported p => exact h.modPort p _
  | resetHeld => exact h.of_parts rfl rfl rfl rfl rfl rfl
  | supplyLost => exact h.of_parts rfl rfl rfl rfl rfl rfl

/-- Settles O59: a request writes settings and tables that have passed its checks, an accepted window brings an estimate in
range, and every other operation keeps the settings and keeps or clears the estimates. -/
theorem stepKeepsSettingsAndEstimates : Obligations.StepKeepsSettingsAndEstimates := by
  intro s t settings estimates ht
  obtain ⟨q, acts⟩ := step_acts ht
  have before : ValuesInRange { s with pending := q } :=
    ValuesInRange.of_parts (s := s) ⟨settings, estimates⟩ rfl rfl rfl rfl rfl rfl
  exact acts.values before

end Sys2Proof.Machine

/-! ### WRITE_COIL_TABLE (R89 to R91) -/

namespace Sys2Proof.Machine

variable {s : State} {r : Request} {b : List Byte} {c : CoilId} {k : Nat}

theorem serveWriteCoilTable_badCount (fits : tableLength b = true) (hc : coilOf (word b 0) = some c)
    (count : within 2 32 (word b 1) = false) : serveWriteCoilTable b s = unchanged s (.range 1 none) := by
  simp [serveWriteCoilTable, fits, hc, count]

theorem serveWriteCoilTable_badPoint (fits : tableLength b = true) (hc : coilOf (word b 0) = some c)
    (count : within 2 32 (word b 1) = true) (bad : badPoint 0 none (tablePoints b (word b 1)) = some k) :
    serveWriteCoilTable b s = unchanged s (.range 2 (some k)) := by
  simp [serveWriteCoilTable, fits, hc, count, bad]

theorem serveWriteCoilTable_good (fits : tableLength b = true) (hc : coilOf (word b 0) = some c)
    (count : within 2 32 (word b 1) = true) (good : badPoint 0 none (tablePoints b (word b 1)) = none) :
    serveWriteCoilTable b s =
      if (s.sec c.sec).state = .disabled then done (writeTable c (tablePoints b (word b 1)) s) else unchanged s .state := by
  simp [serveWriteCoilTable, fits, hc, count, good]

/-- Settles O40: the count is judged first, then the points, then the section's state; points that pass make a legal table. -/
theorem writeCoilTableStores : Obligations.WriteCoilTableStores := by
  intro s r b c h fits number t
  have coil : coilOf (word b 0) = some c := by rw [number, coilOf_number]
  have answers {x : Served} (hx : serveWriteCoilTable b s = x) :
      exec .writeCoilTable s = .next (conclude (answer r x)) :=
    hx ▸ congrArg Host.Outcome.next (act_serving h _)
  refine ⟨fun outside => answers ?_, fun least most k bad => answers ?_, fun least most good => ?_⟩
  · exact serveWriteCoilTable_badCount fits coil (within_eq_false outside)
  · exact serveWriteCoilTable_badPoint fits coil (within_iff.2 ⟨least, most⟩) bad
  have count := within_iff.2 ⟨least, most⟩
  have served := serveWriteCoilTable_good (s := s) fits coil count good
  refine ⟨tablePoints_legal count good, ?_, fun off => answers ?_, fun on => answers ?_⟩
  · simp [t, tablePoints]
  · exact served.trans (if_pos off)
  · exact served.trans (if_neg on)

end Sys2Proof.Machine

/-! ### The two lookups of a coil table, and the split of a target between the coils (R89, R92, R93, R101) -/

namespace Sys2Proof.Machine

variable {t : List TablePoint} {a x y : TablePoint} {p k : Nat} {v : Int}

@[simp] theorem roundDiv_zero {d : Int} (hd : 0 < d) : roundDiv 0 d = 0 := by
  have between := roundDiv_between 0 (b := d) hd
  omega

/-- The part `n / d` of `m`, rounded, lies between 0 and `m`. -/
theorem roundDiv_part {n m d : Int} (hd : 0 < d) (hn : 0 ≤ n) (le : n ≤ d) (hm : 0 ≤ m) :
    0 ≤ roundDiv (n * m) d ∧ roundDiv (n * m) d ≤ m := by
  obtain ⟨low, high⟩ := roundDiv_close (n * m) d hd
  constructor
  · by_contra below; nlinarith
  · by_contra above; nlinarith

theorem interpolate_start {x₀ x₁ y₀ y₁ : Int} (lt : x₀ < x₁) : interpolate x₀ x₀ x₁ y₀ y₁ = y₀ := by
  simp [interpolate, lt]

theorem interpolate_between {x x₀ x₁ y₀ y₁ : Int} (low : x₀ ≤ x) (high : x ≤ x₁) (lt : x₀ < x₁) (le : y₀ ≤ y₁) :
    y₀ ≤ interpolate x x₀ x₁ y₀ y₁ ∧ interpolate x x₀ x₁ y₀ y₁ ≤ y₁ := by
  have part := roundDiv_part (n := x - x₀) (m := y₁ - y₀) (d := x₁ - x₀) (by omega) (by omega) (by omega) (by omega)
  unfold interpolate
  omega

/-- Positions and susceptances both strictly rise along the points (R89). -/
def Rises (t : List TablePoint) : Prop := t.Pairwise fun p q => p.pos < q.pos ∧ p.b < q.b

theorem tableLegal.rises (h : tableLegal t) : Rises t := by
  rcases h with rfl | ⟨-, -, -, rising⟩
  exacts [.nil, rising]

namespace Rises

theorem tail (h : Rises (a :: t)) : Rises t := List.Pairwise.of_cons h

theorem head_le (h : Rises (a :: t)) (hx : x ∈ a :: t) : a.pos ≤ x.pos ∧ a.b ≤ x.b := by
  rcases List.mem_cons.1 hx with rfl | hx
  · exact ⟨le_rfl, le_rfl⟩
  · exact (List.rel_of_pairwise_cons h hx).imp le_of_lt le_of_lt

/-- A point not above the first in position or in susceptance is the first. -/
theorem eq_head (h : Rises (a :: t)) (hx : x ∈ a :: t) (le : x.pos ≤ a.pos ∨ x.b ≤ a.b) : x = a := by
  rcases List.mem_cons.1 hx with rfl | hx
  · rfl
  · obtain ⟨pos, b⟩ := List.rel_of_pairwise_cons h hx
    omega

theorem second (h : Rises (a :: x :: t)) : a.pos < x.pos ∧ a.b < x.b := List.rel_of_pairwise_cons h (by simp)

end Rises

/-! Forward -/

theorem forwardFrom_head (h : Rises (a :: t)) : forwardFrom a t a.pos = a.b := by
  cases t with
  | nil => rfl
  | cons b t =>
    have lt := h.second.1
    rw [forwardFrom, if_pos lt, interpolate_start (by exact_mod_cast lt)]

/-- At a position above the next point the lookup goes on from there. -/
theorem forwardFrom_skip (le : x.pos ≤ p) : forwardFrom a (x :: t) p = forwardFrom x t p := by
  rw [forwardFrom, if_neg (by omega)]

theorem forwardFrom_above (h : Rises (a :: t)) (last : (a :: t).getLast? = some y) (le : y.pos ≤ p) :
    forwardFrom a t p = y.b := by
  induction t generalizing a with
  | nil => cases last; rfl
  | cons x t ih =>
    rw [List.getLast?_cons_cons] at last
    have before := (h.tail.head_le (List.mem_of_getLast? last)).1
    rw [forwardFrom_skip (by omega), ih h.tail last]

theorem forwardFrom_between (h : Rises (a :: t)) (hx : (a :: t)[k]? = some x) (hy : (a :: t)[k + 1]? = some y)
    (low : x.pos ≤ p) (high : p < y.pos) : forwardFrom a t p = interpolate p x.pos y.pos x.b y.b := by
  induction t generalizing a k with
  | nil => cases hy
  | cons z t ih =>
    cases k with
    | zero => cases hx; cases hy; rw [forwardFrom, if_pos high]
    | succ k =>
      have before := (h.tail.head_le (List.mem_of_getElem? hx)).1
      rw [forwardFrom_skip (by omega), ih h.tail hx hy]

theorem forwardFrom_span (h : Rises (a :: t)) (last : (a :: t).getLast? = some y) (le : a.pos ≤ p) :
    (a.b : Int) ≤ forwardFrom a t p ∧ forwardFrom a t p ≤ y.b := by
  induction t generalizing a with
  | nil => cases last; exact ⟨le_rfl, le_rfl⟩
  | cons x t ih =>
    rw [List.getLast?_cons_cons] at last
    have before := (h.tail.head_le (List.mem_of_getLast? last)).2
    obtain ⟨pos, sus⟩ := h.second
    rcases Nat.lt_or_ge p x.pos with lt | ge
    · rw [forwardFrom, if_pos lt]
      have between := interpolate_between (x := p) (x₀ := a.pos) (x₁ := x.pos) (y₀ := a.b) (y₁ := x.b)
        (by omega) (by omega) (by omega) (by omega)
      omega
    · rw [forwardFrom_skip ge]
      have rest := ih h.tail last ge
      omega

theorem forwardLookup_below (le : p ≤ a.pos) : forwardLookup (a :: t) p = some (a.b : Int) := by
  rw [forwardLookup, if_pos le]

theorem forwardLookup_from (h : Rises (a :: t)) (le : a.pos ≤ p) : forwardLookup (a :: t) p = some (forwardFrom a t p) := by
  rcases Nat.eq_or_lt_of_le le with rfl | lt
  · rw [forwardLookup_below le_rfl, forwardFrom_head h]
  · rw [forwardLookup, if_neg (by omega)]

theorem forwardLookup_span (h : Rises (a :: t)) (last : (a :: t).getLast? = some y) (p : Nat) :
    ∃ v, forwardLookup (a :: t) p = some v ∧ (a.b : Int) ≤ v ∧ v ≤ y.b := by
  rcases Nat.le_total p a.pos with le | ge
  · have ends := (h.head_le (List.mem_of_getLast? last)).2
    exact ⟨_, forwardLookup_below le, le_rfl, by omega⟩
  · exact ⟨_, forwardLookup_from h ge, forwardFrom_span h last ge⟩

/-! Inverse -/

/-- At a susceptance not below the next point's the lookup goes on from there. -/
theorem inverseFrom_skip (le : (x.b : Int) ≤ v) : inverseFrom a (x :: t) v = inverseFrom x t v := by
  rw [inverseFrom, if_neg (by omega)]

theorem inverseFrom_above (h : Rises (a :: t)) (last : (a :: t).getLast? = some y) (le : (y.b : Int) ≤ v) :
    inverseFrom a t v = ((y.pos : Int), true) := by
  induction t generalizing a with
  | nil => cases last; rfl
  | cons x t ih =>
    rw [List.getLast?_cons_cons] at last
    have before := (h.tail.head_le (List.mem_of_getLast? last)).2
    rw [inverseFrom_skip (by omega), ih h.tail last]

theorem inverseFrom_between (h : Rises (a :: t)) (hx : (a :: t)[k]? = some x) (hy : (a :: t)[k + 1]? = some y)
    (low : (x.b : Int) ≤ v) (high : v < y.b) : inverseFrom a t v = (interpolate v x.b y.b x.pos y.pos, false) := by
  induction t generalizing a k with
  | nil => cases hy
  | cons z t ih =>
    cases k with
    | zero => cases hx; cases hy; rw [inverseFrom, if_pos high]
    | succ k =>
      have before := (h.tail.head_le (List.mem_of_getElem? hx)).2
      rw [inverseFrom_skip (by omega), ih h.tail hx hy]

theorem inverseLookup_below (le : v ≤ a.b) : inverseLookup (a :: t) v = some (a.pos, true) := by
  rw [inverseLookup, if_pos le]

theorem inverseLookup_from (lt : (a.b : Int) < v) :
    inverseLookup (a :: t) v = some ((inverseFrom a t v).1.toNat, (inverseFrom a t v).2) := by
  rw [inverseLookup, if_neg (by omega)]

theorem inverseLookup_above (h : Rises (a :: t)) (last : (a :: t).getLast? = some y) (le : (y.b : Int) ≤ v) :
    inverseLookup (a :: t) v = some (y.pos, true) := by
  rcases le_or_gt v (a.b : Int) with low | high
  · rw [inverseLookup_below low, h.eq_head (List.mem_of_getLast? last) (.inr (by omega))]
  · rw [inverseLookup_from high, inverseFrom_above h last le, Int.toNat_natCast]

/-- Two neighbouring points, the first below the second. -/
theorem Rises.neighbours (h : Rises t) (hx : t[k]? = some x) (hy : t[k + 1]? = some y) : x.pos < y.pos ∧ x.b < y.b := by
  obtain ⟨hk, rfl⟩ := List.getElem?_eq_some_iff.1 hx
  obtain ⟨hk', rfl⟩ := List.getElem?_eq_some_iff.1 hy
  exact List.pairwise_iff_getElem.1 h k (k + 1) hk hk' (by omega)

theorem inverseLookup_between (h : Rises (a :: t)) (hx : (a :: t)[k]? = some x) (hy : (a :: t)[k + 1]? = some y)
    (above : (a.b : Int) < v) (low : (x.b : Int) ≤ v) (high : v < y.b) :
    ∃ q, inverseLookup (a :: t) v = some (q, false) ∧ x.pos ≤ q ∧ q ≤ y.pos
      ∧ (q : Int) = interpolate v x.b y.b x.pos y.pos := by
  obtain ⟨pos, -⟩ := h.neighbours hx hy
  have between := interpolate_between (y₀ := x.pos) (y₁ := y.pos) low high.le (by omega) (by omega)
  refine ⟨(interpolate v x.b y.b x.pos y.pos).toNat, ?_, by omega, by omega, by omega⟩
  rw [inverseLookup_from above, inverseFrom_between h hx hy low high]

/-! The split (R101) -/

theorem clampSpan_of_ends (ends : tableEnds t = some (x, y)) (v : Int) :
    clampSpan t v = max (x.b : Int) (min v y.b) := by
  rw [clampSpan, ends]

theorem clampSpan_fits (ends : tableEnds t = some (x, y)) (low : (x.b : Int) ≤ v) (high : v ≤ y.b) : clampSpan t v = v := by
  rw [clampSpan_of_ends ends]
  omega

/-- The second coil takes what the first cannot, and what it cannot take itself comes back to the first; the residue is what
then remains. -/
theorem splitTarget_eq (t₁ t₂ : List TablePoint) (share : Nat) (v : Int) :
    let c₂ := clampSpan t₂ (v - clampSpan t₁ (roundDiv (v * share) 256))
    splitTarget t₁ t₂ share v = (clampSpan t₁ (v - c₂), c₂, v - c₂ - clampSpan t₁ (v - c₂)) := by
  have rest (b b₁ : Int) : v - b + (b - b₁) = v - b₁ := by omega
  have back (b₁ c : Int) : b₁ + (v - b₁ - c) = v - c := by omega
  simp only [splitTarget, rest, back]

/-- Shares that both lie within their spans stay as they are. -/
theorem splitTarget_fits {t₁ t₂ : List TablePoint} {a₁ z₁ a₂ z₂ : TablePoint} {share : Nat} {b : Int}
    (ends₁ : tableEnds t₁ = some (a₁, z₁)) (ends₂ : tableEnds t₂ = some (a₂, z₂)) (hb : b = roundDiv (v * share) 256)
    (low₁ : (a₁.b : Int) ≤ b) (high₁ : b ≤ z₁.b) (low₂ : (a₂.b : Int) ≤ v - b) (high₂ : v - b ≤ z₂.b) :
    splitTarget t₁ t₂ share v = (b, v - b, 0) := by
  rw [splitTarget_eq, ← hb, clampSpan_fits ends₁ low₁ high₁, clampSpan_fits ends₂ low₂ high₂, sub_sub_cancel,
    clampSpan_fits ends₁ low₁ high₁, sub_self]

/-- Settles O20: a lookup is followed from the first point of a rising table to the pair of points it falls between; the split
is two clamps and what they leave. -/
theorem tableLookupsAndSplit : Obligations.TableLookupsAndSplit := by
  refine ⟨rfl, fun t x y legal first last => ?_, ?_⟩
  · have rises := legal.rises
    obtain ⟨rest, rfl⟩ := List.head?_eq_some_iff.1 first
    have ends := (rises.head_le (List.mem_of_getLast? last)).1
    refine ⟨fun p => ⟨forwardLookup_below, fun above => ?_, fun k a b ha hb low high => ?_, forwardLookup_span rises last p⟩,
      fun v => ⟨inverseLookup_below, inverseLookup_above rises last, fun k a b ha hb => inverseLookup_between rises ha hb⟩⟩
    · rw [forwardLookup_from rises (by omega), forwardFrom_above rises last above]
    · have before := (rises.head_le (List.mem_of_getElem? ha)).1
      rw [forwardLookup_from rises (by omega), forwardFrom_between rises ha hb low high, interpolate]
  · intro t₁ t₂ a₁ z₁ a₂ z₂ share v ends₁ ends₂ le₁ le₂ r b
    have shares : r = _ := splitTarget_eq t₁ t₂ share v
    simp only [clampSpan_of_ends ends₁, clampSpan_of_ends ends₂] at shares
    refine ⟨?low₁, ?high₁, ?low₂, ?high₂, ?sum, splitTarget_fits ends₁ ends₂ rfl, ?within, ?beyond, ?beneath⟩
    all_goals rw [shares]; dsimp only; omega

end Sys2Proof.Machine

/-! ### A requested move is placed (R111, R113) -/

namespace Sys2Proof.Machine

variable {s t u : State} {c : CoilId} {q : Nat} {o : MoveOrigin}

/-- The coil is changed, its toggle kept, and a tracked record is then formed: it stands in flight, and the change stays. -/
theorem coil_formTracked_modCoil {f : Coil → Coil} (free : (f (s.coil c)).toggle.isSome = true) (k : RecordKind) :
    ∃ g f' w a x, (formTracked c k (s.modCoil c f)).coil c =
        { f (s.coil c) with toggle := g, inFlight := some f', waiting := w, acceptTimer := a, confirmTimer := x }
      ∧ f'.record.kind = k := by
  obtain ⟨b, hb⟩ := Option.isSome_iff_exists.1 free
  have formed := coil_formTracked (s := s.modCoil c f) (c := c) (b := b) (by rw [State.coil_modCoil, hb]) k
  rwa [State.coil_modCoil] at formed

theorem channelFree_toggle {k : Coil} (free : k.channelFree = true) : k.toggle.isSome = true := by
  simp only [Coil.channelFree, Bool.and_eq_true] at free
  exact free.1.2

/-- A move is placed by what the context of its coil holds. -/
theorem MovePlaced.of_coil (h : MovePlaced c q o t) (same : u.coil c = t.coil c) : MovePlaced c q o u := by
  unfold MovePlaced at h ⊢
  rwa [same]

/-- A coil takes a move for its own, and the record of the move is then formed (R113). -/
theorem formTracked_placed {f : Coil → Coil} {m : Move} (toggle : (f (s.coil c)).toggle.isSome = true)
    (taken : (f (s.coil c)).pendMove = none) (moves : (f (s.coil c)).move = some m) (target : m.target = q)
    (origin : m.origin = o) : MovePlaced c q o (formTracked c (.moveTo q) (s.modCoil c f)) := by
  obtain ⟨g, f', w, a, x, e, kind⟩ := coil_formTracked_modCoil toggle (.moveTo q)
  refine .inr ?_
  rw [e]
  exact ⟨taken, m, f', moves, target, origin, rfl, kind⟩

/-- A pending target that may be sent is sent at rest, and stays pending otherwise (R113). -/
theorem takeMove_placed (toggle : (s.coil c).toggle.isSome = true)
    (pend : (s.coil c).pendMove = some { target := q, origin := o }) (may : moveMaySend c q o s = true) :
    MovePlaced c q o (takeMove c s) := by
  unfold takeMove
  simp only [pend, may, if_true]
  split
  · exact formTracked_placed toggle rfl rfl rfl rfl
  · exact .inl pend

/-- A STOP or an injection change goes before the target, which then stays pending (R113). -/
theorem formTracked_pending {f : Coil → Coil} (free : (s.coil c).channelFree = true)
    (toggle : (f (s.coil c)).toggle = (s.coil c).toggle)
    (pend : (f (s.coil c)).pendMove = some { target := q, origin := o }) (k : RecordKind) :
    MovePlaced c q o (formTracked c k (s.modCoil c f)) := by
  obtain ⟨g, f', w, a, x, e, -⟩ := coil_formTracked_modCoil (s := s) (c := c) (f := f)
    (by rw [toggle]; exact channelFree_toggle free) k
  refine .inl ?_
  rw [e]
  exact pend

theorem moveMaySend_modCoil {f : Coil → Coil} (table : (f (s.coil c)).table = (s.coil c).table) :
    moveMaySend c q o (s.modCoil c f) = moveMaySend c q o s := by
  have driver := driver_of_coupler (State.modCoil_coupler s c f) c
  simp only [moveMaySend, driver, State.sec_modCoil, State.coil_modCoil, table]

/-- A pending target that may be sent is sent or stays pending, whatever else is pending (R113). -/
theorem takePending_placed (pend : (s.coil c).pendMove = some { target := q, origin := o })
    (may : moveMaySend c q o s = true) : MovePlaced c q o (takePending c s) := by
  unfold takePending
  dsimp only
  split
  · next free =>
    split
    · exact formTracked_pending free rfl pend .stop
    · split
      · exact formTracked_pending free rfl pend .injectOff
      · split
        · exact formTracked_pending free rfl pend _
        · refine takeMove_placed ?_ ?_ ?_
          · rw [State.coil_modCoil]; exact channelFree_toggle free
          · rw [State.coil_modCoil]; exact pend
          · rw [moveMaySend_modCoil rfl]; exact may
      · exact takeMove_placed (channelFree_toggle free) pend may
  · exact .inl pend

/-- A move request that the coil takes and that may be sent is placed (R111, R113). -/
theorem requestMove_placed (takes : (s.coil c).takesRequests = true) (may : moveMaySend c q o s = true) :
    MovePlaced c q o (requestMove c q o s) := by
  rw [requestMove, if_pos takes]
  refine takePending_placed ?_ ?_
  · rw [State.coil_modCoil]
  · rw [moveMaySend_modCoil rfl]; exact may

end Sys2Proof.Machine

/-! ### Decisions (R95 to R105) -/

namespace Sys2Proof.Machine

variable {s : State} {n : SecId} {c : CoilId} {k : UpdateKind} {g : Trigger} {e : Int} {q : Nat}

theorem modSec_modSec (s : State) (n : SecId) (f h : Section → Section) :
    (s.modSec n f).modSec n h = s.modSec n fun y => h (f y) := by cases n <;> rfl

/-! The decision counter (R95, R96) -/

/-- What an accepted window's kind of update makes the trigger of its decision (R105). -/
def UpdateKind.trigger : UpdateKind → Trigger
  | .first => .first
  | .step => .step
  | .filtered => .count

/-- The counter of a section is cleared for a decision (R96). -/
def countCleared (n : SecId) (s : State) : State := s.modSec n fun y => { y with counter := 0 }

theorem targetTakes_counts (short : (s.sec n).counter + 1 < (s.sec n).settings.decisionInterval) (e : Int) :
    targetTakes n .filtered e s = s.modSec n fun y => { y with counter := (s.sec n).counter + 1 } :=
  if_neg (by omega)

theorem targetTakes_decides (due : k ≠ .filtered ∨ (s.sec n).settings.decisionInterval ≤ (s.sec n).counter + 1) (e : Int) :
    targetTakes n k e s = takeDecision n k.trigger e (countCleared n s) := by
  cases k with
  | first => rfl
  | step => rfl
  | filtered => exact if_pos (due.resolve_left fun other => other rfl)

/-! What a decision forms (R99 to R103, R105) -/

/-- The detuning that a section sees now (R99). -/
def State.detuning (n : SecId) (e : Int) (s : State) : Int := presentDetuning e (drivenSusceptance n s)

/-- The record of a decision within the deadband (R99, R105). -/
def Decision.inside (n : SecId) (g : Trigger) (e : Int) (s : State) : Decision :=
  { time := s.ms, trigger := g, joined := s.joined, e := e, bLnow := drivenSusceptance n s, vNow := s.detuning n e,
    outcome := .inBand, bT := none, split := none, pos1 := none, pos2 := none, req1 := false, req2 := false, limited := false }

/-- The record of a decision outside the deadband (R100 to R105). -/
def Decision.outside (n : SecId) (g : Trigger) (e : Int) (s : State) : Decision :=
  let bT := targetSusceptance e (s.sec n).settings.detuningSet
  let a := aims n bT s
  let free := (s.sec n).inhibit.isEmpty
  let req1 := free && wantsMove .c1 a.pos1 s
  let req2 := free && wantsMove .c2 a.pos2 s
  { Decision.inside n g e s with
    outcome := if !free then .inhibited else if req1 || req2 then .move else .noChange
    bT := some bT, split := a.split, pos1 := a.pos1, pos2 := a.pos2, req1 := req1, req2 := req2, limited := a.limited }

/-- The position a decision holds for a coil, and whether it asks for the move there. -/
def Decision.pos (z : Decision) : CoilId → Option Nat
  | .c1 => z.pos1
  | .c2 => z.pos2

def Decision.req (z : Decision) : CoilId → Bool
  | .c1 => z.req1
  | .c2 => z.req2

theorem drivenSusceptance_eq (n : SecId) (s : State) :
    drivenSusceptance n s = ((s.drives n).map fun c => (s.coil c).susceptance).sum := by
  rw [List.sum_eq_foldl, List.foldl_map, drivenSusceptance]

theorem wantsMove_iff {p : Option Nat} : wantsMove c p s = true ↔ ∃ q, p = some q ∧ q ≠ (s.coil c).aim := by
  cases p <;> simp [wantsMove]

theorem aims_joined (joined : s.joined = true) (n : SecId) (bT : Int) : aims n bT s =
    let r := splitTarget s.coil1.table s.coil2.table s.share bT
    { split := some r, pos1 := (inverseLookup s.coil1.table r.1).map Prod.fst
      pos2 := (inverseLookup s.coil2.table r.2.1).map Prod.fst, limited := r.2.2 != 0 } := if_pos joined

theorem aims_separate (separate : s.joined = false) (n : SecId) (bT : Int) :
    let r := inverseLookup (s.coil n.coil).table bT
    (aims n bT s).split = none ∧ ((aims n bT s).limited = true ↔ ∃ p, r = some (p, true))
      ∧ (aims n bT s).pos1 = (if n = .s1 then r.map Prod.fst else none)
      ∧ (aims n bT s).pos2 = (if n = .s2 then r.map Prod.fst else none) := by
  have limited (r : Option (Nat × Bool)) :
      (match r with | some x => x.2 | none => false) = true ↔ ∃ p, r = some (p, true) := by
    rcases r with _ | ⟨p, l⟩ <;> simp
  cases n <;> simp only [aims, separate] <;> exact ⟨rfl, limited _, rfl, rfl⟩

/-- A decision forms a position only for a coil that its section drives (R101, R132). -/
theorem driver_of_pos (mode : n = .s1 ∨ s.joined = false) (pos : (Decision.outside n g e s).pos c = some q) :
    s.driver c = n := by
  cases joined : s.joined with
  | true =>
    obtain rfl := mode.resolve_right (by simp [joined])
    rw [State.driver, joined, if_pos rfl]
  | false =>
    obtain ⟨-, -, pos₁, pos₂⟩ := aims_separate joined n (targetSusceptance e (s.sec n).settings.detuningSet)
    rw [State.driver, joined]
    cases c with
    | c1 =>
      have own : (if n = .s1 then _ else none) = some q := pos₁.symm.trans pos
      cases n with
      | s1 => rfl
      | s2 => cases own
    | c2 =>
      have own : (if n = .s2 then _ else none) = some q := pos₂.symm.trans pos
      cases n with
      | s1 => cases own
      | s2 => rfl

/-- The counter has no part in what a decision forms. -/
theorem detuning_countCleared (n : SecId) (e : Int) (s : State) : (countCleared n s).detuning n e = s.detuning n e := by
  cases n <;> rfl

theorem inside_countCleared (n : SecId) (g : Trigger) (e : Int) (s : State) :
    Decision.inside n g e (countCleared n s) = Decision.inside n g e s := by
  cases n <;> rfl

theorem outside_countCleared (n : SecId) (g : Trigger) (e : Int) (s : State) :
    Decision.outside n g e (countCleared n s) = Decision.outside n g e s := by
  cases n <;> rfl

/-! What a decision does (R102 to R105) -/

/-- The decision record is left in its section (R105). -/
def recordDecision (n : SecId) (z : Decision) (s : State) : State := s.modSec n fun y => { y with decision := some z }

/-- The decision is recorded, and reported where it is limited (R102, R105). -/
def reportDecision (n : SecId) (z : Decision) (s : State) : State :=
  if z.limited then raise .targetLimited (.busSection n) (recordDecision n z s) else recordDecision n z s

theorem takeDecision_inside (near : (s.detuning n e - (s.sec n).settings.detuningSet).natAbs ≤ (s.sec n).settings.deadband)
    (g : Trigger) : takeDecision n g e s = recordDecision n (.inside n g e s) s := if_pos near

/-- The decision is recorded and reported, and its move requests are handed on, coil 1 first (R103, R104). -/
def carryOut (n : SecId) (z : Decision) (s : State) : State :=
  handOn .c2 z.req2 z.pos2 (handOn .c1 z.req1 z.pos1 (reportDecision n z s))

theorem takeDecision_outside (far : (s.sec n).settings.deadband < (s.detuning n e - (s.sec n).settings.detuningSet).natAbs)
    (g : Trigger) : takeDecision n g e s = carryOut n (.outside n g e s) s := if_neg (Nat.not_le.2 far)

theorem reportDecision_frame (n : SecId) (z : Decision) (s : State) : WindowFrame s (reportDecision n z s) := by
  have recorded : WindowFrame s (recordDecision n z s) := .modSec s n _
  unfold reportDecision
  split
  exacts [recorded.trans (.raise _ _ _), recorded]

theorem sec_reportDecision (n m : SecId) (z : Decision) (s : State) :
    (reportDecision n z s).sec m = (recordDecision n z s).sec m := by
  unfold reportDecision
  split
  exacts [(raise_frame _ _ _).sec m, rfl]

theorem events_reportDecision (n : SecId) (z : Decision) (s : State) :
    (z.limited = true → .targetLimited ∈ (reportDecision n z s).events.summary)
      ∧ (z.limited = false → (reportDecision n z s).events = s.events) := by
  unfold reportDecision
  refine ⟨fun limited => ?_, fun unlimited => ?_⟩
  · rw [if_pos limited]; exact mem_summary_raise _ _ _
  · rw [if_neg (by simp [unlimited])]; exact State.modSec_events s n _

theorem handOn_none (c : CoilId) (p : Option Nat) (s : State) : handOn c false p s = s := by cases p <;> rfl

theorem handOn_coilActs (c : CoilId) (w : Bool) (p : Option Nat) (s : State) : CoilActs c s (handOn c w p s) := by
  unfold handOn
  split
  exacts [requestMove_acts _ _ _ _, .refl c s]

theorem moveMaySend_automatic (driver : s.driver c = n) (tracks : (s.sec n).state = .tracking)
    (free : (s.sec n).inhibit.isEmpty = true) (range : inTableRange (s.coil c).table q = true) :
    moveMaySend c q .automatic s = true := by
  simp [moveMaySend, driver, tracks, free, range]

theorem carryOut_frame (n : SecId) (z : Decision) (s : State) : DriveFrame (reportDecision n z s) (carryOut n z s) :=
  (handOn_frame .c1 _ _ _).trans (handOn_frame .c2 _ _ _)

theorem sec_carryOut (n m : SecId) (z : Decision) (s : State) : (carryOut n z s).sec m = (recordDecision n z s).sec m :=
  ((carryOut_frame n z s).sec m).trans (sec_reportDecision n m z s)

theorem agreeBeyondLinks_of_frames {t u : State} (h : WindowFrame s u) (h' : DriveFrame u t) :
    AgreeBeyondLinks { s with sec1 := t.sec1, sec2 := t.sec2, events := t.events } t := by
  unfold WindowFrame at h
  unfold DriveFrame at h'
  unfold AgreeBeyondLinks
  rw [h', h]

theorem coil_handOn_other {d : CoilId} (h : d ≠ c) (w : Bool) (p : Option Nat) (s : State) :
    (handOn c w p s).coil d = s.coil d := (handOn_coilActs c w p s).others d h

/-- A coil that no move is asked for is unchanged (R103). -/
theorem coil_carryOut {z : Decision} (quiet : z.req c = false) (n : SecId) (s : State) :
    (carryOut n z s).coil c = s.coil c := by
  have reported := (reportDecision_frame n z s).coil c
  cases c with
  | c1 =>
    have none_asked : z.req1 = false := quiet
    rw [carryOut, coil_handOn_other (by decide), none_asked]
    exact reported
  | c2 =>
    have none_asked : z.req2 = false := quiet
    rw [carryOut, none_asked, handOn_none]
    exact (coil_handOn_other (by decide) _ _ _).trans reported

/-- A request of a decision is placed where the coil takes it and its section tracks without inhibit (R103, R111, R113). -/
theorem handOn_placed {z : Decision} {v : State} (frame : DriveFrame (reportDecision n z s) v) (same : v.coil c = s.coil c)
    (driver : s.driver c = n) (takes : (s.coil c).takesRequests = true) (tracks : (s.sec n).state = .tracking)
    (free : (s.sec n).inhibit.isEmpty = true) (range : inTableRange (s.coil c).table q = true) :
    MovePlaced c q .automatic (handOn c true (some q) v) := by
  have sections : v.sec n = { s.sec n with decision := some z } := by
    rw [frame.sec, sec_reportDecision, recordDecision, State.sec_modSec]
  have coupler : v.coupler = s.coupler := frame.coupler.trans (reportDecision_frame n z s).coupler
  refine requestMove_placed (same ▸ takes) (moveMaySend_automatic ((driver_of_coupler coupler c).trans driver) ?_ ?_ ?_)
  · rw [sections]; exact tracks
  · rw [sections]; exact free
  · rw [same]; exact range

theorem carryOut_placed {z : Decision} (asked : z.req c = true) (pos : z.pos c = some q) (driver : s.driver c = n)
    (takes : (s.coil c).takesRequests = true) (tracks : (s.sec n).state = .tracking)
    (free : (s.sec n).inhibit.isEmpty = true) (range : inTableRange (s.coil c).table q = true) :
    MovePlaced c q .automatic (carryOut n z s) := by
  have reported := (reportDecision_frame n z s).coil c
  unfold carryOut
  cases c with
  | c1 =>
    have first : z.req1 = true ∧ z.pos1 = some q := ⟨asked, pos⟩
    rw [first.1, first.2]
    exact (handOn_placed (.refl _) reported driver takes tracks free range).of_coil (coil_handOn_other (by decide) _ _ _)
  | c2 =>
    have second : z.req2 = true ∧ z.pos2 = some q := ⟨asked, pos⟩
    rw [second.1, second.2]
    exact handOn_placed (handOn_frame _ _ _ _) ((coil_handOn_other (by decide) _ _ _).trans reported) driver takes tracks free
      range

/-! The statement -/

theorem outside_inhibited (inhibited : (s.sec n).inhibit.isEmpty = false) (g : Trigger) (e : Int) :
    let z := Decision.outside n g e s
    z.outcome = .inhibited ∧ z.req1 = false ∧ z.req2 = false := by
  simp [Decision.outside, inhibited]

theorem outside_free (free : (s.sec n).inhibit.isEmpty = true) (g : Trigger) (e : Int) :
    let z := Decision.outside n g e s
    (z.req1 = true ↔ ∃ q, z.pos1 = some q ∧ q ≠ s.coil1.aim) ∧ (z.req2 = true ↔ ∃ q, z.pos2 = some q ∧ q ≠ s.coil2.aim)
      ∧ z.outcome = (if z.req1 = true ∨ z.req2 = true then .move else .noChange) := by
  simp only [Decision.outside, free, Bool.true_and]
  exact ⟨wantsMove_iff, wantsMove_iff, by simp⟩

/-- An inhibited decision asks for no move (R103). -/
theorem free_of_req (asked : (Decision.outside n g e s).req c = true) : (s.sec n).inhibit.isEmpty = true := by
  cases c <;> exact (Bool.and_eq_true_iff.1 asked).1

/-- A request of a decision is placed (R103, R104, R111, R113). -/
theorem outside_placed (mode : n = .s1 ∨ s.joined = false) (asked : (Decision.outside n g e s).req c = true)
    (pos : (Decision.outside n g e s).pos c = some q) (takes : (s.coil c).takesRequests = true)
    (tracks : (s.sec n).state = .tracking) (range : inTableRange (s.coil c).table q = true) :
    MovePlaced c q .automatic (carryOut n (.outside n g e s) (countCleared n s)) := by
  have coil : (countCleared n s).coil c = s.coil c := State.coil_modSec s n _ c
  have section_kept : (countCleared n s).sec n = { s.sec n with counter := 0 } := State.sec_modSec s n _
  have driver : (countCleared n s).driver c = n :=
    (driver_of_coupler (State.modSec_coupler s n _) c).trans (driver_of_pos mode pos)
  refine carryOut_placed asked pos driver ?_ ?_ ?_ ?_
  · rw [coil]; exact takes
  · rw [section_kept]; exact tracks
  · rw [section_kept]; exact free_of_req asked
  · rw [coil]; exact range

/-- Settles O21: the counter leads to a decision, which is formed from the state before and then carried out. -/
theorem decisionsAreTaken : Obligations.DecisionsAreTaken := by
  intro n k e s mode x t
  refine ⟨fun filtered short => ?_, fun due => ?_⟩
  · subst filtered
    exact targetTakes_counts short e
  intro now bL v base
  have decides : t = takeDecision n k.trigger e (countCleared n s) := targetTakes_decides due e
  have driven : drivenSusceptance n s = bL := drivenSusceptance_eq n s
  have sees : (countCleared n s).detuning n e = v :=
    (detuning_countCleared n e s).trans (congrArg (presentDetuning e) driven)
  have inside : Decision.inside n k.trigger e s = base := by
    unfold Decision.inside
    rw [State.detuning, driven]
    cases k <;> rfl
  have cleared : (countCleared n s).sec n = { x with counter := 0 } := State.sec_modSec s n _
  have settings : ((countCleared n s).sec n).settings = x.settings := by rw [cleared]
  refine ⟨fun near => ?_, fun far => ?_⟩
  · rw [decides, takeDecision_inside (by rw [sees, settings]; exact near), inside_countCleared, inside]
    exact modSec_modSec s n _ _
  intro bT q r
  let z := Decision.outside n k.trigger e s
  have carried : t = carryOut n z (countCleared n s) := by
    rw [decides, takeDecision_outside (by rw [sees, settings]; exact far), outside_countCleared]
  have handed := carryOut_frame n z (countCleared n s)
  have reported := (WindowFrame.modSec s n _).trans (reportDecision_frame n z (countCleared n s))
  obtain ⟨raised, unraised⟩ := events_reportDecision n z (countCleared n s)
  rw [← handed.events] at raised unraised
  have quiet {c : CoilId} (h : z.req c = false) : (carryOut n z (countCleared n s)).coil c = s.coil c :=
    (coil_carryOut h n _).trans (State.coil_modSec s n _ c)
  rw [carried]
  refine ⟨z, ?_, ?_, (aims_separate · n bT), fun joined => ?_, raised, fun h => (unraised h).trans (State.modSec_events s n _),
    agreeBeyondLinks_of_frames reported handed, fun m hm => ?_, (outside_inhibited · _ _), (outside_free · _ _),
    quiet (c := .c1), quiet (c := .c2), fun _ => outside_placed (c := .c1) mode, fun _ => outside_placed (c := .c2) mode⟩
  · rw [sec_carryOut, recordDecision, State.sec_modSec, cleared]
  · rw [← inside]
    rfl
  · have formed := aims_joined joined n bT
    have limited : z.limited = (r.2.2 != 0) := congrArg Aims.limited formed
    refine ⟨congrArg Aims.split formed, ?_, congrArg Aims.pos1 formed, congrArg Aims.pos2 formed⟩
    rw [limited]
    exact bne_iff_ne
  · rw [sec_carryOut, recordDecision, State.sec_modSec_other _ _ _ _ hm, countCleared, State.sec_modSec_other _ _ _ _ hm]

end Sys2Proof.Machine

/-! ### Every step keeps a FAILED coil at rest (R112, R125, R126)

The drive link leaves a FAILED coil that is at rest as it is: it takes no request, takes no pending work, and has no record in
flight to resend, to withdraw or to accept. The sections and the streams reach a coil through the drive link alone. -/

namespace Sys2Proof.Machine

variable {s t u : State} {n : SecId} {c : CoilId} {i : Fin 24}

/-- What O58 asks of a coil. -/
def Coil.RestsIfFailed (k : Coil) : Prop := k.failed = true → k.rests

theorem Coil.RestsIfFailed.sound {k : Coil} (sound : k.failed = false) : k.RestsIfFailed := by
  intro failed
  rw [sound] at failed
  cases failed

theorem Coil.RestsIfFailed.clearTarget {k : Coil} (h : k.RestsIfFailed) : ({ k with pendMove := none } : Coil).RestsIfFailed :=
  fun failed => by
    obtain ⟨inFlight, move, -, rest⟩ := h failed
    exact ⟨inFlight, move, rfl, rest⟩

theorem Coil.RestsIfFailed.report {k : Coil} (h : k.RestsIfFailed) (r : StatusRecord) (now : Time) :
    (k.report r now).RestsIfFailed := fun failed => by
  obtain ⟨inFlight, move, pendMove, pendInj, pendStop, heldInj, accept, confirm, limit, -⟩ := h failed
  exact ⟨inFlight, move, pendMove, pendInj, pendStop, heldInj, accept, confirm, limit, rfl⟩

theorem Coil.RestsIfFailed.rebind {k : Coil} (h : k.RestsIfFailed) (c : CoilId) (i : Fin 24) (d : Option SlotDef) :
    (k.rebind c i d).RestsIfFailed := by
  unfold Coil.rebind
  split_ifs
  · exact h
  · exact h
  · intro failed
    obtain ⟨inFlight, move, -, -, -, rest⟩ := h failed
    exact ⟨inFlight, move, rfl, rfl, rfl, rest⟩
  · exact h

/-! Changes that no coil sees, and changes of one coil -/

namespace FailedCoilsRest

theorem keep (h : FailedCoilsRest s) (same : ∀ c, t.coil c = s.coil c) : FailedCoilsRest t := fun c => by
  rw [same]; exact h c

theorem of_coils (h : FailedCoilsRest s) (one : t.coil1 = s.coil1) (two : t.coil2 = s.coil2) : FailedCoilsRest t :=
  h.keep fun c => by cases c; exacts [one, two]

theorem link (h : FailedCoilsRest s) (frame : LinkFrame s t) : FailedCoilsRest t := h.keep frame.coil

theorem raise (h : FailedCoilsRest s) (k : EventKind) (o : Obj) : FailedCoilsRest (raise k o s) := h.link (raise_frame k o s)

theorem modPort (h : FailedCoilsRest s) (p : Port) (f : PortState → PortState) : FailedCoilsRest (s.modPort p f) :=
  h.link (.modPort s p f)

theorem modSec (h : FailedCoilsRest s) (n : SecId) (f : Section → Section) : FailedCoilsRest (s.modSec n f) :=
  h.keep (State.coil_modSec s n f)

theorem setSlot (h : FailedCoilsRest s) (i : Fin 24) (x : Slot) : FailedCoilsRest (s.setSlot i x) :=
  h.keep (State.coil_setSlot s i x)

theorem setSectionState (h : FailedCoilsRest s) (n : SecId) (st : SecState) : FailedCoilsRest (setSectionState n st s) :=
  h.keep (coil_setSectionState n st s)

theorem ite {b : Prop} [Decidable b] (h : FailedCoilsRest t) (h' : FailedCoilsRest u) :
    FailedCoilsRest (if b then t else u) := by
  split
  exacts [h, h']

/-- One coil changes and stays at rest if it is FAILED; by default because the change leaves what a FAILED coil must lack. -/
theorem modCoil (h : FailedCoilsRest s) (c : CoilId) {f : Coil → Coil}
    (rests : (s.coil c).RestsIfFailed → (f (s.coil c)).RestsIfFailed := by exact id) : FailedCoilsRest (s.modCoil c f) := by
  intro d
  by_cases hd : d = c
  · rw [hd, State.coil_modCoil]; exact rests (h c)
  · rw [State.coil_modCoil_other _ _ _ _ hd]; exact h d

/-- An operation of the drive link on one coil, seen from a FAILED coil. -/
theorem drive (h : FailedCoilsRest s) (acts : CoilActs c s t)
    (rests : (s.coil c).failed = true → (s.coil c).rests → (t.coil c).rests) : FailedCoilsRest t := by
  intro d failed
  by_cases hd : d = c
  · subst hd
    obtain ⟨-, -, -, same, -⟩ := acts.own
    rw [same] at failed
    exact rests failed (h d failed)
  · rw [acts.others d hd] at failed ⊢
    exact h d failed

/-- An operation of the drive link that a FAILED coil does not notice. -/
theorem unnoticed (h : FailedCoilsRest s) (acts : CoilActs c s t) (same : (s.coil c).failed = true → t = s) :
    FailedCoilsRest t :=
  h.drive acts fun failed rests => by rw [same failed]; exact rests

end FailedCoilsRest

/-! The drive link (R7, R107 to R115, R123) -/

theorem takePending_failed (failed : (s.coil c).failed = true) : takePending c s = s := by
  have closed : (s.coil c).channelFree = false := by simp [Coil.channelFree, Coil.state, failed]
  simp [takePending, closed]

theorem takePending_coilsRest (h : FailedCoilsRest s) (c : CoilId) : FailedCoilsRest (takePending c s) :=
  h.unnoticed (takePending_acts c s) takePending_failed

theorem requestMove_coilsRest (h : FailedCoilsRest s) (c : CoilId) (p : Nat) (o : MoveOrigin) :
    FailedCoilsRest (requestMove c p o s) :=
  h.unnoticed (requestMove_acts c p o s) fun failed => by simp [requestMove, takesRequests_failed failed]

theorem requestStop_coilsRest (h : FailedCoilsRest s) (c : CoilId) : FailedCoilsRest (requestStop c s) :=
  h.unnoticed (requestStop_acts c s) fun failed => by simp [requestStop, takesRequests_failed failed]

theorem requestInjection_coilsRest (h : FailedCoilsRest s) (c : CoilId) (q : InjReq) :
    FailedCoilsRest (requestInjection c q s) :=
  h.unnoticed (requestInjection_acts c q s) fun failed => by simp [requestInjection, takesRequests_failed failed]

theorem clearTarget_coilsRest (h : FailedCoilsRest s) (c : CoilId) : FailedCoilsRest (clearTarget c s) :=
  h.modCoil c (·.clearTarget)

/-- Operations that follow one another on several coils. -/
theorem foldl_coilsRest {α : Type} {f : State → α → State} (hf : ∀ s x, FailedCoilsRest s → FailedCoilsRest (f s x))
    (xs : List α) (h : FailedCoilsRest s) : FailedCoilsRest (xs.foldl f s) := by
  induction xs generalizing s with
  | nil => exact h
  | cons x xs ih => exact ih (hf s x h)

theorem clearTargets_coilsRest (h : FailedCoilsRest s) (cs : List CoilId) : FailedCoilsRest (clearTargets cs s) :=
  foldl_coilsRest (fun _ c h => clearTarget_coilsRest h c) cs h

theorem requestStops_coilsRest (h : FailedCoilsRest s) (cs : List CoilId) : FailedCoilsRest (requestStops cs s) :=
  foldl_coilsRest (fun _ c h => .ite (requestStop_coilsRest h c) h) cs h

theorem requestInjector_coilsRest (h : FailedCoilsRest s) (n : SecId) (q : InjReq) :
    FailedCoilsRest (requestInjector n q s) := by
  unfold requestInjector
  split
  exacts [requestInjection_coilsRest h _ q, h]

theorem handOn_coilsRest (h : FailedCoilsRest s) (c : CoilId) (b : Bool) (p : Option Nat) :
    FailedCoilsRest (handOn c b p s) := by
  unfold handOn
  split
  exacts [requestMove_coilsRest h c _ _, h]

/-- A coil without a record in flight has none to withdraw (R115). -/
theorem withdraw_none (none : (s.coil c).inFlight = none) : withdraw c s = s := by simp [withdraw, none]

theorem withdraw_coilsRest (h : FailedCoilsRest s) (c : CoilId) : FailedCoilsRest (withdraw c s) :=
  h.drive (withdraw_acts c s) fun _ rests => by rw [withdraw_none rests.1]; exact rests

/-- A record that enters for a coil without a record in flight leaves the coil as it is (R7, R114). -/
theorem coil_enterRecord_none (none : (s.coil c).inFlight = none) (w : Waiting) :
    (enterRecord c w s).coil c = s.coil c := by
  rw [coil_enterRecord]
  simp [Coil.sendMade, none]

/-- Whatever record of a FAILED coil waits still, its place among the waiting ones is all that its admission changes. -/
theorem admitWaiting_rests (rests : (s.coil c).rests) (ha : admitWaiting c s = some t) : (t.coil c).rests := by
  have noFlight := rests.1
  unfold admitWaiting at ha
  split at ha
  · cases ha
  · split at ha
    · split at ha
      · cases ha
        rw [withdraw_none noFlight]
        exact rests
      · cases ha
        rw [coil_enterRecord_none (by rw [State.coil_modCoil]; exact noFlight), State.coil_modCoil]
        exact rests
    · split at ha
      · next w rest _ _ _ =>
        cases ha
        rcases waitRecord_cases c w (fun w => w :: rest) s with ⟨q, -, e⟩ | ⟨-, e⟩ <;> rw [e, State.coil_modCoil]
        · rw [State.coil_modPort]; exact rests
        · exact rests
      · cases ha

theorem admitRecords_coilsRest (h : FailedCoilsRest s) : FailedCoilsRest (admitRecords s) :=
  admitAll_induct (fun _ _ _ h ha => h.drive (admitWaiting_acts ha) fun _ rests => admitWaiting_rests rests ha) _ h

/-- Silence supervision of a FAILED coil is not armed (R123). -/
theorem superviseSilence_coilsRest (h : FailedCoilsRest s) (c : CoilId) : FailedCoilsRest (superviseSilence c s) := by
  refine h.drive (superviseSilence_acts c s) fun failed rests => ?_
  have unarmed : silenceArmed c s = false := by simp [silenceArmed, Coil.state, failed]
  obtain ⟨x, hx, e⟩ := superviseSilence_eq c s
  rw [unarmed, Option.isSome_eq_false_iff, Option.isNone_iff_eq_none] at hx
  obtain ⟨inFlight, move, pendMove, pendInj, pendStop, heldInj, accept, confirm, limit, -⟩ := rests
  rw [e, State.coil_modCoil]
  exact ⟨inFlight, move, pendMove, pendInj, pendStop, heldInj, accept, confirm, limit, hx⟩

theorem conclude_coilsRest (h : FailedCoilsRest s) : FailedCoilsRest (conclude s) :=
  (superviseSilence_coilsRest (superviseSilence_coilsRest (admitRecords_coilsRest h) .c1) .c2).keep (coil_conclude s)

/-! Section states, and a coil that fails (R125, R133 to R141, R156) -/

theorem stopAndSilence_coilsRest (h : FailedCoilsRest s) (n : SecId) : FailedCoilsRest (stopAndSilence n s) :=
  requestInjector_coilsRest (requestStops_coilsRest (clearTargets_coilsRest h _) _) n .off

theorem enterStarting_coilsRest (h : FailedCoilsRest s) (n : SecId) : FailedCoilsRest (enterStarting n s) :=
  requestInjector_coilsRest ((h.setSectionState n .starting).modSec n Section.started) n _

theorem enterFault_coilsRest (h : FailedCoilsRest s) (n : SecId) : FailedCoilsRest (enterFault n s) :=
  stopAndSilence_coilsRest (((h.modSec n _).setSectionState n .fault).modSec n _) n

theorem haltSection_coilsRest (h : FailedCoilsRest s) (n : SecId) (cause : HaltCause) :
    FailedCoilsRest (haltSection n cause s) := by
  have silent := stopAndSilence_coilsRest (h.keep (coil_haltedSections n cause s)) n
  rcases haltSection_cases n cause s with e | e | e <;> rw [e]
  · exact h
  · rcases enterHalted_cases n cause s with e | e <;> rw [e]
    exacts [silent, silent.raise _ _]
  · exact h.of_coils rfl rfl

theorem disableSection_coilsRest (h : FailedCoilsRest s) (n : SecId) : FailedCoilsRest (disableSection n s) := by
  have silent (cs : List CoilId) := requestInjector_coilsRest
    (clearTargets_coilsRest ((h.modSec n fun x => { x with engine := x.engine.turnOff .state }).setSectionState n .disabled) cs)
    n .off
  unfold disableSection
  split
  · exact h
  · exact h.of_coils rfl rfl
  all_goals exact .ite ((silent _).raise _ _) (silent _)

/-- The coil that fails comes to rest, and the other one is left as it is (R125). -/
theorem failedAlone_coilsRest (h : FailedCoilsRest s) (c : CoilId) (k : EventKind) : FailedCoilsRest (failedAlone c k s) := by
  intro d failed
  by_cases hd : d = c
  · rw [hd, coil_failedAlone]; exact rests_enterFailed _
  · have same : (failedAlone c k s).coil d = s.coil d := by
      have untracked : (untrackQueues c (sendSafe c (raise k (.coil c) s))).coil d
          = (sendSafe c (raise k (.coil c) s)).coil d := by cases d <;> rfl
      rw [failedAlone, State.coil_modCoil_other _ _ _ _ hd, untracked, (sendSafe_acts c _).others d hd, coil_raise]
    rw [same] at failed ⊢
    exact h d failed

theorem failCoil_coilsRest (h : FailedCoilsRest s) (c : CoilId) (k : EventKind) : FailedCoilsRest (failCoil c k s) := by
  have told := haltSection_coilsRest (failedAlone_coilsRest h c k) (s.driver c) { kind := k, obj := .coil c, time := s.ms }
  rcases failCoil_cases c k s with e | ⟨-, e⟩ <;> rw [e]
  exacts [told, told.of_coils rfl rfl]

theorem faultConfirmed_coilsRest (h : FailedCoilsRest s) (m : SecId) : FailedCoilsRest (faultConfirmed m s) := by
  unfold faultConfirmed
  dsimp only
  split
  case h_1 | h_2 | h_3 | h_4 => exact enterFault_coilsRest h _
  all_goals exact h

theorem enterRecovery_coilsRest (h : FailedCoilsRest s) (n : SecId) : FailedCoilsRest (enterRecovery n s) := by
  have entered : FailedCoilsRest (setHoldOff n (some 0) (setSectionState n .recovery s)) :=
    (h.setSectionState n .recovery).modSec n _
  exact .ite (enterStarting_coilsRest entered n) entered

theorem faultCleared_coilsRest (h : FailedCoilsRest s) (m : SecId) : FailedCoilsRest (faultCleared m s) :=
  .ite (enterRecovery_coilsRest h _) h

theorem injectionConfirmed_coilsRest (h : FailedCoilsRest s) (n : SecId) : FailedCoilsRest (injectionConfirmed n s) :=
  h.keep (coil_injectionConfirmed n s)

theorem injectionLost_coilsRest (h : FailedCoilsRest s) (n : SecId) : FailedCoilsRest (injectionLost n s) :=
  .ite (enterStarting_coilsRest (clearTargets_coilsRest (h.raise _ _) _) n) h

theorem firstEstimate_coilsRest (h : FailedCoilsRest s) (n : SecId) : FailedCoilsRest (firstEstimate n s) :=
  .ite (h.setSectionState n .tracking) h

theorem setInhibit_coilsRest (h : FailedCoilsRest s) (n : SecId) (x : Inhibit) : FailedCoilsRest (setInhibit n x s) := by
  have set : FailedCoilsRest (s.modSec n fun y => { y with inhibit := x }) := h.modSec n _
  exact .ite (clearTargets_coilsRest set _) set

/-! The coupler (R142 to R146) -/

theorem setUnsure_coilsRest (h : FailedCoilsRest s) (x : Unsure) : FailedCoilsRest (setUnsure x s) := fun c => by
  rcases coil_setUnsure c x s with e | e <;> rw [e]
  exacts [h c, Coil.RestsIfFailed.clearTarget (h c)]

theorem reportAvailability_coilsRest (h : FailedCoilsRest s) (a : Bool) : FailedCoilsRest (reportAvailability a s) := by
  have noted : FailedCoilsRest { s with coupler := { s.coupler with available := a } } := h.of_coils rfl rfl
  exact setUnsure_coilsRest noted _

theorem couplerChangeSec1_coilsRest (h : FailedCoilsRest s) (cs : List CoilId) :
    FailedCoilsRest (couplerChangeSec1 cs s) := by
  have changed : FailedCoilsRest (resetEstimate .s1 (discardWindow .s1 .coupler s)) := (h.modSec .s1 _).modSec .s1 _
  exact .ite (clearTargets_coilsRest (changed.setSectionState .s1 .measuring) cs) changed

theorem joinSection2_coilsRest (h : FailedCoilsRest s) : FailedCoilsRest (joinSection2 s) := by
  have told : FailedCoilsRest { s with ret2 := returnFor s.sec2.state } := h.of_coils rfl rfl
  have joined : FailedCoilsRest (setHoldOff .s2 none (setSectionState .s2 .joined (turnEngineOff .s2 .coupler
      { s with ret2 := returnFor s.sec2.state }))) := ((told.modSec .s2 _).setSectionState .s2 .joined).modSec .s2 _
  have kept : FailedCoilsRest (if s.joinKeepsTarget then _ else clearTarget .c2 _) :=
    .ite joined (clearTarget_coilsRest joined .c2)
  exact (requestInjection_coilsRest kept .c2 .off).modSec .s2 _

theorem tellEngines_coilsRest (h : FailedCoilsRest s) : FailedCoilsRest (tellEngines s) := h.of_coils rfl rfl

theorem setHeld_coilsRest (h : FailedCoilsRest s) (x : Held) : FailedCoilsRest (setHeld x s) := h.of_coils rfl rfl

theorem couplerCloses_coilsRest (h : FailedCoilsRest s) : FailedCoilsRest (couplerCloses s) := by
  have held := setHeld_coilsRest (h.raise .couplerChange (.busSection .s1)) .closed
  have closed := couplerChangeSec1_coilsRest (joinSection2_coilsRest held) [.c1]
  exact tellEngines_coilsRest (.ite (closed.raise _ _) (.ite (enterFault_coilsRest closed .s1) closed))

theorem leaveJoined_coilsRest (h : FailedCoilsRest s) : FailedCoilsRest (leaveJoined s) := by
  have left {t : State} (ht : FailedCoilsRest t) : FailedCoilsRest { t with ret2 := .disabled } := ht.of_coils rfl rfl
  unfold leaveJoined
  refine left ?_
  split
  · exact .ite (h.setSectionState _ _) (enterStarting_coilsRest h _)
  · exact h.setSectionState _ _
  · exact h.setSectionState _ _

theorem couplerOpens_coilsRest (h : FailedCoilsRest s) : FailedCoilsRest (couplerOpens s) := by
  have changed := couplerChangeSec1_coilsRest (h.raise .couplerChange (.busSection .s1)) [.c1, .c2]
  exact tellEngines_coilsRest (leaveJoined_coilsRest
    (setHeld_coilsRest (.ite (enterRecovery_coilsRest changed .s1) changed) .open))

theorem couplerValue_coilsRest (h : FailedCoilsRest s) (v : CouplerValue) : FailedCoilsRest (couplerValue v s) := by
  have noted : FailedCoilsRest { s with coupler :=
      { s.coupler with last := some (v, s.ms), staleTimer := some (s.ms + span s.couplerTimeout) } } := h.of_coils rfl rfl
  unfold couplerValue
  refine setUnsure_coilsRest ?_ _
  split
  · exact couplerCloses_coilsRest noted
  · exact couplerOpens_coilsRest noted
  · exact noted

/-! Windows and decisions (R61, R72 to R83, R95 to R105) -/

theorem takeDecision_coilsRest (h : FailedCoilsRest s) (n : SecId) (g : Trigger) (e : Int) :
    FailedCoilsRest (takeDecision n g e s) := by
  have decided {x : Decision} : FailedCoilsRest (s.modSec n fun y => { y with decision := some x }) := h.modSec n _
  exact .ite decided (handOn_coilsRest (handOn_coilsRest (.ite (decided.raise _ _) decided) .c1 _ _) .c2 _ _)

theorem targetTakes_coilsRest (h : FailedCoilsRest s) (n : SecId) (k : UpdateKind) (e : Int) :
    FailedCoilsRest (targetTakes n k e s) := by
  have counted {x : Nat} : FailedCoilsRest (s.modSec n fun y => { y with counter := x }) := h.modSec n _
  cases k with
  | first => exact takeDecision_coilsRest counted _ _ _
  | step => exact takeDecision_coilsRest counted _ _ _
  | filtered => exact .ite (takeDecision_coilsRest counted _ _ _) counted

theorem rejectWindow_coilsRest (h : FailedCoilsRest s) (n : SecId) (w : Window) (f : Phasors) (why : RejectReason) :
    FailedCoilsRest (rejectWindow n w f why s) := by
  have rejected : FailedCoilsRest (windowRejected n w f why s) := ((h.modSec n _).raise _ _).modSec n _
  exact .ite (haltSection_coilsRest (rejected.raise _ _) n _) rejected

theorem acceptWindow_coilsRest (h : FailedCoilsRest s) (n : SecId) (w : Window) (f : Phasors) (x : Int) :
    FailedCoilsRest (acceptWindow n w f x s) := by
  have taken : FailedCoilsRest (windowTaken n w f x s) := FailedCoilsRest.modSec (.ite ((h.modSec n _).raise _ _) (h.modSec n _)) n _
  have told : FailedCoilsRest (windowAccepted n w f x s) := .ite (firstEstimate_coilsRest taken n) taken
  exact targetTakes_coilsRest told n _ _

theorem estimateWindow_coilsRest (h : FailedCoilsRest s) (n : SecId) (w : Window) (f : Phasors) :
    FailedCoilsRest (estimateWindow n w f s) := by
  have measured (bL : Option Int) : FailedCoilsRest (windowMeasured n f bL s) := h.modSec n _
  cases hb : windowSusceptance w s with
  | none => rw [estimateWindow_none hb]; exact rejectWindow_coilsRest (measured none) n w f _
  | some b =>
    have raw (x : Int) : FailedCoilsRest (windowRaw n f b x s) := (measured (some b)).modSec n _
    rw [estimateWindow_some hb]
    exact .ite (acceptWindow_coilsRest (raw _) n w f _) (rejectWindow_coilsRest (raw _) n w f _)

theorem completeWindow_coilsRest (h : FailedCoilsRest s) (n : SecId) (w : Window) :
    FailedCoilsRest (completeWindow n w s) := by
  have ended (f : Phasors) : FailedCoilsRest (windowEnded n f s) := h.modSec n _
  rw [completeWindow_eq]
  dsimp only
  split
  · exact rejectWindow_coilsRest (ended _) n w _ _
  · exact estimateWindow_coilsRest (ended _) n w _

theorem engineTakes_coilsRest (h : FailedCoilsRest s) (n : SecId) (p : Pair) : FailedCoilsRest (engineTakes n p s) := by
  have set (g : Engine) : FailedCoilsRest (s.setEngine n g) := h.modSec n _
  unfold engineTakes
  dsimp only
  split
  · exact h
  · exact .ite (set _) (.ite (.ite (set _) (set _)) h)
  · exact .ite (completeWindow_coilsRest h n _) (set _)

/-! Supervision and deliveries (R39, R151 to R157) -/

theorem setSup_coilsRest (h : FailedCoilsRest s) (n : SecId) (v : Supervisor) : FailedCoilsRest (s.setSup n v) := h.modSec n _

theorem confirmFault_coilsRest (h : FailedCoilsRest s) (n : SecId) (x : Capture) : FailedCoilsRest (confirmFault n x s) :=
  faultConfirmed_coilsRest ((h.modSec n _).raise _ _) n

theorem clearFault_coilsRest (h : FailedCoilsRest s) (n : SecId) : FailedCoilsRest (clearFault n s) :=
  faultCleared_coilsRest ((h.modSec n _).raise _ _) n

theorem judgeWatch_coilsRest (h : FailedCoilsRest s) (n : SecId) (x : Nat) (q : Int) :
    FailedCoilsRest (judgeWatch n x q s) :=
  .ite (.ite (confirmFault_coilsRest h n _) (setSup_coilsRest h n _)) (setSup_coilsRest h n _)

theorem judgeStanding_coilsRest (h : FailedCoilsRest s) (n : SecId) (q : Int) : FailedCoilsRest (judgeStanding n q s) :=
  .ite (.ite (clearFault_coilsRest (setSup_coilsRest h n _) n) (setSup_coilsRest h n _)) (setSup_coilsRest h n _)

theorem closeCycle_coilsRest (h : FailedCoilsRest s) (n : SecId) (a : CycleAcc) : FailedCoilsRest (closeCycle n a s) := by
  unfold closeCycle
  refine .ite (setSup_coilsRest h n _) ?_
  dsimp only
  split
  · exact judgeWatch_coilsRest (setSup_coilsRest h n _) n _ _
  · exact judgeStanding_coilsRest (setSup_coilsRest h n _) n _
  · exact setSup_coilsRest h n _

theorem handOver_coilsRest (h : FailedCoilsRest s) (n : SecId) (d : Delivery) : FailedCoilsRest (handOver n d s) := by
  cases d with
  | pair p =>
    have taken := engineTakes_coilsRest h n p
    exact .ite taken (.ite (closeCycle_coilsRest taken n _) (setSup_coilsRest taken n _))
  | gap first count =>
    have told : FailedCoilsRest (engineTakesGap n s) := h.modSec n _
    exact told.modSec n _

theorem deliver_coilsRest (h : FailedCoilsRest s) (n : SecId) (ds : List Delivery) : FailedCoilsRest (deliver n ds s) := by
  induction ds generalizing s with
  | nil => exact h
  | cons d ds ih => exact .ite (handOver_coilsRest h n d) (ih (handOver_coilsRest h n d))

/-! Status records and expiries (R114 to R124, R142, R156) -/

/-- A coil that holds what a FAILED coil lacks is not FAILED. -/
theorem FailedCoilsRest.sound_of (h : FailedCoilsRest s) (holds : ¬ (s.coil c).rests) : (s.coil c).failed = false := by
  cases failed : (s.coil c).failed
  · rfl
  · exact absurd (h c failed) holds

/-- A coil that is not FAILED changes, and its failed mark does not. -/
theorem FailedCoilsRest.modSound (h : FailedCoilsRest s) (sound : (s.coil c).failed = false) {f : Coil → Coil}
    (same : (f (s.coil c)).failed = (s.coil c).failed := by rfl) : FailedCoilsRest (s.modCoil c f) :=
  h.modCoil c fun _ => .sound (same.trans sound)

theorem not_rests_of_inFlight {k : Coil} {f : InFlight} (flies : k.inFlight = some f) : ¬ k.rests := by
  rintro ⟨inFlight, -⟩
  rw [flies] at inFlight
  cases inFlight

theorem not_rests_of_move {k : Coil} {m : Move} (moves : k.move = some m) : ¬ k.rests := by
  rintro ⟨-, move, -⟩
  rw [moves] at move
  cases move

theorem clearMove_coilsRest (h : FailedCoilsRest s) (c : CoilId) : FailedCoilsRest (clearMove c s) :=
  h.modCoil c fun rest failed => by
    obtain ⟨inFlight, -, pendMove, pendInj, -, heldInj, accept, confirm, -, silence⟩ := rest failed
    exact ⟨inFlight, rfl, pendMove, pendInj, rfl, heldInj, accept, confirm, rfl, silence⟩

/-- An accepted record acts on the coil that had it in flight (R114). -/
theorem acceptKind_coilsRest (h : FailedCoilsRest s) (sound : (s.coil c).failed = false) (k : RecordKind) :
    FailedCoilsRest (acceptKind c k s) := by
  unfold acceptKind
  split
  · refine h.modSound sound ?_
    split <;> rfl
  · exact .ite (((clearMove_coilsRest h c).modSec _ _).modSec _ _) h
  · exact h.modSound sound
  · exact h.modSound sound

theorem testAcceptance_coilsRest (h : FailedCoilsRest s) (c : CoilId) (e : Bool) : FailedCoilsRest (testAcceptance c e s) := by
  unfold testAcceptance
  split
  · exact h
  · next f flies =>
    have sound := h.sound_of (not_rests_of_inFlight flies)
    exact .ite (acceptKind_coilsRest (h.modSound sound) (by rw [State.coil_modCoil]; exact sound) _) h

theorem testFailure_coilsRest (h : FailedCoilsRest s) (c : CoilId) (r : StatusRecord) :
    FailedCoilsRest (testFailure c r s) := by
  rcases testFailure_cases c r s with e | ⟨k, e⟩ <;> rw [e]
  exacts [h, failCoil_coilsRest h c k]

theorem testArrival_coilsRest (h : FailedCoilsRest s) (c : CoilId) (r : StatusRecord) :
    FailedCoilsRest (testArrival c r s) := by
  unfold testArrival
  split
  · exact h
  · next m moves =>
    have marked (x : Move) : FailedCoilsRest (s.modCoil c fun k => { k with move := some x }) :=
      h.modSound (h.sound_of (not_rests_of_move moves))
    exact .ite (((clearMove_coilsRest (marked _) c).raise _ _).modSec _ _) (marked _)

theorem testConfirmed_coilsRest (h : FailedCoilsRest s) (c : CoilId) (r : StatusRecord) :
    FailedCoilsRest (testConfirmed c r s) := by
  unfold testConfirmed
  split
  · next f runs =>
    have busy : ¬ (s.coil c).rests := by
      rintro ⟨-, -, -, -, -, -, -, confirm, -⟩
      rw [runs] at confirm
      cases confirm
    exact .ite (injectionConfirmed_coilsRest (h.modSound (h.sound_of busy)) _) h
  · exact h

theorem testLost_coilsRest (h : FailedCoilsRest s) (c : CoilId) (r : StatusRecord) : FailedCoilsRest (testLost c r s) := by
  have dropped : FailedCoilsRest (s.modCoil c fun k => { k with heldInj := .off }) := h.modCoil c fun rest failed => by
    obtain ⟨inFlight, move, pendMove, pendInj, pendStop, -, timers⟩ := rest failed
    exact ⟨inFlight, move, pendMove, pendInj, pendStop, rfl, timers⟩
  unfold testLost
  split
  · exact .ite h (injectionLost_coilsRest dropped _)
  · exact h
  · exact h

theorem treatStatus_coilsRest (h : FailedCoilsRest s) (c : CoilId) (r : StatusRecord) :
    FailedCoilsRest (treatStatus c r s) := by
  have reported : FailedCoilsRest (s.modCoil c fun x => x.report r s.ms) := h.modCoil c (·.report r s.ms)
  have seen := (reported.keep (coil_engineSeesStatus .s1 c r _)).keep (coil_engineSeesStatus .s2 c r _)
  have tested := testFailure_coilsRest (testAcceptance_coilsRest seen c r.echo) c r
  have finished := testLost_coilsRest (testConfirmed_coilsRest (testArrival_coilsRest tested c r) c r) c r
  exact .ite reported (.ite tested (takePending_coilsRest finished c))

theorem acceptanceExpires_coilsRest (h : FailedCoilsRest s) (c : CoilId) : FailedCoilsRest (acceptanceExpires c s) := by
  unfold acceptanceExpires
  split
  · next f _ flies _ =>
    have sound := h.sound_of (not_rests_of_inFlight flies)
    have stopped : FailedCoilsRest (s.modCoil c fun k => { k with acceptTimer := none }) := h.modSound sound
    have offered : FailedCoilsRest (offerRecord c true f.record (s.modCoil c fun k => { k with acceptTimer := none })) :=
      stopped.drive (offerRecord_acts c true f.record _) fun failed => by
        rw [State.coil_modCoil] at failed
        exact absurd (failed.symm.trans sound) (by decide)
    exact .ite (failCoil_coilsRest h c _) (.ite offered (withdraw_coilsRest h c))
  · exact h

theorem failCoilIf_coilsRest (h : FailedCoilsRest s) {b : Prop} [Decidable b] (c : CoilId) (k : EventKind) :
    FailedCoilsRest (if b then failCoil c k s else s) := .ite (failCoil_coilsRest h c k) h

theorem staleExpires_coilsRest (h : FailedCoilsRest s) : FailedCoilsRest (staleExpires s) := by
  have stopped : FailedCoilsRest { s with coupler := { s.coupler with staleTimer := none } } := h.of_coils rfl rfl
  exact .ite (setUnsure_coilsRest stopped _) h

theorem holdOffRunsOut_coilsRest (h : FailedCoilsRest s) (n : SecId) : FailedCoilsRest (holdOffRunsOut n s) :=
  .ite (enterStarting_coilsRest (h.modSec n _) n) h

/-! Streams and receptions (R24 to R31) -/

theorem coil_ringFiled (n : SecId) (x : ValueRecord) (s : State) (c : CoilId) : (ringFiled n x s).coil c = s.coil c := by
  have counted (i : Fin 24) (f : Slot → Slot) (t : State) (b : Bool) :
      (if b then t.modSlot i f else t).coil c = t.coil c := by
    split
    exacts [State.coil_modSlot t i f c, rfl]
  unfold ringFiled
  dsimp only
  split
  · exact State.coil_modSec s n _ c
  · rw [counted, State.coil_modSec]
  · rw [counted, State.coil_modSec]

theorem ringTakes_coilsRest (h : FailedCoilsRest s) (n : SecId) (x : ValueRecord) : FailedCoilsRest (ringTakes n x s) := by
  rw [ringTakes_eq]
  exact deliver_coilsRest (h.keep (coil_ringFiled n x s)) n _

theorem distribute_coilsRest (h : FailedCoilsRest s) (i : Fin 24) (b : SlotBody) (p : Port) (m : List Byte) :
    FailedCoilsRest (distribute i b p m s) := by
  have binding (s : State) (x : Binding) (h : FailedCoilsRest s) : FailedCoilsRest (distributeBinding i m x s) := by
    rw [distributeBinding_eq, clampCounted_eq]
    exact ringTakes_coilsRest (h.setSlot i _) _ _
  cases b with
  | sample bs => exact foldl_coilsRest binding bs h
  | state k =>
    unfold distribute
    dsimp only
    split
    exacts [couplerValue_coilsRest h _, h]
  | drive c => exact treatStatus_coilsRest h c _

theorem voltageLost_coilsRest (h : FailedCoilsRest s) (n : SecId) : FailedCoilsRest (voltageLost n s) :=
  .ite h (haltSection_coilsRest (h.raise _ _) n _)

theorem slotStateChanged_coilsRest (h : FailedCoilsRest s) (i : Fin 24) (b : SlotBody) (was now : SlotState) :
    FailedCoilsRest (slotStateChanged i b was now s) := by
  by_cases same : was = now
  · rw [same, slotStateChanged_same]; exact h
  · have told (b1 b2 : Bool) : FailedCoilsRest (voltageTold b1 b2 (raise .streamState (.slot i) s)) := by
      have one : FailedCoilsRest (if b1 then voltageLost .s1 _ else _) :=
        .ite (voltageLost_coilsRest (h.raise .streamState (.slot i)) .s1) (h.raise .streamState (.slot i))
      exact .ite (voltageLost_coilsRest one .s2) one
    rw [slotStateChanged_changed same]
    unfold availabilityTold
    split
    · exact .ite (told _ _) (reportAvailability_coilsRest (told _ _) _)
    · exact told _ _
    · exact told _ _

theorem slotTakes_coilsRest (h : FailedCoilsRest s) (i : Fin 24) (b : SlotBody) (p : Port) (m : List Byte) :
    FailedCoilsRest (slotTakes i b p m s) := by
  have told : FailedCoilsRest (frameTold i b m s) := slotStateChanged_coilsRest (h.setSlot i _) i b _ _
  by_cases hd : Distributes i b m s
  · rw [slotTakes_distributes hd]; exact distribute_coilsRest told i b p m
  · rw [slotTakes_told hd]; exact told

theorem offerToMatcher_coilsRest (h : FailedCoilsRest s) (k : FrameClass) (p : Port) (m : List Byte) :
    FailedCoilsRest (offerToMatcher k p m s) := by
  have uncounted : FailedCoilsRest (countUnmatched p s) := h.modPort p _
  unfold offerToMatcher
  split
  · exact uncounted
  · split
    · exact uncounted
    · split
      exacts [slotTakes_coilsRest h _ _ p m, h]

theorem receive_coilsRest (h : FailedCoilsRest s) (p : Port) (f : Frame) (lost : Bool) :
    FailedCoilsRest (receive p f lost s) := by
  have good {s : State} (h : FailedCoilsRest s) : FailedCoilsRest (handleGood p f s) := by
    have relayed := h.link (relay_frame p f s)
    unfold handleGood
    dsimp only
    split
    case h_1 | h_2 => exact relayed
    case h_3 => exact relayed.modPort p _
    case h_7 =>
      refine .ite ?_ relayed
      unfold enqueueRequest
      exact .ite (h.of_coils rfl rfl) (h.of_coils rfl rfl)
    all_goals exact offerToMatcher_coilsRest relayed _ p _
  unfold receive
  dsimp only
  split
  exacts [(h.modPort p _).modPort p _, good (h.modPort p _)]

/-! Requests, commands and steps (R16, R91, R126, R127, R172, R175, R178) -/

theorem writeSlot_coilsRest (h : FailedCoilsRest s) (i : Fin 24) (d : Option SlotDef) :
    FailedCoilsRest (writeSlot i d s) := fun c => by
  have rebound : ((s.coil c).rebind c i d).RestsIfFailed := Coil.RestsIfFailed.rebind (h c) c i d
  rcases coil_writeSlot i d s c with e | e <;> rw [e]
  exacts [rebound, rebound.clearTarget]

theorem enableSlot_coilsRest (h : FailedCoilsRest s) (i : Fin 24) : FailedCoilsRest (enableSlot i s) := by
  have enabled : FailedCoilsRest (slotEnabled i s) := (h.setSlot i _).link (slotEnabled_frame i s)
  exact .ite (reportAvailability_coilsRest enabled true) enabled

theorem manualMove_coilsRest (h : FailedCoilsRest s) (c : CoilId) (p : Nat) : FailedCoilsRest (manualMove c p s) :=
  .ite h (requestMove_coilsRest h c p .manual)

/-- RESET_PART leaves no coil FAILED (R130). -/
theorem resetPart_coilsRest (s : State) : FailedCoilsRest (resetPart s) := fun c => by
  rw [coil_resetPart, coil_resetOffered]
  refine Coil.RestsIfFailed.sound ?_
  unfold Coil.sent
  split <;> rfl

theorem RequestActs.coilsRest (acts : RequestActs s t) (h : FailedCoilsRest s) : FailedCoilsRest t := by
  cases acts with
  | nothing => exact h
  | slotWritten i d => exact writeSlot_coilsRest h i d
  | masksWritten => exact h.of_coils rfl rfl
  | slotEnabled i => exact enableSlot_coilsRest h i
  | tableWritten c b => exact h.modCoil c (·.clearTarget)
  | sectionSet n x => exact h.modSec n _
  | coilSet c x => exact h.modCoil c
  | globalsSet b =>
    obtain ⟨-, -, -, coil1, coil2, -⟩ := writeNominal_reads (globalsOf b).nominal s
    exact h.of_coils coil1 coil2
  | liveSet b => exact h.of_coils rfl rfl
  | stateRead => exact h.of_coils rfl rfl
  | eventsRead => exact h.of_coils rfl rfl
  | summaryRead => exact h.of_coils rfl rfl
  | portRead p => exact h.modPort p _
  | slotRead i => exact h.setSlot i _
  | sectionStarted n => exact enterStarting_coilsRest h n
  | sectionDisabled n => exact disableSection_coilsRest h n
  | frozen z n => exact setInhibit_coilsRest h n _
  | coilReleased c => exact h.modCoil c fun _ => .sound rfl
  | coilMoved c p => exact manualMove_coilsRest h c p
  | reset => exact resetPart_coilsRest s

theorem CommandActs.coilsRest (acts : CommandActs s t) (h : FailedCoilsRest s) : FailedCoilsRest t := by
  cases acts with
  | nothing => exact h
  | received p f lost => exact receive_coilsRest h p f lost
  | sent p => exact h.modPort p _
  | linkLost p => exact .ite ((h.modPort p _).raise _ _) h
  | linkRestored p => exact h.modPort p _
  | heldOff n => exact holdOffRunsOut_coilsRest h n
  | acceptance c => exact acceptanceExpires_coilsRest h c
  | confirmation c => exact failCoilIf_coilsRest h c _
  | moveLimit c => exact failCoilIf_coilsRest h c _
  | silence c => exact failCoilIf_coilsRest h c _
  | stale => exact staleExpires_coilsRest h
  | reasserted =>
    unfold alarmReasserts
    split <;> exact h.of_coils rfl rfl
  | answered r x acts =>
    rw [answer_frame]
    exact (acts.coilsRest h).of_coils rfl rfl

theorem StepActs.coilsRest (acts : StepActs s t) (h : FailedCoilsRest s) : FailedCoilsRest t := by
  cases acts with
  | nothing => exact h
  | ticked => exact h.of_coils rfl rfl
  | acted _ acts => exact conclude_coilsRest (acts.coilsRest h)
  | restarted => exact fun c => by cases c <;> exact Coil.RestsIfFailed.sound rfl
  | linkReported p => exact h.modPort p _
  | resetHeld => exact h.of_coils rfl rfl
  | supplyLost => exact h.of_coils rfl rfl

/-- Settles O58: a coil that fails comes to rest, a coil at rest is no part of any operation while it is FAILED, and what ends
the failed mark asks nothing of it. -/
theorem stepKeepsFailedCoilsAtRest : Obligations.StepKeepsFailedCoilsAtRest := by
  intro s t rests ht
  obtain ⟨q, acts⟩ := step_acts ht
  have before : FailedCoilsRest { s with pending := q } := FailedCoilsRest.of_coils (s := s) rests rfl rfl
  exact acts.coilsRest before

end Sys2Proof.Machine

/-! ### Pending work becomes the record in flight, and leaves the rest of its coil (R111 to R113) -/

namespace Sys2Proof.Machine

variable {s t u : State} {c : CoilId} {f : InFlight} {n : SecId}

/-- A move target may be sent: the driving section by the target's origin, and the table range (R113). -/
theorem moveMaySend_iff (c : CoilId) (q : Nat) (o : MoveOrigin) (s : State) : moveMaySend c q o s = true ↔
    inTableRange (s.coil c).table q = true
      ∧ (o = .automatic ∧ (s.sec (s.driver c)).state = .tracking ∧ (s.sec (s.driver c)).inhibit.isEmpty = true
        ∨ o = .manual ∧ (s.sec (s.driver c)).state = .disabled) := by
  cases o <;> simp [moveMaySend, and_comm]

theorem injects_iff (st : SecState) : st.injects = true ↔ st = .starting ∨ st = .measuring ∨ st = .tracking := by
  cases st <;> simp [SecState.injects]

theorem channelFree_iff (k : Coil) : k.channelFree = true ↔
    k.takesRequests = true ∧ k.toggle.isSome = true ∧ k.inFlight = none := by
  simp [Coil.channelFree, Coil.takesRequests, and_assoc]

/-- The record in flight after a tracked record was formed is that record (R110). -/
theorem kind_of_formTracked {g : Coil → Coil} {k : RecordKind} (toggle : (g (s.coil c)).toggle.isSome = true)
    (flies : ((formTracked c k (s.modCoil c g)).coil c).inFlight = some f) : f.record.kind = k := by
  obtain ⟨_, f', _, _, _, e, kind⟩ := coil_formTracked_modCoil toggle k
  rw [e] at flies
  cases flies
  exact kind

/-- The pending target may become the move in flight, and `k` is the kind of its record (R113 item 3). -/
def MoveTaken (c : CoilId) (k : RecordKind) (s : State) : Prop :=
  ∃ t, (s.coil c).pendMove = some t ∧ (s.coil c).move = none ∧ moveMaySend c t.target t.origin s = true ∧ k = .moveTo t.target

theorem takeMove_sends (toggle : (s.coil c).toggle.isSome = true) (free : (s.coil c).inFlight = none)
    (flies : ((takeMove c s).coil c).inFlight = some f) : MoveTaken c f.record.kind s := by
  have unsent {k : Coil} (none : k.inFlight = none) (flies : k.inFlight = some f) : MoveTaken c f.record.kind s := by
    rw [none] at flies
    cases flies
  unfold takeMove at flies
  dsimp only at flies
  split at flies
  · exact unsent free flies
  · next t pend =>
    split at flies
    · next atRest =>
      rw [Bool.and_eq_true, Option.isNone_iff_eq_none] at atRest
      split at flies
      · next may => exact ⟨t, pend, atRest.2, may, kind_of_formTracked (by exact toggle) flies⟩
      · rw [State.coil_modCoil] at flies
        exact unsent free flies
    · exact unsent free flies

/-- The pending item that became the record in flight, with the condition under which it did (R113). -/
inductive Sends (c : CoilId) (s : State) : RecordKind → Prop
  | stop (pend : (s.coil c).pendStop = true) : Sends c s .stop
  | injectOff (pend : (s.coil c).pendInj = some .off) : Sends c s .injectOff
  | injectOn {j : Nat} (pend : (s.coil c).pendInj = some (.on j)) (may : injectMaySend c s = true) : Sends c s (.injectOn j)
  | move {k : RecordKind} (taken : MoveTaken c k s) : Sends c s k

/-- Pending work leaves only through a free channel, and only under its send condition (R113). -/
theorem takePending_sends (free : (s.coil c).inFlight = none) (flies : ((takePending c s).coil c).inFlight = some f) :
    (s.coil c).channelFree = true ∧ Sends c s f.record.kind := by
  unfold takePending at flies
  dsimp only at flies
  split at flies
  · next channel =>
    have toggle := channelFree_toggle channel
    refine ⟨channel, ?_⟩
    split at flies
    · next pend => rw [kind_of_formTracked (by exact toggle) flies]; exact .stop pend
    · split at flies
      · next pend => rw [kind_of_formTracked (by exact toggle) flies]; exact .injectOff pend
      · next j pend =>
        split at flies
        · next may => rw [kind_of_formTracked (by exact toggle) flies]; exact .injectOn pend may
        · obtain ⟨t, target, move, may, kind⟩ := takeMove_sends
            (by rw [State.coil_modCoil]; exact toggle) (by rw [State.coil_modCoil]; exact free) flies
          rw [State.coil_modCoil] at target move
          rw [moveMaySend_modCoil (by rfl)] at may
          exact .move ⟨t, target, move, may, kind⟩
      · exact .move (takeMove_sends toggle free flies)
  · rw [free] at flies
    cases flies

/-- Settles O22, by the item that was pending. -/
theorem sendConditionGuardsRecords : Obligations.SendConditionGuardsRecords := by
  intro c s f free flies
  obtain ⟨channel, sends⟩ := takePending_sends free flies
  obtain ⟨takes, toggle, -⟩ := (channelFree_iff _).1 channel
  refine ⟨(takesRequests_iff.1 takes).1, toggle, ?_⟩
  generalize f.record.kind = k at sends
  cases sends with
  | stop pend => exact ⟨fun _ => pend, nofun, nofun, nofun⟩
  | injectOff pend => exact ⟨nofun, fun _ => pend, nofun, nofun⟩
  | injectOn pend may =>
    refine ⟨nofun, nofun, fun j e => ?_, nofun⟩
    cases e
    exact ⟨pend, (injects_iff _).1 may⟩
  | move taken =>
    obtain ⟨⟨target, origin⟩, pend, move, may, rfl⟩ := taken
    refine ⟨nofun, nofun, nofun, fun p e => ?_⟩
    cases e
    obtain ⟨inRange, allowed⟩ := (moveMaySend_iff c target origin s).1 may
    rcases allowed with ⟨rfl, allowed⟩ | ⟨rfl, allowed⟩
    exacts [⟨move, inRange, .inl ⟨pend, allowed⟩⟩, ⟨move, inRange, .inr ⟨pend, allowed⟩⟩]

end Sys2Proof.Machine

/-! ### The drive timers fail their coil (R115, R119, R121, R123) -/

namespace Sys2Proof.Machine

variable {s : State} {c : CoilId}

theorem acceptanceExpires_fails {f : InFlight} (flies : (s.coil c).inFlight = some f)
    (runs : (s.coil c).acceptTimer.isSome = true) (sends : 3 ≤ f.sends) :
    acceptanceExpires c s = failCoil c .driveLost s := by
  obtain ⟨x, hx⟩ := Option.isSome_iff_exists.1 runs
  simp [acceptanceExpires, flies, hx, sends]

/-- Settles O26: each of the four timers fails its coil, and a coil that fails does what R125 asks. -/
theorem timersFailTheirCoil : Obligations.TimersFailTheirCoil := by
  intro c s live
  have expires {e : State → State} {k : EventKind} (fails : e s = failCoil c k s) :
      ∃ u, Host.Outcome.next (act e s) = (.next (conclude u) : Host.Outcome State Fault Refusal) ∧ FailedWith k c s u :=
    ⟨failCoil c k s, by rw [act_live live, fails], failCoil_failedWith c k s⟩
  exact ⟨fun f flies runs sends => expires (acceptanceExpires_fails flies runs sends), fun runs => expires (if_pos runs),
    fun runs => expires (if_pos runs), fun runs => expires (if_pos runs)⟩

end Sys2Proof.Machine

/-! ### FREEZE, UNFREEZE, RELEASE_COIL and MANUAL_MOVE (R111, R113, R126, R127, R144) -/

namespace Sys2Proof.Machine

variable {s t u : State} {r : Request} {b : List Byte} {c : CoilId} {n : SecId}

/-- A section number names its section (R182). -/
theorem withSection_number (hl : b.length = 4) (hn : word b 0 = SecId.number n) (f : SecId → State → Served) (s : State) :
    withSection f b s = f n s := withSection_eq hl (by rw [hn, secOf_number]) f s

theorem withCoil_number (hl : b.length = 4) (hc : word b 0 = CoilId.number c) (f : CoilId → State → Served) (s : State) :
    withCoil f b s = f c s := withCoil_eq hl (by rw [hc, coilOf_number]) f s

/-- The pending targets of the coils named are cleared, and nothing of the others is (R111). -/
theorem coil_clearTargets_eq (cs : List CoilId) (c : CoilId) (s : State) :
    (clearTargets cs s).coil c = if c ∈ cs then { s.coil c with pendMove := none } else s.coil c := by
  unfold clearTargets
  induction cs generalizing s with
  | nil => rfl
  | cons d cs ih =>
    rw [List.foldl_cons, ih]
    unfold clearTarget
    by_cases hd : c = d
    · rw [hd, State.coil_modCoil, if_pos List.mem_cons_self, ite_self]
    · rw [State.coil_modCoil_other _ _ _ _ hd]
      simp only [List.mem_cons, hd, false_or]

theorem port_clearTargets (cs : List CoilId) (s : State) (p : Port) : (clearTargets cs s).port p = s.port p := by
  unfold clearTargets
  induction cs generalizing s with
  | nil => rfl
  | cons d cs ih => rw [List.foldl_cons, ih, clearTarget, State.port_modCoil]

/-- A section takes a new inhibit set, before what follows from it (R144). -/
def inhibitSet (n : SecId) (x : Inhibit) (s : State) : State := s.modSec n fun y => { y with inhibit := x }

theorem setInhibit_filled {x : Inhibit} (was : (s.sec n).inhibit.isEmpty = true) (now : x.isEmpty = false) :
    setInhibit n x s = clearTargets (s.drives n) (inhibitSet n x s) := by
  simp [setInhibit, inhibitSet, was, now, State.drives, State.joined]

theorem setInhibit_other {x : Inhibit} (h : (s.sec n).inhibit.isEmpty = false ∨ x.isEmpty = true) :
    setInhibit n x s = inhibitSet n x s := by
  rcases h with h | h <;> simp [setInhibit, inhibitSet, h]

/-- FREEZE changes the section's inhibit set, and the coils it drives where the set was empty. -/
theorem setFrozen_true (n : SecId) (s : State) : setFrozen true n s =
    clearTargets (if (s.sec n).inhibit.isEmpty then s.drives n else [])
      (inhibitSet n { (s.sec n).inhibit with frozen := true } s) := by
  unfold setFrozen
  split
  · next was => exact setInhibit_filled was (by simp [Inhibit.isEmpty])
  · next was => exact setInhibit_other (.inl (Bool.eq_false_iff.2 was))

/-- A set that FROZEN leaves was not empty, or is empty still. -/
theorem setFrozen_false (n : SecId) (s : State) : setFrozen false n s =
    s.modSec n fun x => { x with inhibit := { x.inhibit with frozen := false } } := by
  unfold setFrozen
  cases was : (s.sec n).inhibit.isEmpty
  · exact setInhibit_other (.inl was)
  · refine setInhibit_other (.inr ?_)
    simp only [Inhibit.isEmpty, Bool.and_eq_true] at was ⊢
    exact ⟨rfl, was.2⟩

/-- What FREEZE makes of sections, coils and ports. -/
theorem setFrozen_true_reads (n : SecId) (s : State) :
    (setFrozen true n s).sec n = { s.sec n with inhibit := { (s.sec n).inhibit with frozen := true } }
      ∧ (∀ m, m ≠ n → (setFrozen true n s).sec m = s.sec m)
      ∧ (∀ c, (setFrozen true n s).coil c =
          if (s.sec n).inhibit.isEmpty = true ∧ c ∈ s.drives n then { s.coil c with pendMove := none } else s.coil c)
      ∧ ∀ p, (setFrozen true n s).port p = s.port p := by
  have sec (m : SecId) := (clearTargets_frame (if (s.sec n).inhibit.isEmpty then s.drives n else [])
    (inhibitSet n { (s.sec n).inhibit with frozen := true } s)).sec m
  rw [setFrozen_true]
  refine ⟨?_, fun m hm => ?_, fun c => ?_, fun p => ?_⟩
  · rw [sec, inhibitSet, State.sec_modSec]
  · rw [sec, inhibitSet, State.sec_modSec_other _ _ _ _ hm]
  · rw [coil_clearTargets_eq, inhibitSet, State.coil_modSec]
    cases (s.sec n).inhibit.isEmpty <;> simp
  · rw [port_clearTargets, inhibitSet, State.port_modSec]

theorem setFrozen_frame (z : Bool) (n : SecId) (s : State) :
    AgreeBeyondLinks { s with sec1 := (setFrozen z n s).sec1, sec2 := (setFrozen z n s).sec2 } (setFrozen z n s) := by
  cases z
  · rw [setFrozen_false]
    cases n <;> rfl
  · have cleared := clearTargets_frame (if (s.sec n).inhibit.isEmpty then s.drives n else [])
      (inhibitSet n { (s.sec n).inhibit with frozen := true } s)
    rw [setFrozen_true]
    unfold AgreeBeyondLinks
    unfold DriveFrame at cleared
    rw [cleared]
    cases n <;> rfl

/-- A coil at rest that is no longer FAILED is IDLE or UNBOUND by its binding (R108, R126). -/
theorem state_released {k : Coil} (rests : k.rests) :
    ({ k with failed := false, toggle := none } : Coil).state = if k.binding.isSome then .idle else .unbound := by
  obtain ⟨inFlight, move, -⟩ := rests
  cases k.binding <;> simp [Coil.state, inFlight, move]

/-- Settles O46, request by request. -/
theorem freezeUnfreezeAndRelease : Obligations.FreezeUnfreezeAndRelease := by
  intro s r b hl
  refine ⟨fun n hn => ⟨fun serving => ?_, fun serving => ?_⟩, fun c hc serving => ?_⟩
  · obtain ⟨own, others, coils, ports⟩ := setFrozen_true_reads n s
    refine ⟨setFrozen true n s, ?_, own, others, coils, setFrozen_frame true n s, ports .a, ports .b⟩
    exact congrArg Host.Outcome.next
      ((act_serving serving _).trans (by rw [withSection_number hl hn]; rfl))
  · rw [← setFrozen_false]
    exact congrArg Host.Outcome.next
      ((act_serving serving _).trans (by rw [withSection_number hl hn]; rfl))
  · have served : exec .releaseCoil s = .next (conclude (answer r (serveReleaseCoil c s))) :=
      congrArg Host.Outcome.next ((act_serving serving _).trans (by rw [withCoil_number hl hc]))
    refine ⟨fun sound => ?_, fun failed => ⟨?_, state_released⟩⟩
    · rw [served, serveReleaseCoil, if_neg (by rw [sound]; decide)]
    · rw [served, serveReleaseCoil, if_pos failed]
      rfl

/-- MANUAL_MOVE of a coil that the request names is judged by the range first, and then by section and coil (R127). -/
theorem serveManualMove_eq (hl : b.length = 8) (hc : word b 0 = CoilId.number c) (s : State) : serveManualMove b s =
    if inTableRange (s.coil c).table (word b 1) = false then unchanged s (.range 1 none)
    else if (s.sec (s.driver c)).state = .disabled ∧ (s.coil c).takesRequests then done (manualMove c (word b 1) s)
    else unchanged s .state := by
  simp [serveManualMove, hl, hc, coilOf_number]

theorem takesRequests_iff_state (k : Coil) : k.takesRequests = true ↔ k.state ≠ .failed ∧ k.state ≠ .unbound := by
  simp only [Coil.takesRequests, Bool.and_eq_true, bne_iff_ne]

/-- Settles O47, check by check. -/
theorem manualMovePlaces : Obligations.ManualMovePlaces := by
  intro s r b c serving hl hc
  have served : exec .manualMove s = .next (conclude (answer r (serveManualMove b s))) :=
    congrArg Host.Outcome.next (act_serving serving _)
  rw [serveManualMove_eq hl hc] at served
  refine ⟨fun outside => ?_, fun inside => ⟨fun barred => ?_, fun off sound bound => ?_⟩⟩
  · rw [served, if_pos outside]
  · rw [served, if_neg (by rw [inside]; decide), if_neg]
    rw [takesRequests_iff_state]
    rintro ⟨off, sound, bound⟩
    rcases barred with on | failed | unbound
    exacts [on off, sound failed, bound unbound]
  · have takes := (takesRequests_iff_state _).2 ⟨sound, bound⟩
    rw [if_neg (by rw [inside]; decide), if_pos ⟨off, takes⟩] at served
    refine ⟨fun aims => ?_, fun aims => ?_⟩
    · rw [served, manualMove, if_pos aims]
    · have acts := requestMove_acts c (word b 1) .manual s
      refine ⟨requestMove c (word b 1) .manual s, ?_, ?_, acts.others, acts.frame⟩
      · rw [served, manualMove, if_neg aims]
      · exact requestMove_placed takes ((moveMaySend_iff _ _ _ _).2 ⟨inside, .inr ⟨rfl, off⟩⟩)

end Sys2Proof.Machine

/-! ### Acceptance by echo, confirmation and loss of injection (R110, R114, R119, R121, R122) -/

namespace Sys2Proof.Machine

variable {s t : State} {n : SecId} {c d : CoilId}

/-- Pending work is taken: no target comes to be pending, and no injection comes to be held but as sent (R111, R113). -/
structure Coil.Works (k k' : Coil) : Prop where
  target : k'.pendMove = k.pendMove ∨ k'.pendMove = none
  held : k'.heldInj = k.heldInj ∨ ∃ j, k'.heldInj = .sent j

namespace Coil.Works

theorem refl (k : Coil) : k.Works k := ⟨.inl rfl, .inl rfl⟩

theorem trans {k l o : Coil} (h : k.Works l) (h' : l.Works o) : k.Works o where
  target := h'.target.elim (fun e => h.target.imp e.trans e.trans) .inr
  held := h'.held.elim (fun e => h.held.imp e.trans fun ⟨j, hj⟩ => ⟨j, e.trans hj⟩) .inr

theorem of_eq {k k' : Coil} (same : k' = k) : k.Works k' := same ▸ refl k

/-- An operation of the drive link on one coil, seen from either coil. -/
theorem of_own (acts : CoilActs c s t) (own : (s.coil c).Works (t.coil c)) (d : CoilId) : (s.coil d).Works (t.coil d) := by
  by_cases hd : d = c
  · rw [hd]; exact own
  · exact of_eq (acts.others d hd)

/-- A coil without a pending target gets none. -/
theorem noTarget {k k' : Coil} (h : k.Works k') (free : k.pendMove = none) : k'.pendMove = none :=
  h.target.elim (·.trans free) id

/-- A held injection is not made ON. -/
theorem notOn {k k' : Coil} (h : k.Works k') (off : k.heldInj = .off) (j : Nat) : k'.heldInj ≠ .on j := by
  rcases h.held with e | ⟨i, e⟩ <;> simp [e, off]

end Coil.Works

theorem formTracked_works (c : CoilId) (k : RecordKind) (s : State) : (s.coil c).Works ((formTracked c k s).coil c) := by
  cases ht : (s.coil c).toggle with
  | none => simp only [formTracked, ht]; exact .refl _
  | some b =>
    obtain ⟨_, _, _, _, _, e, -⟩ := coil_formTracked ht k
    rw [e]
    exact ⟨.inl rfl, .inl rfl⟩

/-- A change of the coil that works, and then an operation that works. -/
theorem modCoil_works {f : Coil → Coil} {op : State → State} (change : (s.coil c).Works (f (s.coil c)))
    (works : ∀ s : State, (s.coil c).Works ((op s).coil c)) : (s.coil c).Works ((op (s.modCoil c f)).coil c) := by
  have after := works (s.modCoil c f)
  rw [State.coil_modCoil] at after
  exact change.trans after

theorem takeMove_works (c : CoilId) (s : State) : (s.coil c).Works ((takeMove c s).coil c) := by
  unfold takeMove
  dsimp only
  split
  · exact .refl _
  · split
    · split
      · exact modCoil_works ⟨.inr rfl, .inl rfl⟩ (formTracked_works c _)
      · rw [State.coil_modCoil]; exact ⟨.inr rfl, .inl rfl⟩
    · exact .refl _

theorem takePending_works (c : CoilId) (s : State) : (s.coil c).Works ((takePending c s).coil c) := by
  unfold takePending
  dsimp only
  split
  · split
    · exact modCoil_works ⟨.inl rfl, .inl rfl⟩ (formTracked_works c _)
    · split
      · exact modCoil_works ⟨.inl rfl, .inl rfl⟩ (formTracked_works c _)
      · split
        · exact modCoil_works ⟨.inl rfl, .inr ⟨_, rfl⟩⟩ (formTracked_works c _)
        · exact modCoil_works ⟨.inl rfl, .inl rfl⟩ (takeMove_works c)
      · exact takeMove_works c s
  · exact .refl _

theorem requestInjection_works (d : CoilId) (q : InjReq) (s : State) (c : CoilId) :
    (s.coil c).Works ((requestInjection d q s).coil c) := by
  refine .of_own (requestInjection_acts d q s) ?_ c
  unfold requestInjection
  split
  · exact modCoil_works ⟨.inl rfl, .inl rfl⟩ (takePending_works d)
  · exact .refl _

theorem requestInjector_works (n : SecId) (q : InjReq) (s : State) (c : CoilId) :
    (s.coil c).Works ((requestInjector n q s).coil c) := by
  unfold requestInjector
  split
  · exact requestInjection_works _ q s c
  · exact .refl _

theorem enterStarting_works (n : SecId) (s : State) (c : CoilId) : (s.coil c).Works ((enterStarting n s).coil c) := by
  rw [← coil_startedSections n s c]
  exact requestInjector_works n _ (startedSections n s) c

/-- A section that enters STARTING begins with a cleared ring (R133). -/
theorem enterStarting_starts (n : SecId) (s : State) :
    ((enterStarting n s).sec n).state = .starting ∧ ((enterStarting n s).sec n).ring = Ring.cleared := by
  rw [(enterStarting_acts n s).frame.sec, startedSections, State.sec_modSec]
  exact ⟨(state_setSectionState n n .starting s).trans (if_pos rfl), rfl⟩

/-! Acceptance (R114) -/

/-- The coil of an accepted record, before the effect by kind (R124 step 3). -/
def Coil.echoed (k : Coil) : Coil :=
  { k with inFlight := none, acceptTimer := none, waiting := k.waiting.filter fun w => !w.tracked }

theorem testAcceptance_eq {f : InFlight} (flies : (s.coil c).inFlight = some f) (e : Bool) :
    testAcceptance c e s = if f.record.toggle = e then acceptKind c f.record.kind (s.modCoil c Coil.echoed) else s := by
  simp only [testAcceptance, flies]
  rfl

theorem coil_moveStopped (c : CoilId) (s : State) : (moveStopped c s).coil c =
    { s.coil c with move := none, moveTimer := none, pendStop := false } := by
  simp [moveStopped, discardWindow, moveEndCounts, clearMove]

/-- No effect of an acceptance brings a record in flight or an acceptance timer (R114). -/
theorem acceptKind_channel (c : CoilId) (k : RecordKind) (s : State) :
    ((acceptKind c k s).coil c).inFlight = (s.coil c).inFlight
      ∧ ((acceptKind c k s).coil c).acceptTimer = (s.coil c).acceptTimer := by
  cases k with
  | moveTo p =>
    simp only [acceptKind, State.coil_modCoil]
    split <;> exact ⟨rfl, rfl⟩
  | stop =>
    unfold acceptKind
    dsimp only
    split
    · rw [coil_moveStopped]; exact ⟨rfl, rfl⟩
    · exact ⟨rfl, rfl⟩
  | injectOn j => simp only [acceptKind, State.coil_modCoil, and_self]
  | injectOff => simp only [acceptKind, State.coil_modCoil, and_self]

theorem acceptKind_stop (c : CoilId) (s : State) : ((acceptKind c .stop s).coil c).move = none := by
  unfold acceptKind
  dsimp only
  split
  · rw [coil_moveStopped]
  · next rest => simpa using rest

theorem acceptKind_moveTo {m : Move} (moves : (s.coil c).move = some m) (p : Nat) :
    (acceptKind c (.moveTo p) s).coil c = { s.coil c with
      move := some { m with accepted := some s.ms }
      moveTimer := some (s.ms + span (moveLimit (s.coil c).settings m)) } := by
  simp only [acceptKind, State.coil_modCoil, moves]

/-! Confirmation (R121, R135) -/

theorem injectionConfirmed_state (n : SecId) (s : State) : ((injectionConfirmed n s).sec n).state =
    if (s.sec n).state = .starting then .measuring else (s.sec n).state := by
  unfold injectionConfirmed
  split
  · rw [State.sec_modSec]; exact (state_setSectionState n n .measuring s).trans (if_pos rfl)
  · rfl

/-! Loss of injection (R122) -/

/-- A section that measures and loses its injection starts again, with no target pending (R135, R136). -/
theorem injectionLost_measures (measures : (s.sec n).state.measures = true) :
    ((injectionLost n s).sec n).state = .starting ∧ ((injectionLost n s).sec n).ring = Ring.cleared
      ∧ .injectionLost ∈ (injectionLost n s).events.summary ∧ (∀ c, (s.coil c).Works ((injectionLost n s).coil c))
      ∧ ∀ c ∈ s.drives n, ((injectionLost n s).coil c).pendMove = none := by
  let u := clearTargets (s.drives n) (raise .injectionLost (.busSection n) s)
  have lost : injectionLost n s = enterStarting n u := by
    rw [injectionLost, if_pos measures]
    exact congrArg (fun l => enterStarting n (clearTargets l (raise .injectionLost (.busSection n) s)))
      (drives_of_coupler (raise_frame _ _ s).coupler n).1
  have cleared (c : CoilId) : u.coil c = if c ∈ s.drives n then { s.coil c with pendMove := none } else s.coil c := by
    rw [coil_clearTargets_eq, coil_raise]
  obtain ⟨starting, ring⟩ := enterStarting_starts n u
  rw [lost]
  refine ⟨starting, ring, ?_, fun c => .trans ?_ (enterStarting_works n u c), fun c hc => ?_⟩
  · rw [(enterStarting_acts n u).frame.events, startedSections, State.modSec_events, events_setSectionState,
      (clearTargets_acts _ _).frame.events]
    exact mem_summary_raise _ _ s
  · rw [cleared]
    split
    · exact ⟨.inr rfl, .inl rfl⟩
    · exact .refl _
  · exact (enterStarting_works n u c).noTarget (by rw [cleared, if_pos hc])

/-- Settles O23: the three tests that a status record makes of the record in flight, the confirmation timer and the held
injection. -/
theorem echoAccepts : Obligations.EchoAccepts := by
  refine ⟨fun c e s f flies => ⟨fun other => ?_, fun own => ?_⟩,
    fun c r s f runs => ⟨fun confirms => ?_, fun other => ?_⟩, fun c r s j on => ⟨fun same => ?_, fun lost => ?_⟩⟩
  · rw [testAcceptance_eq flies, if_neg other]
  · rw [testAcceptance_eq flies, if_pos own]
    have coil : (s.modCoil c Coil.echoed).coil c = (s.coil c).echoed := State.coil_modCoil s c _
    obtain ⟨inFlight, acceptTimer⟩ := acceptKind_channel c f.record.kind (s.modCoil c Coil.echoed)
    rw [coil] at inFlight acceptTimer
    refine ⟨inFlight, acceptTimer, fun p m kind moves => ?_, fun kind => ?_, fun j kind => ?_, fun kind => ?_⟩ <;> rw [kind]
    · rw [acceptKind_moveTo (m := m) (by rw [coil]; exact moves), coil, State.modCoil_ms]
      exact ⟨rfl, rfl⟩
    · exact acceptKind_stop c _
    · simp only [acceptKind, State.coil_modCoil, State.modCoil_ms]
      rfl
    · simp only [acceptKind, State.coil_modCoil]
  · simp only [testConfirmed, runs, if_pos confirms, coil_injectionConfirmed, State.coil_modCoil, true_and]
    rw [injectionConfirmed_state, State.sec_modCoil]
  · simp only [testConfirmed, runs, if_neg other]
  · simp only [testLost, on, if_pos same]
  · simp only [testLost, on, if_neg lost]
    let u := s.modCoil c fun k => { k with heldInj := .off }
    have sec : u.sec c.sec = s.sec c.sec := State.sec_modCoil ..
    have off : (u.coil c).heldInj = .off := by rw [State.coil_modCoil]
    refine ⟨fun still => ?_, fun measures => ?_⟩
    · rw [injectionLost, if_neg (by rw [State.sec_modCoil, still]; decide)]
    · obtain ⟨starting, ring, event, works, cleared⟩ :=
        injectionLost_measures (s := u) (n := c.sec) (by rw [sec]; exact measures)
      refine ⟨starting, ring, event, (works c).notOn off, fun d hd => cleared d ?_⟩
      rw [(drives_of_coupler (State.modCoil_coupler s c _) c.sec).1]
      exact hd

end Sys2Proof.Machine

/-! ### The requests of an exit, seen from the pending targets (R111 to R113, R136, R145) -/

namespace Sys2Proof.Machine

variable {s t : State} {n : SecId} {c : CoilId}

theorem requestStop_works (d : CoilId) (s : State) (c : CoilId) : (s.coil c).Works ((requestStop d s).coil c) := by
  refine .of_own (requestStop_acts d s) ?_ c
  unfold requestStop
  split
  · exact modCoil_works ⟨.inr rfl, .inl rfl⟩ (takePending_works d)
  · exact .refl _

theorem requestStops_works (cs : List CoilId) (s : State) (c : CoilId) : (s.coil c).Works ((requestStops cs s).coil c) := by
  unfold requestStops
  induction cs generalizing s with
  | nil => exact .refl _
  | cons d cs ih =>
    refine .trans ?_ (ih _)
    dsimp only
    split
    · exact requestStop_works d s c
    · exact .refl _

/-- The exit leaves no target pending on the coils that the section drives (R136). -/
theorem stopAndSilence_noTarget (n : SecId) (s : State) {c : CoilId} (driven : c ∈ s.drives n) :
    ((stopAndSilence n s).coil c).pendMove = none := by
  have stopped := (requestStops_works (s.drives n) (clearTargets (s.drives n) s) c).trans
    (requestInjector_works n .off _ c)
  refine stopped.noTarget ?_
  rw [coil_clearTargets_eq, if_pos driven]

/-- A pending INJECT_OFF goes before the target, which stays pending (R113). -/
theorem takePending_keepsTarget (silences : (s.coil c).pendInj = some .off) :
    ((takePending c s).coil c).pendMove = (s.coil c).pendMove := by
  unfold takePending
  dsimp only
  split
  · next free =>
    have toggle := channelFree_toggle free
    split
    · obtain ⟨_, _, _, _, _, e, -⟩ :=
        coil_formTracked_modCoil (f := fun k => { k with pendStop := false }) (by exact toggle) .stop
      rw [e]
    · rw [silences]
      obtain ⟨_, _, _, _, _, e, -⟩ :=
        coil_formTracked_modCoil (f := fun k => { k with pendInj := none }) (by exact toggle) .injectOff
      dsimp only
      rw [e]
  · rfl

theorem requestInjection_keepsTarget (d : CoilId) (s : State) (c : CoilId) :
    ((requestInjection d .off s).coil c).pendMove = (s.coil c).pendMove := by
  by_cases hc : c = d
  · rw [hc]
    unfold requestInjection
    split
    · rw [takePending_keepsTarget (by rw [State.coil_modCoil]), State.coil_modCoil]
    · rfl
  · rw [(requestInjection_acts d .off s).others c hc]

end Sys2Proof.Machine

/-! ### What the handling of a coupler position leaves alone (R131, R145, R146) -/

namespace Sys2Proof.Machine

variable {s t u : State} {n : SecId} {c : CoilId}

/-- The coupler record, the clock and the return state stay, and no event leaves the summary. -/
structure StaysAround (s t : State) : Prop where
  coupler : t.coupler = s.coupler
  ms : t.ms = s.ms
  ret2 : t.ret2 = s.ret2
  summary : ∀ k ∈ s.events.summary, k ∈ t.events.summary

namespace StaysAround

theorem refl (s : State) : StaysAround s s := ⟨rfl, rfl, rfl, fun _ => id⟩

theorem trans (h : StaysAround s t) (h' : StaysAround t u) : StaysAround s u :=
  ⟨h'.coupler.trans h.coupler, h'.ms.trans h.ms, h'.ret2.trans h.ret2, fun k hk => h'.summary k (h.summary k hk)⟩

theorem drive (h : StaysAround s t) (frame : DriveFrame t u) : StaysAround s u :=
  h.trans ⟨frame.coupler, frame.ms, by rw [frame], fun k hk => by rwa [frame.events]⟩

theorem modSec (h : StaysAround s t) (n : SecId) (f : Section → Section) : StaysAround s (t.modSec n f) :=
  h.trans (by cases n <;> exact ⟨rfl, rfl, rfl, fun _ => id⟩)

theorem setSectionState (h : StaysAround s t) (n : SecId) (st : SecState) : StaysAround s (setSectionState n st t) :=
  h.trans (by cases n <;> exact ⟨rfl, rfl, rfl, fun _ => id⟩)

theorem turnEngineOff (h : StaysAround s t) (n : SecId) (cause : DiscardCause) : StaysAround s (turnEngineOff n cause t) :=
  h.modSec n _

theorem discardWindow (h : StaysAround s t) (n : SecId) (cause : DiscardCause) : StaysAround s (discardWindow n cause t) :=
  h.modSec n _

theorem setHoldOff (h : StaysAround s t) (n : SecId) (x : Option Nat) : StaysAround s (setHoldOff n x t) := h.modSec n _

theorem resetEstimate (h : StaysAround s t) (n : SecId) : StaysAround s (resetEstimate n t) := h.modSec n _

theorem raise (h : StaysAround s t) (k : EventKind) (o : Obj) : StaysAround s (raise k o t) :=
  h.trans
    { coupler := (raise_frame k o t).coupler
      ms := (raise_frame k o t).ms
      ret2 := by rw [raise_frame k o t]
      summary := fun j hj => mem_summary_raise_of_mem hj k o }

theorem ite {b : Prop} [Decidable b] (h : StaysAround s t) (h' : StaysAround s u) : StaysAround s (if b then t else u) := by
  split
  exacts [h, h']

theorem withRet2 (h : StaysAround s t) (r : ReturnState) : StaysAround { s with ret2 := r } { t with ret2 := r } :=
  ⟨h.coupler, h.ms, rfl, h.summary⟩

theorem enterStarting (h : StaysAround s t) (n : SecId) : StaysAround s (enterStarting n t) :=
  ((h.setSectionState n .starting).modSec n _).drive (enterStarting_acts n t).frame

theorem enterFault (h : StaysAround s t) (n : SecId) : StaysAround s (enterFault n t) :=
  (((h.turnEngineOff n .state).setSectionState n .fault).setHoldOff n none).drive (stopAndSilence_acts n _).frame

theorem enterRecovery (h : StaysAround s t) (n : SecId) : StaysAround s (enterRecovery n t) := by
  have recovers := (h.setSectionState n .recovery).setHoldOff n (some 0)
  exact .ite (recovers.enterStarting n) recovers

end StaysAround

/-! Supervisors that go on -/

theorem Supervisor.follow_standing (v : Supervisor) (active : Bool) :
    (v.follow active).phase = .standing ↔ v.phase = .standing ∧ active = true := by
  unfold Supervisor.follow
  cases hv : v.phase <;> cases active <;> simp [hv, Supervisor.goIdle]

theorem Supervisor.follow_holdOff (v : Supervisor) : (v.follow true).holdOff = v.holdOff := by
  unfold Supervisor.follow
  cases hv : v.phase <;> simp

theorem faultStanding_iff (x : Section) : x.faultStanding = true ↔ x.sup.phase = .standing := by
  simp [Section.faultStanding]

/-- Only the supervisor of the section sees the change, and no fault comes to stand or ends. -/
def Section.Watched (x y : Section) : Prop :=
  ∃ v : Supervisor, y = { x with sup := v } ∧ (v.phase = .standing ↔ x.sup.phase = .standing)

theorem Section.Watched.refl (x : Section) : x.Watched x := ⟨x.sup, rfl, .rfl⟩

theorem Section.Watched.trans {x y z : Section} (h : x.Watched y) (h' : y.Watched z) : x.Watched z := by
  obtain ⟨v, rfl, stands⟩ := h
  obtain ⟨w, rfl, stands'⟩ := h'
  exact ⟨w, rfl, stands'.trans stands⟩

theorem Section.Watched.standing {x y : Section} (h : x.Watched y) : y.faultStanding = true ↔ x.sup.phase = .standing := by
  obtain ⟨v, rfl, stands⟩ := h
  exact (faultStanding_iff _).trans stands

/-- Section 1 takes an active state while section 2 is JOINED: section 2's supervisor goes on (R131, R158). -/
theorem sec2_watched (joined : s.sec2.state = .joined) {st : SecState} (active : st.active = true) :
    s.sec2.Watched (setSectionState .s1 st s).sec2 := by
  refine ⟨s.sec2.sup.follow true, ?_, (s.sec2.sup.follow_standing true).trans (and_iff_left rfl)⟩
  have supervised : (s.modSec .s1 fun x => { x with state := st, entryTime := s.ms }).supervised .s2 = true :=
    (if_pos joined).trans active
  exact (sec_followSections _ .s2).trans (by rw [supervised]; rfl)

end Sys2Proof.Machine

/-! ### The coupler position reaches the sections (R141, R145, R146) -/

namespace Sys2Proof.Machine

variable {s t u : State} {n : SecId} {c : CoilId}

/-- A section after an estimate reset (R55, R85, R97). -/
def Section.estimateReset (x : Section) : Section :=
  { x with estimate := Estimate.cleared, counter := 0, engine := { x.engine with quick := x.settings.quickWindows } }

theorem sec_resetEstimate (n : SecId) (s : State) : (resetEstimate n s).sec n = (s.sec n).estimateReset :=
  State.sec_modSec s n _

/-! Section 2 enters JOINED -/

/-- The sections as the joining leaves them, before the requests to coil 2 (R145 step 2). -/
def joinedSections (s : State) : State :=
  setHoldOff .s2 none (setSectionState .s2 .joined (turnEngineOff .s2 .coupler { s with ret2 := returnFor s.sec2.state }))

/-- The request to coil 2, and the target that goes before it unless R127 leaves it. -/
def joinRequests (keeps : Bool) (s : State) : State :=
  requestInjection .c2 .off (if keeps then s else clearTarget .c2 s)

theorem joinSection2_eq (s : State) :
    joinSection2 s = resetEstimate .s2 (joinRequests s.joinKeepsTarget (joinedSections s)) := rfl

theorem joinRequests_acts (keeps : Bool) (s : State) : CoilActs .c2 s (joinRequests keeps s) := by
  unfold joinRequests
  split
  · exact requestInjection_acts .c2 .off s
  · exact (clearTarget_acts .c2 s).trans (requestInjection_acts .c2 .off _)

theorem joinSection2_around (s : State) : StaysAround { s with ret2 := returnFor s.sec2.state } (joinSection2 s) := by
  have joined : StaysAround { s with ret2 := returnFor s.sec2.state } (joinedSections s) :=
    (((StaysAround.refl _).turnEngineOff .s2 .coupler).setSectionState .s2 .joined).setHoldOff .s2 none
  rw [joinSection2_eq]
  exact (joined.drive (joinRequests_acts s.joinKeepsTarget (joinedSections s)).frame).resetEstimate .s2

theorem sec1_joinSection2 (s : State) :
    (joinSection2 s).sec1 = { s.sec1 with sup := s.sec1.sup.follow s.sec1.state.active } :=
  (joinRequests_acts s.joinKeepsTarget (joinedSections s)).frame.sec .s1

theorem sec2_joinSection2 (s : State) : (joinSection2 s).sec2 = Section.estimateReset { s.sec2 with
    state := .joined, entryTime := s.ms, engine := s.sec2.engine.turnOff .coupler
    sup := { s.sec2.sup.follow s.sec1.state.active with holdOff := none } } :=
  (sec_resetEstimate .s2 _).trans (congrArg Section.estimateReset
    ((joinRequests_acts s.joinKeepsTarget (joinedSections s)).frame.sec .s2))

theorem coil1_joinSection2 (s : State) : (joinSection2 s).coil1 = s.coil1 :=
  (joinRequests_acts s.joinKeepsTarget (joinedSections s)).others .c1 nofun

theorem target2_joinSection2 (s : State) :
    (joinSection2 s).coil2.pendMove = if s.joinKeepsTarget then s.coil2.pendMove else none := by
  refine (requestInjection_keepsTarget .c2 _ .c2).trans ?_
  split <;> rfl

/-! Section 1 takes part in the change -/

/-- The sections as a coupler change leaves section 1, before the targets are cleared (R145 step 3, R146 step 2). -/
def changedSection1 (s : State) : State :=
  let t := resetEstimate .s1 (discardWindow .s1 .coupler s)
  if t.sec1.state = .tracking then setSectionState .s1 .measuring t else t

theorem couplerChangeSec1_eq (cs : List CoilId) (s : State) :
    couplerChangeSec1 cs s = if s.sec1.state = .tracking then clearTargets cs (changedSection1 s) else changedSection1 s := by
  have same : (resetEstimate .s1 (discardWindow .s1 .coupler s)).sec1.state = s.sec1.state := rfl
  simp only [couplerChangeSec1, changedSection1, same]
  split <;> rfl

theorem couplerChangeSec1_acts (cs : List CoilId) (s : State) : DriveActs (changedSection1 s) (couplerChangeSec1 cs s) := by
  rw [couplerChangeSec1_eq]
  split
  exacts [clearTargets_acts cs _, .refl _]

theorem couplerChangeSec1_around (cs : List CoilId) (s : State) : StaysAround s (couplerChangeSec1 cs s) := by
  have reset := ((StaysAround.refl s).discardWindow .s1 .coupler).resetEstimate .s1
  exact StaysAround.drive (.ite (reset.setSectionState .s1 .measuring) reset) (couplerChangeSec1_acts cs s).frame

/-- TRACKING becomes MEASURING, and any other state stays with its supervisor. -/
theorem sec1_couplerChangeSec1 (cs : List CoilId) (s : State) : ∃ e v, (couplerChangeSec1 cs s).sec1 = Section.estimateReset
      { s.sec1 with
        state := if s.sec1.state = .tracking then .measuring else s.sec1.state
        entryTime := e, engine := s.sec1.engine.discard .coupler, sup := v }
    ∧ (s.sec1.state ≠ .tracking → v = s.sec1.sup) := by
  have sec : (couplerChangeSec1 cs s).sec1 = (changedSection1 s).sec1 := (couplerChangeSec1_acts cs s).frame.sec .s1
  have same : (resetEstimate .s1 (discardWindow .s1 .coupler s)).sec1.state = s.sec1.state := rfl
  rw [sec, changedSection1, same]
  split
  · next tracks => exact ⟨_, _, rfl, absurd tracks⟩
  · exact ⟨_, _, rfl, fun _ => rfl⟩

theorem sec2_couplerChangeSec1 (joined : s.sec2.state = .joined) (cs : List CoilId) :
    s.sec2.Watched (couplerChangeSec1 cs s).sec2 := by
  have sec : (couplerChangeSec1 cs s).sec2 = (changedSection1 s).sec2 := (couplerChangeSec1_acts cs s).frame.sec .s2
  rw [sec]
  unfold changedSection1
  dsimp only
  split
  · exact sec2_watched (s := resetEstimate .s1 (discardWindow .s1 .coupler s)) joined rfl
  · exact .refl _

theorem coil_couplerChangeSec1 (cs : List CoilId) (s : State) (c : CoilId) : (couplerChangeSec1 cs s).coil c =
    if s.sec1.state = .tracking ∧ c ∈ cs then { s.coil c with pendMove := none } else s.coil c := by
  have same : (changedSection1 s).coil c = s.coil c := by
    unfold changedSection1
    dsimp only
    split <;> cases c <;> rfl
  rw [couplerChangeSec1_eq]
  split
  · next tracks => rw [coil_clearTargets_eq, same]; simp only [tracks, true_and]
  · next other => rw [same, if_neg fun both => other both.1]

/-! Section 1 enters FAULT or RECOVERY while section 2 is JOINED (R141, R156) -/

theorem sec1_enterFault (s : State) : ∃ v, (enterFault .s1 s).sec1 =
      { s.sec1 with state := .fault, entryTime := s.ms, engine := s.sec1.engine.turnOff .state, sup := v }
    ∧ v.holdOff = none :=
  ⟨_, (stopAndSilence_acts .s1 _).frame.sec .s1, rfl⟩

theorem sec2_enterFault (joined : s.sec2.state = .joined) : s.sec2.Watched (enterFault .s1 s).sec2 := by
  have sec : (enterFault .s1 s).sec2 = (setSectionState .s1 .fault (turnEngineOff .s1 .state s)).sec2 :=
    (stopAndSilence_acts .s1 _).frame.sec .s2
  rw [sec]
  exact sec2_watched (s := turnEngineOff .s1 .state s) joined rfl

/-- The sections as the entry into RECOVERY leaves them (R156). -/
def recoverySections (s : State) : State := setHoldOff .s1 (some 0) (setSectionState .s1 .recovery s)

theorem enterRecovery_eq (s : State) : enterRecovery .s1 s =
    if s.sec1.settings.recoveryCycles = 0 then enterStarting .s1 (recoverySections s) else recoverySections s := rfl

/-- With RECOVERY_CYCLES 0 the hold-off runs out at its start (R156). -/
theorem sec1_enterRecovery (s : State) : let x := (enterRecovery .s1 s).sec1
    x.inhibit = s.sec1.inhibit ∧ x.entryTime = s.ms ∧ x.state.active = true
      ∧ (s.sec1.settings.recoveryCycles = 0 → x.state = .starting ∧ x.ring = Ring.cleared)
      ∧ (s.sec1.settings.recoveryCycles ≠ 0 → x.state = .recovery ∧ x.sup.holdOff = some 0) := by
  rw [enterRecovery_eq]
  split
  · next cycles =>
    have sec : (enterStarting .s1 (recoverySections s)).sec1 = (startedSections .s1 (recoverySections s)).sec1 :=
      (enterStarting_acts .s1 _).frame.sec .s1
    rw [sec]
    exact ⟨rfl, rfl, rfl, fun _ => ⟨rfl, rfl⟩, absurd cycles⟩
  · next cycles => exact ⟨rfl, rfl, rfl, fun none => absurd none cycles, fun _ => ⟨rfl, rfl⟩⟩

theorem sec2_enterRecovery (joined : s.sec2.state = .joined) : s.sec2.Watched (enterRecovery .s1 s).sec2 := by
  have recovers : s.sec2.Watched (recoverySections s).sec2 := sec2_watched joined rfl
  rw [enterRecovery_eq]
  split
  · have sec : (enterStarting .s1 (recoverySections s)).sec2 = (startedSections .s1 (recoverySections s)).sec2 :=
      (enterStarting_acts .s1 _).frame.sec .s2
    rw [sec]
    exact recovers.trans (sec2_watched (s := recoverySections s) joined rfl)
  · exact recovers

/-! Section 2 leaves JOINED -/

/-- Section 2 as it leaves JOINED, before its return state is set (R146 step 4). -/
def leftSections (s : State) : State :=
  match s.ret2 with
  | .starting => if s.sec2.faultStanding then setSectionState .s2 .fault s else enterStarting .s2 s
  | .disabled => setSectionState .s2 .disabled s
  | .halted => setSectionState .s2 .halted s

theorem leaveJoined_eq (s : State) : leaveJoined s = { leftSections s with ret2 := .disabled } := rfl

theorem leaveJoined_around (s : State) : StaysAround { s with ret2 := .disabled } (leaveJoined s) := by
  have here := StaysAround.refl s
  rw [leaveJoined_eq]
  refine StaysAround.withRet2 ?_ .disabled
  unfold leftSections
  split
  · exact .ite (here.setSectionState .s2 _) (here.enterStarting .s2)
  · exact here.setSectionState .s2 _
  · exact here.setSectionState .s2 _

theorem sec1_leaveJoined (s : State) :
    (leaveJoined s).sec1 = { s.sec1 with sup := s.sec1.sup.follow s.sec1.state.active } := by
  rw [leaveJoined_eq]
  show (leftSections s).sec1 = _
  unfold leftSections
  split
  · split
    · rfl
    · exact (enterStarting_acts .s2 s).frame.sec .s1
  · rfl
  · rfl

theorem sec2_leaveJoined (s : State) : let x := (leaveJoined s).sec2
    x.inhibit = s.sec2.inhibit ∧ (s.ret2 = .disabled → x.state = .disabled) ∧ (s.ret2 = .halted → x.state = .halted)
      ∧ (s.ret2 = .starting → s.sec2.faultStanding = true → x.state = .fault)
      ∧ (s.ret2 = .starting → s.sec2.faultStanding = false → x.state = .starting ∧ x.ring = Ring.cleared) := by
  rw [leaveJoined_eq]
  show let x := (leftSections s).sec2; _
  unfold leftSections
  cases hr : s.ret2 with
  | starting =>
    dsimp only
    split
    · next stands => exact ⟨rfl, nofun, nofun, fun _ _ => rfl, fun _ none => absurd (none.symm.trans stands) nofun⟩
    · next none =>
      have sec : (enterStarting .s2 s).sec2 = (startedSections .s2 s).sec2 := (enterStarting_acts .s2 s).frame.sec .s2
      rw [sec]
      exact ⟨rfl, nofun, nofun, fun _ stands => absurd stands none, fun _ _ => ⟨rfl, rfl⟩⟩
  | disabled => exact ⟨rfl, fun _ => rfl, nofun, nofun, nofun⟩
  | halted => exact ⟨rfl, nofun, fun _ => rfl, nofun, nofun⟩

end Sys2Proof.Machine

/-! ### The coupler value that moves the position (R142, R143, R145, R146) -/

namespace Sys2Proof.Machine

variable {s t u : State} {n : SecId} {c : CoilId}

/-! The unsure causes after a value that gives a position -/

/-- The unsure causes after a value CLOSED or OPEN (R142). -/
def heardUnsure (x : Unsure) : Unsure := { x with noValue := false, stale := false, value := false }

theorem heardUnsure_fewer {x : Unsure} (none : x.isEmpty = true) : (heardUnsure x).isEmpty = true := by
  simp only [Unsure.isEmpty, Bool.and_eq_true, Bool.not_eq_true'] at none
  obtain ⟨⟨⟨-, available⟩, -⟩, -⟩ := none
  simp [heardUnsure, Unsure.isEmpty, available]

theorem heardUnsure_available {x : Unsure} (available : x.unavailable = false) : (heardUnsure x).isEmpty = true := by
  simp [heardUnsure, Unsure.isEmpty, available]

/-- The value takes causes away: either the unsure state stays, or it ends (R143). -/
theorem setUnsure_heard (s : State) : let x := heardUnsure s.coupler.unsure
    let t : State := { s with coupler := { s.coupler with unsure := x } }
    (s.coupler.unsure.isEmpty = x.isEmpty ∧ setUnsure x s = t)
      ∨ (s.coupler.unsure.isEmpty = false ∧ setUnsure x s = becomeSure t) := by
  rcases setUnsure_cases (heardUnsure s.coupler.unsure) s with ⟨was, now⟩ | ⟨was, now⟩ | same
  · exact absurd (now.symm.trans (heardUnsure_fewer was)) nofun
  · exact .inr ⟨was, setUnsure_sure was now⟩
  · exact .inl ⟨same, setUnsure_still same⟩

/-- The value leaves the coils, the events and the return state, and of a section it leaves all but engine and inhibit set; an
engine starts only in a section that measures. -/
structure HearsOn (s t : State) : Prop where
  coil : ∀ c, t.coil c = s.coil c
  events : t.events = s.events
  ret2 : t.ret2 = s.ret2
  sec : ∀ n, ∃ g i, t.sec n = { s.sec n with engine := g, inhibit := i }
    ∧ ((s.sec n).state.measures = false → g.state = (s.sec n).engine.state)

theorem setUnsure_hears (s : State) : HearsOn s (setUnsure (heardUnsure s.coupler.unsure) s) := by
  rcases setUnsure_heard s with ⟨-, e⟩ | ⟨-, e⟩ <;> rw [e]
  · exact ⟨fun c => by cases c <;> rfl, rfl, rfl, fun n => by cases n <;> exact ⟨_, _, rfl, fun _ => rfl⟩⟩
  · refine ⟨fun c => by cases c <;> rfl, rfl, rfl, fun n =>
      ⟨(s.sec n).sureAgain.engine, (s.sec n).sureAgain.inhibit, ?_, fun still => ?_⟩⟩
    · cases n <;> rfl
    · unfold Section.sureAgain
      dsimp only
      rw [still]
      rfl

/-- Both engines in WAIT are told, which is no change of their state (R56). -/
theorem tellEngines_hears (s : State) : HearsOn s (tellEngines s) :=
  ⟨fun c => by cases c <;> rfl, rfl, rfl, fun n => by cases n <;> exact ⟨_, _, rfl, fun _ => state_couplerChanged _⟩⟩

theorem HearsOn.trans (h : HearsOn s t) (h' : HearsOn t u) : HearsOn s u where
  coil c := (h'.coil c).trans (h.coil c)
  events := h'.events.trans h.events
  ret2 := h'.ret2.trans h.ret2
  sec n := by
    obtain ⟨g, i, e, still⟩ := h.sec n
    obtain ⟨g', i', e', still'⟩ := h'.sec n
    rw [e] at e' still'
    exact ⟨g', i', e', fun measures => (still' measures).trans (still measures)⟩

/-- What O32 says of the unsure state after a value that gives a position. -/
def SureAfter (s t : State) : Prop :=
  (s.coupler.unsure.isEmpty = true → ∀ n, (t.sec n).inhibit = (s.sec n).inhibit)
  ∧ (s.coupler.unsure.isEmpty = false → s.coupler.unsure.unavailable = false → ∀ n,
      (t.sec n).inhibit = { (s.sec n).inhibit with unsure := false }
        ∧ ((t.sec n).state.measures = true → (t.sec n).engine.state = .wait))

theorem setUnsure_sureAfter (unsure : t.coupler.unsure = s.coupler.unsure)
    (inhibit : ∀ n, (t.sec n).inhibit = (s.sec n).inhibit) :
    SureAfter s (setUnsure (heardUnsure t.coupler.unsure) t) := by
  unfold SureAfter
  rw [← unsure]
  simp only [← inhibit]
  rcases setUnsure_heard t with ⟨same, e⟩ | ⟨was, e⟩ <;> rw [e]
  · refine ⟨fun _ n => by cases n <;> rfl, fun was available => ?_⟩
    rw [heardUnsure_available available, was] at same
    cases same
  · refine ⟨fun none => absurd (none.symm.trans was) nofun, fun _ _ n => ?_⟩
    rw [sec_becomeSure]
    have sec : ({ t with coupler := { t.coupler with unsure := heardUnsure t.coupler.unsure } } : State).sec n = t.sec n := by
      cases n <;> rfl
    rw [sec]
    refine ⟨rfl, fun measures => ?_⟩
    unfold Section.sureAgain at measures ⊢
    dsimp only at measures ⊢
    rw [measures]
    rfl

/-- The coupler record notes the value and starts its stale timer anew (R142). -/
def noted (v : CouplerValue) (s : State) : State :=
  { s with coupler := { s.coupler with last := some (v, s.ms), staleTimer := some (s.ms + span s.couplerTimeout) } }

/-- The change of position comes first, then the causes (R142). -/
theorem couplerValue_eq (v : CouplerValue) (s : State) : couplerValue v s =
    let t := match v, s.coupler.held with
      | .closed, .open => couplerCloses (noted v s)
      | .open, .closed => couplerOpens (noted v s)
      | _, _ => noted v s
    setUnsure { t.coupler.unsure with noValue := false, stale := false, value := v == .intermediate || v == .bad } t := rfl

theorem couplerValue_closed (held : s.coupler.held = .open) : let t := couplerCloses (noted .closed s)
    couplerValue .closed s = setUnsure (heardUnsure t.coupler.unsure) t := by
  rw [couplerValue_eq, held]
  rfl

theorem couplerValue_open (held : s.coupler.held = .closed) : let t := couplerOpens (noted .open s)
    couplerValue .open s = setUnsure (heardUnsure t.coupler.unsure) t := by
  rw [couplerValue_eq, held]
  rfl

end Sys2Proof.Machine

/-! ### A CLOSED value joins the sections (R141, R145) -/

namespace Sys2Proof.Machine

variable {s t u : State} {n : SecId} {c : CoilId}

/-- What the closing has done to both sections when section 2 has joined, whatever section 1 does then. -/
structure Joins (s t : State) : Prop where
  coupler : t.coupler = { s.coupler with held := .closed }
  ret2 : t.ret2 = if s.sec2.state.active then .starting else .disabled
  event : .couplerChange ∈ t.events.summary
  joined : t.sec2.state = .joined
  off : t.sec2.engine.state = .off
  estimate : ∀ n, (t.sec n).estimate = Estimate.cleared
  ring : ∀ n, (t.sec n).ring = (s.sec n).ring
  inhibit : ∀ n, (t.sec n).inhibit = (s.sec n).inhibit

/-- An operation of section 1 that keeps estimates, rings and inhibit sets, and of section 2 all but the supervisor. -/
theorem Joins.step (h : Joins s t) (around : StaysAround t u) (two : t.sec2.Watched u.sec2)
    (estimate : u.sec1.estimate = t.sec1.estimate) (ring : u.sec1.ring = t.sec1.ring)
    (inhibit : u.sec1.inhibit = t.sec1.inhibit) : Joins s u := by
  obtain ⟨v, two, -⟩ := two
  refine ⟨around.coupler.trans h.coupler, around.ret2.trans h.ret2, around.summary _ h.event, ?_, ?_, fun n => ?_, fun n => ?_,
    fun n => ?_⟩
  · rw [two]; exact h.joined
  · rw [two]; exact h.off
  · cases n
    · exact estimate.trans (h.estimate .s1)
    · show u.sec2.estimate = _; rw [two]; exact h.estimate .s2
  · cases n
    · exact ring.trans (h.ring .s1)
    · show u.sec2.ring = _; rw [two]; exact h.ring .s2
  · cases n
    · exact inhibit.trans (h.inhibit .s1)
    · show u.sec2.inhibit = _; rw [two]; exact h.inhibit .s2

theorem Joins.afterFault (h : Joins s t) : Joins s (enterFault .s1 t) := by
  obtain ⟨v, one, -⟩ := sec1_enterFault t
  exact h.step ((StaysAround.refl t).enterFault .s1) (sec2_enterFault h.joined) (by rw [one]) (by rw [one]) (by rw [one])

theorem Joins.afterRaise (h : Joins s t) (k : EventKind) (o : Obj) : Joins s (raise k o t) := by
  have sec (n : SecId) : (raise k o t).sec n = t.sec n := (raise_frame k o t).sec n
  have one : (raise k o t).sec1 = t.sec1 := sec .s1
  have two : (raise k o t).sec2 = t.sec2 := sec .s2
  exact h.step ((StaysAround.refl t).raise k o) (two ▸ .refl _) (by rw [one]) (by rw [one]) (by rw [one])

/-- The event raised and the position held CLOSED, before the sections are told (R145). -/
def positionClosed (s : State) : State := setHeld .closed (raise .couplerChange (.busSection .s1) s)

theorem sec_positionClosed (n : SecId) (s : State) : (positionClosed s).sec n = s.sec n :=
  (by cases n <;> rfl : _ = (raise .couplerChange (.busSection .s1) s).sec n).trans ((raise_frame _ _ s).sec n)

theorem coil_positionClosed (c : CoilId) (s : State) : (positionClosed s).coil c = s.coil c :=
  (by cases c <;> rfl : _ = (raise .couplerChange (.busSection .s1) s).coil c).trans (coil_raise _ _ s c)

/-- The closing before section 1's own exit (R145). -/
def sectionsJoined (s : State) : State :=
  couplerChangeSec1 [.c1] (joinSection2 (positionClosed s))

/-- Section 1 stays untuned, or enters FAULT with the fault that stands on section 2, or goes on (R141, R145). -/
def joinDecided (s : State) : State :=
  if s.sec1.state = .disabled ∨ s.sec1.state = .halted then raise .joinUntuned (.busSection .s1) s
  else if s.sec2.faultStanding ∧ s.sec1.state ≠ .fault then enterFault .s1 s
  else s

theorem couplerCloses_eq (s : State) : couplerCloses s = tellEngines (joinDecided (sectionsJoined s)) := rfl

theorem sec1_sectionsJoined (s : State) : ∃ e v, (sectionsJoined s).sec1 = Section.estimateReset
    { s.sec1 with
      state := if s.sec1.state = .tracking then .measuring else s.sec1.state
      entryTime := e, engine := s.sec1.engine.discard .coupler, sup := v } := by
  have one : (positionClosed s).sec1 = s.sec1 := sec_positionClosed .s1 s
  obtain ⟨e, v, changed, -⟩ := sec1_couplerChangeSec1 [.c1]
    (joinSection2 (positionClosed s))
  rw [sec1_joinSection2, one] at changed
  exact ⟨e, v, changed⟩

theorem state1_sectionsJoined (s : State) :
    (sectionsJoined s).sec1.state = if s.sec1.state = .tracking then .measuring else s.sec1.state := by
  obtain ⟨_, _, e⟩ := sec1_sectionsJoined s
  rw [e]
  rfl

theorem sec2_sectionsJoined (s : State) : ∃ e v, (sectionsJoined s).sec2 = Section.estimateReset
      { s.sec2 with state := .joined, entryTime := e, engine := s.sec2.engine.turnOff .coupler, sup := v }
    ∧ (v.phase = .standing ↔ s.sec2.sup.phase = .standing ∧ s.sec1.state.active = true) := by
  have one : (positionClosed s).sec1 = s.sec1 := sec_positionClosed .s1 s
  have two : (positionClosed s).sec2 = s.sec2 := sec_positionClosed .s2 s
  have joined := sec2_joinSection2 (positionClosed s)
  obtain ⟨v, changed, stands⟩ := sec2_couplerChangeSec1 (by rw [joined]; rfl) [.c1]
  rw [joined, one, two] at changed stands
  exact ⟨_, v, changed, stands.trans (s.sec2.sup.follow_standing _)⟩

theorem faultStanding_sectionsJoined (s : State) : (sectionsJoined s).sec2.faultStanding = true ↔
    s.sec2.sup.phase = .standing ∧ s.sec1.state.active = true := by
  obtain ⟨e, v, two, stands⟩ := sec2_sectionsJoined s
  rw [faultStanding_iff, two]
  exact stands

theorem sectionsJoined_around (s : State) :
    StaysAround { positionClosed s with ret2 := returnFor (positionClosed s).sec2.state } (sectionsJoined s) :=
  (joinSection2_around (positionClosed s)).trans (couplerChangeSec1_around [.c1] _)

theorem sectionsJoined_joins (s : State) : Joins s (sectionsJoined s) := by
  have around := sectionsJoined_around s
  obtain ⟨_, _, one⟩ := sec1_sectionsJoined s
  obtain ⟨_, _, two, -⟩ := sec2_sectionsJoined s
  refine ⟨around.coupler.trans ?_, around.ret2.trans ?_, around.summary _ (mem_summary_raise _ _ s),
    ?_, ?_, fun n => ?_, fun n => ?_, fun n => ?_⟩
  · exact congrArg (fun k : Coupler => { k with held := .closed }) (raise_frame _ _ s).coupler
  · exact congrArg (fun x : Section => returnFor x.state) (sec_positionClosed .s2 s)
  · rw [two]; rfl
  · rw [two]; rfl
  · cases n
    exacts [(congrArg Section.estimate one :), (congrArg Section.estimate two :)]
  · cases n
    exacts [(congrArg Section.ring one :), (congrArg Section.ring two :)]
  · cases n
    exacts [(congrArg Section.inhibit one :), (congrArg Section.inhibit two :)]

/-! Section 1's own exit -/

theorem joinDecided_untuned (still : t.sec1.state = .disabled ∨ t.sec1.state = .halted) :
    joinDecided t = raise .joinUntuned (.busSection .s1) t := if_pos still

theorem joinDecided_faults (stands : t.sec2.faultStanding = true) (active : t.sec1.state.active = true)
    (other : t.sec1.state ≠ .fault) : joinDecided t = enterFault .s1 t := by
  have tuned : ¬ (t.sec1.state = .disabled ∨ t.sec1.state = .halted) := by
    rintro (e | e) <;> rw [e] at active <;> cases active
  rw [joinDecided, if_neg tuned, if_pos ⟨stands, other⟩]

/-- Without a fault standing on section 2, or with section 1 in FAULT or inactive, section 1 and the coils stay. -/
theorem joinDecided_stays (h : t.sec2.faultStanding = false ∨ t.sec1.state = .fault
      ∨ t.sec1.state = .disabled ∨ t.sec1.state = .halted) :
    (joinDecided t).sec1 = t.sec1 ∧ ∀ c, (joinDecided t).coil c = t.coil c := by
  unfold joinDecided
  split
  · exact ⟨(raise_frame _ _ t).sec .s1, coil_raise _ _ t⟩
  · next tuned =>
    rw [if_neg]
    · exact ⟨rfl, fun _ => rfl⟩
    · rintro ⟨stands, other⟩
      rcases h with none | fault | still
      exacts [absurd (none.symm.trans stands) nofun, other fault, tuned still]

theorem joinDecided_joins (h : Joins s t) : Joins s (joinDecided t) := by
  unfold joinDecided
  split
  · exact h.afterRaise _ _
  · split
    exacts [h.afterFault, h]

/-- The entry into FAULT starts from coils as they are. -/
theorem enterFault_works (t : State) (c : CoilId) : (t.coil c).Works ((enterFault .s1 t).coil c) := by
  let u := setHoldOff .s1 none (setSectionState .s1 .fault (turnEngineOff .s1 .state t))
  have coil : u.coil c = t.coil c := by cases c <;> rfl
  have cleared : (u.coil c).Works ((clearTargets (u.drives .s1) u).coil c) := by
    rw [coil_clearTargets_eq]
    split
    exacts [⟨.inr rfl, .inl rfl⟩, .refl _]
  rw [← coil]
  exact (cleared.trans (requestStops_works _ _ c)).trans (requestInjector_works .s1 .off _ c)

theorem joinDecided_noTarget (free : (t.coil c).pendMove = none) : ((joinDecided t).coil c).pendMove = none := by
  unfold joinDecided
  split
  · rw [coil_raise]; exact free
  · split
    exacts [(enterFault_works t c).noTarget free, free]

/-- Under the joined relation the exit of section 1 concerns both coils (R132, R136). -/
theorem enterFault_clears (joined : t.joined = true) (c : CoilId) : ((enterFault .s1 t).coil c).pendMove = none := by
  refine stopAndSilence_noTarget .s1 _ ?_
  have both : (setHoldOff .s1 none (setSectionState .s1 .fault (turnEngineOff .s1 .state t))).drives .s1 = [.c1, .c2] :=
    if_pos joined
  rw [both]
  cases c <;> decide

theorem enterFault_silences (joined : t.joined = true) (takes : t.coil1.takesRequests = true) :
    (enterFault .s1 t).coil1.Silent :=
  stopAndSilence_silenced .s1 (setHoldOff .s1 none (setSectionState .s1 .fault (turnEngineOff .s1 .state t))) .c1
    (if_pos joined) takes

/-! The coils -/

theorem takesRequests_sectionsJoined (s : State) :
    (sectionsJoined s).coil1.takesRequests = s.coil1.takesRequests := by
  have coil := coil_couplerChangeSec1 [.c1] (joinSection2 (positionClosed s)) .c1
  have before : (joinSection2 (positionClosed s)).coil .c1 = s.coil1 :=
    (coil1_joinSection2 _).trans (coil_positionClosed .c1 s)
  rw [before] at coil
  refine (congrArg Coil.takesRequests coil).trans ?_
  split <;> rfl

theorem target2_sectionsJoined (s : State) :
    (sectionsJoined s).coil2.pendMove = if s.joinKeepsTarget then s.coil2.pendMove else none := by
  have coil := coil_couplerChangeSec1 [.c1] (joinSection2 (positionClosed s)) .c2
  rw [if_neg fun both => absurd both.2 (by decide)] at coil
  have two : (positionClosed s).sec2 = s.sec2 := sec_positionClosed .s2 s
  have coil2 : (positionClosed s).coil2 = s.coil2 := coil_positionClosed .c2 s
  refine (congrArg Coil.pendMove coil).trans ((target2_joinSection2 _).trans ?_)
  rw [State.joinKeepsTarget, two, coil2]
  rfl

end Sys2Proof.Machine

/-! ### An OPEN value separates the sections (R141, R146) -/

namespace Sys2Proof.Machine

variable {s t u : State} {n : SecId} {c : CoilId}

/-- Section 1 after its part in the opening, before R141 frees it from FAULT. -/
def section1Opened (s : State) : State := couplerChangeSec1 [.c1, .c2] (raise .couplerChange (.busSection .s1) s)

/-- Section 1 leaves a FAULT that no fault of its own keeps (R141). -/
def faultReleased (s : State) : State :=
  if s.sec1.state = .fault ∧ !s.sec1.faultStanding then enterRecovery .s1 s else s

theorem couplerOpens_eq (s : State) :
    couplerOpens s = tellEngines (leaveJoined (setHeld .open (faultReleased (section1Opened s)))) := rfl

theorem sec1_section1Opened (s : State) : ∃ e v, (section1Opened s).sec1 = Section.estimateReset
      { s.sec1 with
        state := if s.sec1.state = .tracking then .measuring else s.sec1.state
        entryTime := e, engine := s.sec1.engine.discard .coupler, sup := v }
    ∧ (s.sec1.state ≠ .tracking → v = s.sec1.sup) := by
  have one : (raise .couplerChange (.busSection .s1) s).sec1 = s.sec1 := (raise_frame _ _ s).sec .s1
  have changed := sec1_couplerChangeSec1 [.c1, .c2] (raise .couplerChange (.busSection .s1) s)
  rwa [one] at changed

theorem sec2_section1Opened (joined : s.sec2.state = .joined) : s.sec2.Watched (section1Opened s).sec2 := by
  have two : (raise .couplerChange (.busSection .s1) s).sec2 = s.sec2 := (raise_frame _ _ s).sec .s2
  have watched := sec2_couplerChangeSec1 (s := raise .couplerChange (.busSection .s1) s) (by rw [two]; exact joined) [.c1, .c2]
  rwa [two] at watched

theorem section1Opened_around (s : State) : StaysAround (raise .couplerChange (.busSection .s1) s) (section1Opened s) :=
  couplerChangeSec1_around _ _

theorem faultReleased_around (s : State) : StaysAround s (faultReleased s) :=
  .ite ((StaysAround.refl s).enterRecovery .s1) (.refl s)

theorem faultReleased_watched (joined : s.sec2.state = .joined) : s.sec2.Watched (faultReleased s).sec2 := by
  unfold faultReleased
  split
  exacts [sec2_enterRecovery joined, .refl _]

theorem faultReleased_recovers (fault : s.sec1.state = .fault) (ends : s.sec1.faultStanding = false) :
    faultReleased s = enterRecovery .s1 s := if_pos ⟨fault, by rw [ends]; rfl⟩

theorem faultReleased_stays (h : s.sec1.state ≠ .fault ∨ s.sec1.faultStanding = true) : faultReleased s = s := by
  refine if_neg ?_
  rintro ⟨fault, ends⟩
  rcases h with other | stands
  · exact other fault
  · rw [stands] at ends
    cases ends

theorem faultReleased_inhibit (s : State) : (faultReleased s).sec1.inhibit = s.sec1.inhibit := by
  unfold faultReleased
  split
  · obtain ⟨inhibit, -⟩ := sec1_enterRecovery s
    exact inhibit
  · rfl

/-- Both sections when section 1 has taken its part, and section 2 is still JOINED. -/
structure Opening (s t : State) : Prop where
  around : StaysAround (raise .couplerChange (.busSection .s1) s) t
  watched : s.sec2.Watched t.sec2
  inhibit : t.sec1.inhibit = s.sec1.inhibit
  tracking : s.sec1.state = .tracking → t.sec1.state = .measuring
  recovers : s.sec1.state = .fault → s.sec1.sup.phase ≠ .standing → t.sec1.entryTime = s.ms ∧ t.sec1.state.active = true
    ∧ (s.sec1.settings.recoveryCycles = 0 → t.sec1.state = .starting ∧ t.sec1.ring = Ring.cleared)
    ∧ (s.sec1.settings.recoveryCycles ≠ 0 → t.sec1.state = .recovery ∧ t.sec1.sup.holdOff = some 0)
  stays : s.sec1.state = .fault → s.sec1.sup.phase = .standing → t.sec1.state = .fault
  others : s.sec1.state ≠ .tracking → s.sec1.state ≠ .fault → t.sec1.state = s.sec1.state

theorem faultReleased_opening (joined : s.sec2.state = .joined) : Opening s (faultReleased (section1Opened s)) := by
  obtain ⟨e, v, one, sup⟩ := sec1_section1Opened s
  have watched := sec2_section1Opened joined
  have ms : (section1Opened s).ms = s.ms := (section1Opened_around s).ms.trans (raise_frame _ _ s).ms
  have stays (h : (section1Opened s).sec1.state ≠ .fault ∨ (section1Opened s).sec1.faultStanding = true) :
      (faultReleased (section1Opened s)).sec1.state = (section1Opened s).sec1.state := by rw [faultReleased_stays h]
  have state : (section1Opened s).sec1.state = if s.sec1.state = .tracking then .measuring else s.sec1.state := by
    rw [one]; rfl
  have standing (fault : s.sec1.state = .fault) : (section1Opened s).sec1.faultStanding = s.sec1.faultStanding := by
    rw [one, sup (by rw [fault]; decide)]
    rfl
  refine ⟨(section1Opened_around s).trans (faultReleased_around _), watched.trans (faultReleased_watched ?_), ?_,
    fun tracks => ?_, fun fault ends => ?_, fun fault stands => ?_, fun other sound => ?_⟩
  · obtain ⟨v, two, -⟩ := watched
    rw [two]
    exact joined
  · rw [faultReleased_inhibit, one]
    rfl
  · rw [if_pos tracks] at state
    rw [stays (.inl (by rw [state]; decide)), state]
  · rw [faultReleased_recovers (by rw [state, fault]; rfl)
      (by rw [standing fault, Bool.eq_false_iff]; exact ends ∘ (faultStanding_iff _).1)]
    obtain ⟨-, entryTime, active, cycles⟩ := sec1_enterRecovery (section1Opened s)
    have settings : (section1Opened s).sec1.settings = s.sec1.settings := by rw [one]; rfl
    rw [settings] at cycles
    exact ⟨entryTime.trans ms, active, cycles⟩
  · rw [stays (.inr (by rw [standing fault]; exact (faultStanding_iff _).2 stands)), state, fault]
    rfl
  · rw [if_neg other] at state
    rw [stays (.inl (by rw [state]; exact sound)), state]

/-! ### Both positions -/

theorem HearsOn.kept (h : HearsOn s t) (n : SecId) : (t.sec n).state = (s.sec n).state
    ∧ (t.sec n).entryTime = (s.sec n).entryTime ∧ (t.sec n).estimate = (s.sec n).estimate
    ∧ (t.sec n).ring = (s.sec n).ring ∧ (t.sec n).sup = (s.sec n).sup
    ∧ ((s.sec n).state.measures = false → (t.sec n).engine.state = (s.sec n).engine.state) := by
  obtain ⟨g, i, e, still⟩ := h.sec n
  rw [e]
  exact ⟨rfl, rfl, rfl, rfl, rfl, still⟩

theorem Engine.window_off {g : Engine} (off : g.state = .off) : g.window = none := by
  unfold Engine.window
  rw [off]

/-- The causes and the engines hear of the change of position after the sections (R56, R142, R143). -/
theorem hears_position (s : State) :
    HearsOn s (setUnsure (heardUnsure (tellEngines s).coupler.unsure) (tellEngines s)) :=
  (tellEngines_hears s).trans (setUnsure_hears _)

theorem tellEngines_inhibit (s : State) (n : SecId) : ((tellEngines s).sec n).inhibit = (s.sec n).inhibit := by
  cases n <;> rfl

/-- What a CLOSED value does at the held position OPEN. -/
theorem couplerValue_joins (held : s.coupler.held = .open) : let t := couplerValue .closed s
    let u := joinDecided (sectionsJoined (noted .closed s))
    HearsOn u t ∧ Joins (noted .closed s) u ∧ SureAfter s t
      ∧ t.coupler = { s.coupler with
          held := .closed, last := some (.closed, s.ms), staleTimer := some (s.ms + span s.couplerTimeout)
          unsure := heardUnsure s.coupler.unsure } := by
  have joins : Joins (noted .closed s) (joinDecided (sectionsJoined (noted .closed s))) :=
    joinDecided_joins (sectionsJoined_joins _)
  have coupler := joins.coupler
  dsimp only
  rw [couplerValue_closed held, couplerCloses_eq]
  generalize joinDecided (sectionsJoined (noted .closed s)) = u at joins coupler ⊢
  have unsure : (tellEngines u).coupler.unsure = s.coupler.unsure :=
    (congrArg Coupler.unsure coupler :)
  refine ⟨hears_position u, joins, setUnsure_sureAfter unsure fun n => ?_, ?_⟩
  · rw [tellEngines_inhibit, joins.inhibit]
    cases n <;> rfl
  · rw [coupler_setUnsure, unsure]
    exact congrArg (fun k : Coupler => { k with unsure := heardUnsure s.coupler.unsure }) coupler

/-- Section 2 leaves JOINED from the opening, under a coupler held OPEN. -/
theorem couplerValue_separates (held : s.coupler.held = .closed) (joined : s.sec2.state = .joined) :
    let t := couplerValue .open s
    let v := faultReleased (section1Opened (noted .open s))
    let u := leaveJoined (setHeld .open v)
    HearsOn u t ∧ Opening (noted .open s) v ∧ .couplerChange ∈ u.events.summary ∧ SureAfter s t
      ∧ t.coupler = { s.coupler with
          held := .open, last := some (.open, s.ms), staleTimer := some (s.ms + span s.couplerTimeout)
          unsure := heardUnsure s.coupler.unsure } := by
  have opening : Opening (noted .open s) (faultReleased (section1Opened (noted .open s))) := faultReleased_opening joined
  dsimp only
  rw [couplerValue_open held, couplerOpens_eq]
  generalize faultReleased (section1Opened (noted .open s)) = v at opening ⊢
  have around := leaveJoined_around (setHeld .open v)
  have one := sec1_leaveJoined (setHeld .open v)
  obtain ⟨two, -⟩ := sec2_leaveJoined (setHeld .open v)
  generalize leaveJoined (setHeld .open v) = u at around one two ⊢
  have coupler : u.coupler = { (noted .open s).coupler with held := .open } := around.coupler.trans
    (congrArg (fun k : Coupler => { k with held := .open }) (opening.around.coupler.trans (raise_frame _ _ _).coupler))
  have unsure : (tellEngines u).coupler.unsure = s.coupler.unsure := (congrArg Coupler.unsure coupler :)
  refine ⟨hears_position u, opening, around.summary _ (opening.around.summary _ (mem_summary_raise _ _ _)),
    setUnsure_sureAfter unsure fun n => ?_, ?_⟩
  · rw [tellEngines_inhibit]
    cases n
    · exact (congrArg Section.inhibit one :).trans opening.inhibit
    · obtain ⟨w, watched, -⟩ := opening.watched
      exact two.trans (congrArg Section.inhibit watched :)
  · rw [coupler_setUnsure, unsure]
    exact congrArg (fun k : Coupler => { k with unsure := heardUnsure s.coupler.unsure }) coupler

/-- Section 1 as the CLOSED value leaves it, and the exit from it under a fault that stands on section 2 (R141, R145). -/
theorem joinDecided_section1 (s : State) : let j := sectionsJoined s
    (s.sec1.state = .disabled ∨ s.sec1.state = .halted → (joinDecided j).sec1.state = s.sec1.state
        ∧ .joinUntuned ∈ (joinDecided j).events.summary)
    ∧ (s.sec2.sup.phase ≠ .standing →
        (joinDecided j).sec1.state = if s.sec1.state = .tracking then .measuring else s.sec1.state)
    ∧ (s.sec1.state = .fault → (joinDecided j).sec1.state = .fault)
    ∧ (s.sec2.sup.phase = .standing → s.sec1.state = .starting ∨ s.sec1.state = .measuring ∨ s.sec1.state = .tracking
          ∨ s.sec1.state = .recovery → joinDecided j = enterFault .s1 j) := by
  intro j
  have state : j.sec1.state = if s.sec1.state = .tracking then .measuring else s.sec1.state := state1_sectionsJoined s
  have stays (h : j.sec2.faultStanding = false ∨ j.sec1.state = .fault
        ∨ j.sec1.state = .disabled ∨ j.sec1.state = .halted) :
      (joinDecided j).sec1.state = j.sec1.state := congrArg Section.state (joinDecided_stays h).1
  have same (other : s.sec1.state ≠ .tracking) : j.sec1.state = s.sec1.state := by rw [state, if_neg other]
  refine ⟨fun still => ?_, fun ends => ?_, fun fault => ?_, fun stands from_ => ?_⟩
  · have kept := same (by rintro e; rw [e] at still; rcases still with e | e <;> cases e)
    have untuned : j.sec1.state = .disabled ∨ j.sec1.state = .halted := by rw [kept]; exact still
    refine ⟨(stays (.inr (.inr untuned))).trans kept, ?_⟩
    rw [joinDecided_untuned untuned]
    exact mem_summary_raise _ _ j
  · have none : j.sec2.faultStanding = false := by
      rw [Bool.eq_false_iff]
      exact fun stands => ends ((faultStanding_sectionsJoined s).1 stands).1
    rw [stays (.inl none), state]
  · have kept := same (by rw [fault]; decide)
    rw [stays (.inr (.inl (kept.trans fault))), kept, fault]
  · have both : s.sec1.state.active = true ∧ j.sec1.state.active = true ∧ j.sec1.state ≠ .fault := by
      rw [state]
      rcases from_ with e | e | e | e <;> rw [e] <;> decide
    obtain ⟨active, active', other⟩ := both
    exact joinDecided_faults ((faultStanding_sectionsJoined s).2 ⟨stands, active⟩) active' other

/-- A manual target of coil 2 with section 2 DISABLED is the one that the closing keeps (R127, R145). -/
theorem joinKeepsTarget_iff (s : State) : s.joinKeepsTarget = true ↔
    s.sec2.state = .disabled ∧ ∃ m, s.coil2.pendMove = some m ∧ m.origin = .manual := by
  unfold State.joinKeepsTarget Coil.manualPending
  cases s.coil2.pendMove <;> simp

/-- Coil 2's target at the closing (R127, R145). -/
theorem joinDecided_target2 (s : State) : let j := joinDecided (sectionsJoined s)
    (s.sec2.state ≠ .disabled ∨ (∀ m, s.coil2.pendMove = some m → m.origin = .automatic) → j.coil2.pendMove = none)
    ∧ (s.sec2.state = .disabled → s.sec1.state = .disabled ∨ s.sec2.sup.phase ≠ .standing →
        ∀ m, s.coil2.pendMove = some m → m.origin = .manual → j.coil2.pendMove = some m) := by
  have target := target2_sectionsJoined s
  refine ⟨fun cleared => ?_, fun disabled calm m pend manual => ?_⟩
  · refine joinDecided_noTarget (c := .c2) (target.trans (if_neg fun keeps => ?_))
    obtain ⟨disabled, m, pend, manual⟩ := (joinKeepsTarget_iff s).1 keeps
    rcases cleared with other | automatic
    · exact other disabled
    · exact absurd (manual.symm.trans (automatic m pend)) nofun
  · have stays : (sectionsJoined s).sec2.faultStanding = false ∨ (sectionsJoined s).sec1.state = .fault
        ∨ (sectionsJoined s).sec1.state = .disabled ∨ (sectionsJoined s).sec1.state = .halted := by
      rcases calm with still | ends
      · have state := state1_sectionsJoined s
        rw [still] at state
        exact .inr (.inr (.inl state))
      · refine .inl (Bool.eq_false_iff.2 fun stands => ends ?_)
        exact ((faultStanding_sectionsJoined s).1 stands).1
    have coil : (joinDecided (sectionsJoined s)).coil2 = (sectionsJoined s).coil2 := (joinDecided_stays stays).2 .c2
    rw [coil, target, if_pos ((joinKeepsTarget_iff s).2 ⟨disabled, m, pend, manual⟩)]
    exact pend

/-- Section 1 enters FAULT at the closing, and nothing after it undoes that (R136, R141). -/
theorem HearsOn.fault (hears : HearsOn (enterFault .s1 s) t) (joined : s.joined = true) :
    t.sec1.state = .fault ∧ t.sec1.entryTime = s.ms ∧ t.sec1.engine.state = .off ∧ t.sec1.sup.holdOff = none
      ∧ (∀ c, (t.coil c).pendMove = none) ∧ (s.coil1.takesRequests = true → t.coil1.Silent) := by
  obtain ⟨state, entryTime, -, -, sup, engine⟩ := hears.kept .s1
  obtain ⟨v, one, holdOff⟩ := sec1_enterFault s
  rw [show (enterFault .s1 s).sec .s1 = _ from one] at state entryTime sup engine
  have coil1 : t.coil1 = (enterFault .s1 s).coil1 := hears.coil .c1
  refine ⟨state, entryTime, engine rfl, (congrArg Supervisor.holdOff sup).trans holdOff, fun c => ?_, fun takes => ?_⟩
  · rw [hears.coil]; exact enterFault_clears joined c
  · rw [coil1]; exact enterFault_silences joined takes

/-- Section 1 sees of the leaving that its supervisor goes on while it is active. -/
theorem HearsOn.left1 (hears : HearsOn (leaveJoined s) t) : t.sec1.state = s.sec1.state
    ∧ t.sec1.entryTime = s.sec1.entryTime ∧ t.sec1.ring = s.sec1.ring
    ∧ (s.sec1.state.active = true → t.sec1.sup.holdOff = s.sec1.sup.holdOff) := by
  obtain ⟨state, entryTime, -, ring, sup, -⟩ := hears.kept .s1
  rw [show (leaveJoined s).sec .s1 = _ from sec1_leaveJoined s] at state entryTime ring sup
  refine ⟨state, entryTime, ring, fun active => (congrArg Supervisor.holdOff sup).trans ?_⟩
  dsimp only
  rw [active, Supervisor.follow_holdOff]

/-- Silencing at the closing asks coil 1, which injects for section 1 before it and after it (R132). -/
theorem silenced_of_open (held : s.coupler.held = .open) (silent : s.coil1.takesRequests = true → t.coil1.Silent) :
    Silenced .s1 s t := by
  intro c injects takes
  rw [State.injector, State.joined, held] at injects
  cases injects
  exact silent takes

/-- Settles O32: each value that moves the position, by what it does to section 2, to section 1 and to the coils. -/
theorem couplerPositionMovesSections : Obligations.CouplerPositionMovesSections := by
  intro s
  refine ⟨fun held => ?_, fun held joined => ?_⟩
  · obtain ⟨hears, joins, sure, coupler⟩ := couplerValue_joins held
    obtain ⟨untuned, calm, fault, faults⟩ := joinDecided_section1 (noted .closed s)
    obtain ⟨cleared, kept⟩ := joinDecided_target2 (noted .closed s)
    obtain ⟨state1, -⟩ := hears.kept .s1
    obtain ⟨state2, -, -, -, -, engine2⟩ := hears.kept .s2
    have coil2 : (couplerValue .closed s).coil2 = (joinDecided (sectionsJoined (noted .closed s))).coil2 := hears.coil .c2
    refine ⟨coupler, sure, state2.trans joins.joined, hears.ret2.trans joins.ret2, ?_, fun n => ?_, ?_, fun still => ?_,
      fun ends => state1.trans (calm ends), fun e => state1.trans (fault e), fun stands states => ?_, fun h => ?_,
      fun disabled h m pend manual => ?_⟩
    · exact Engine.window_off ((engine2 (congrArg SecState.measures joins.joined)).trans joins.off)
    · obtain ⟨-, -, estimate, ring, -, -⟩ := hears.kept n
      exact ⟨estimate.trans (joins.estimate n), (ring.trans (joins.ring n)).trans (by cases n <;> rfl)⟩
    · rw [hears.events]; exact joins.event
    · rw [hears.events]
      obtain ⟨state, event⟩ := untuned still
      exact ⟨state1.trans state, event⟩
    · rw [faults stands states] at hears
      have joinedMode : (sectionsJoined (noted .closed s)).joined = true := by
        rw [State.joined, (sectionsJoined_joins _).coupler]
        rfl
      obtain ⟨state, entryTime, engine, holdOff, targets, silent⟩ := hears.fault joinedMode
      rw [takesRequests_sectionsJoined] at silent
      have ms := (sectionsJoined_around _).ms.trans (raise_frame .couplerChange (.busSection .s1) (noted .closed s)).ms
      exact ⟨state, entryTime.trans ms, engine, holdOff, targets .c1, targets .c2, silenced_of_open held silent⟩
    · rw [coil2]; exact cleared h
    · rw [coil2]; exact kept disabled h m pend manual
  · obtain ⟨hears, opening, event, sure, coupler⟩ := couplerValue_separates held joined
    obtain ⟨state1, entryTime1, ring1, holdOff1⟩ := hears.left1
    obtain ⟨state2, -, -, ring2, -, -⟩ := hears.kept .s2
    obtain ⟨-, disabled, halted, faults, starts⟩ :=
      sec2_leaveJoined (setHeld .open (faultReleased (section1Opened (noted .open s))))
    have ret2 : (setHeld .open (faultReleased (section1Opened (noted .open s)))).ret2 = s.ret2 :=
      opening.around.ret2.trans (by rw [raise_frame .couplerChange (.busSection .s1) (noted .open s)]; rfl)
    rw [ret2] at disabled halted faults starts
    have standing : (setHeld .open (faultReleased (section1Opened (noted .open s)))).sec2.faultStanding = true
        ↔ s.sec2.sup.phase = .standing := opening.watched.standing
    refine ⟨coupler, sure, hears.ret2, by rw [hears.events]; exact event, fun h => state2.trans (disabled h),
      fun h => state2.trans (halted h), fun h stands _ => state2.trans (faults h (standing.2 stands)), fun h ends => ?_,
      fun tracks => state1.trans (opening.tracking tracks), fun fault ends => ?_,
      fun fault stands => state1.trans (opening.stays fault stands),
      fun other sound => state1.trans (opening.others other sound)⟩
    · obtain ⟨state, ring⟩ := starts h (Bool.eq_false_iff.2 (ends ∘ standing.1))
      exact ⟨state2.trans state, ring2.trans ring⟩
    · obtain ⟨entryTime, active, atOnce, later⟩ := opening.recovers fault ends
      refine ⟨entryTime1.trans entryTime, fun cycles => ?_, fun cycles => ?_⟩
      · obtain ⟨state, ring⟩ := atOnce cycles
        exact ⟨state1.trans state, ring1.trans ring⟩
      · obtain ⟨state, holdOff⟩ := later cycles
        exact ⟨state1.trans state, (holdOff1 active).trans holdOff⟩

end Sys2Proof.Machine

/-! ### A section starts (R113, R133, R156) -/

namespace Sys2Proof.Machine

variable {s u : State} {n m : SecId} {c : CoilId} {st : SecState}

/-- A pending INJECT_ON that may be sent is sent, or stays pending behind a STOP or an occupied channel (R113). -/
theorem takePending_injects {j : Nat} (pend : (s.coil c).pendInj = some (.on j)) (may : injectMaySend c s = true) :
    ((takePending c s).coil c).pendInj = some (.on j) ∨ ((takePending c s).coil c).heldInj = .sent j := by
  unfold takePending
  dsimp only
  split
  · next free =>
    have toggle := channelFree_toggle free
    split
    · obtain ⟨_, _, _, _, _, e, -⟩ :=
        coil_formTracked_modCoil (f := fun k => { k with pendStop := false }) (by exact toggle) .stop
      rw [e]
      exact .inl pend
    · obtain ⟨_, _, _, _, _, e, -⟩ :=
        coil_formTracked_modCoil (f := fun k => { k with pendInj := none, heldInj := .sent j }) (by exact toggle) (.injectOn j)
      rw [pend]
      dsimp only
      rw [e]
      exact .inr rfl
  · exact .inl pend

theorem requestInjection_injects {j : Nat} (takes : (s.coil c).takesRequests = true) (may : injectMaySend c s = true) :
    ((requestInjection c (.on j) s).coil c).pendInj = some (.on j)
      ∨ ((requestInjection c (.on j) s).coil c).heldInj = .sent j := by
  rw [requestInjection, if_pos takes]
  refine takePending_injects (by rw [State.coil_modCoil]) ?_
  rw [injectMaySend, State.sec_modCoil]
  exact may

/-- The injecting drive of a section is that section's own coil (R132). -/
theorem sec_of_injector (injects : s.injector n = some c) : c.sec = n := by
  unfold State.injector at injects
  split at injects
  · cases n <;> cases injects
    rfl
  · cases injects
    cases n <;> rfl

/-! Supervisors of sections in use -/

theorem Supervisor.follow_inactive (v : Supervisor) : (v.follow false).phase = .idle :=
  (v.follow_idle false).2 rfl

theorem Supervisor.follow_awake {v : Supervisor} (awake : v.phase ≠ .idle) : v.follow true = v := by
  unfold Supervisor.follow
  split <;> simp_all

/-- A section that is not JOINED answers itself for the activity of its supervisor (R131). -/
theorem supervised_modSec (still : st ≠ .joined) (s : State) (e : Time) :
    (s.modSec n fun x => { x with state := st, entryTime := e }).supervised n = st.active := by
  cases n
  · rfl
  · exact if_neg still

/-- The section's own record after a change of its state to one other than JOINED. -/
theorem sec_setSectionState_own (still : st ≠ .joined) (n : SecId) (s : State) : (setSectionState n st s).sec n =
    { s.sec n with state := st, entryTime := s.ms, sup := (s.sec n).sup.follow st.active } := by
  rw [setSectionState, sec_followSections, supervised_modSec still, State.sec_modSec]

/-- A section that another section's change leaves alone but for its supervisor. -/
theorem sec_setSectionState_other (other : m ≠ n) (st : SecState) (s : State) :
    (s.sec m).agreesButSup ((setSectionState n st s).sec m) := by
  obtain ⟨v, e⟩ := sec_setSectionState n m st s
  rw [e, if_neg other]
  rfl

/-! The start -/

theorem sec_startedSections (n : SecId) (s : State) : (startedSections n s).sec n = Section.started
    { s.sec n with state := .starting, entryTime := s.ms, sup := (s.sec n).sup.follow true } := by
  rw [startedSections, State.sec_modSec, sec_setSectionState_own (by decide)]
  rfl

theorem sec_startedSections_other (other : m ≠ n) (s : State) :
    (s.sec m).agreesButSup ((startedSections n s).sec m) := by
  rw [startedSections, State.sec_modSec_other _ _ _ _ other]
  exact sec_setSectionState_other other .starting s

/-- A start reaches the supervisor in the phase it has, or from IDLE in WATCH (R157). -/
theorem Supervisor.started_follow (v : Supervisor) : (v.follow true).started = { v with
    phase := if v.phase = .idle then .watch else v.phase
    acc := none, confirm := 0, clear := 0, capture := none, holdOff := none, last := none, blind := 0 } := by
  unfold Supervisor.follow Supervisor.started
  split <;> simp_all

theorem enterStarting_eq (n : SecId) (s : State) : enterStarting n s =
    requestInjector n (.on ((startedSections n s).sec n).settings.injectionCode) (startedSections n s) := rfl

theorem coupler_startedSections (n : SecId) (s : State) : (startedSections n s).coupler = s.coupler :=
  (State.modSec_coupler _ n _).trans (coupler_setSectionState n .starting s)

/-- The start asks the injecting drive of the section for its injection (R133 step 6). -/
theorem enterStarting_injects (injects : s.injector n = some c) (takes : (s.coil c).takesRequests = true) :
    ((enterStarting n s).coil c).pendInj = some (.on (s.sec n).settings.injectionCode)
      ∨ ((enterStarting n s).coil c).heldInj = .sent (s.sec n).settings.injectionCode := by
  have injector : (startedSections n s).injector n = some c :=
    (drives_of_coupler (coupler_startedSections n s) n).2.trans injects
  have own := sec_startedSections n s
  rw [enterStarting_eq, requestInjector, injector]
  have settings : ((startedSections n s).sec n).settings = (s.sec n).settings := by rw [own]; rfl
  rw [settings]
  refine requestInjection_injects (by rw [coil_startedSections]; exact takes) ?_
  rw [injectMaySend, sec_of_injector injects, own]
  rfl

/-- Everything that a start of a section does and leaves alone (R133). -/
theorem enterStarting_started (n : SecId) (s : State) : Started n s (enterStarting n s) := by
  have frame := (enterStarting_acts n s).frame
  have own := (frame.sec n).trans (sec_startedSections n s)
  refine ⟨?_, ?_, fun m other => ?_, ?_, fun c => enterStarting_injects⟩
  · rw [own]; rfl
  · rw [own, ← Supervisor.started_follow]; rfl
  · rw [frame.sec]; exact sec_startedSections_other other s
  · unfold AgreeBeyondLinks
    unfold DriveFrame at frame
    rw [frame]
    cases n <;> rfl

/-- A start makes no difference between hold-offs, as it stops them (R156, R157). -/
theorem Started.of_setHoldOff {h : Option Nat} (started : Started n (setHoldOff n h s) u) : Started n s u := by
  obtain ⟨own, sup, others, frame, injection⟩ := started
  have sec : (setHoldOff n h s).sec n = { s.sec n with sup := { (s.sec n).sup with holdOff := h } } := State.sec_modSec s n _
  rw [sec] at own sup
  refine ⟨own.trans (by rw [setHoldOff, State.modSec_ms]), sup, fun m other => ?_, ?_, fun c => ?_⟩
  · have same := others m other
    rwa [setHoldOff, State.sec_modSec_other _ _ _ _ other] at same
  · cases n <;> exact frame
  · have asks := injection c
    rw [sec, setHoldOff, State.coil_modSec] at asks
    cases n <;> exact asks

end Sys2Proof.Machine

/-! ### ENABLE_SECTION and RESTART_SECTION (R134, R138) -/

namespace Sys2Proof.Machine

variable {s : State} {r : Request} {b : List Byte} {c : CoilId} {n : SecId} {o : Role} {x : Slot}

theorem coilsSound_iff (s : State) (n : SecId) : s.coilsSound n = true ↔ ∀ c ∈ s.drives n, (s.coil c).failed = false := by
  simp [State.coilsSound]

theorem Slot.binds_iff : x.binds o n = true ↔ ∃ d bs, x.defn = some d ∧ d.body = .sample bs
    ∧ (x.state = .active ∨ x.state = .warning) ∧ ∃ y ∈ bs, y.role = o ∧ y.sec = n := by
  rw [Slot.binds, Bool.and_eq_true, distributes_iff]
  constructor
  · rintro ⟨band, named⟩
    split at named
    · next tag mode bs defn => exact ⟨_, bs, defn, rfl, band, by simpa using named⟩
    · cases named
  · rintro ⟨⟨tag, mode, _⟩, bs, defn, rfl, band, named⟩
    rw [defn]
    exact ⟨band, by simpa using named⟩

theorem Slot.drivesCoil_iff : x.drivesCoil c = true ↔ ∃ d, x.defn = some d ∧ d.body = .drive c
    ∧ (x.state = .active ∨ x.state = .warning) := by
  rw [Slot.drivesCoil, Bool.and_eq_true, distributes_iff]
  constructor
  · rintro ⟨band, named⟩
    split at named
    · next tag mode d defn => exact ⟨_, defn, by rw [eq_of_beq named], band⟩
    · cases named
  · rintro ⟨⟨tag, mode, _⟩, defn, rfl, band⟩
    rw [defn]
    exact ⟨band, beq_self_eq_true c⟩

theorem any_slotNumbers (p : Fin 24 → Bool) : slotNumbers.any p = true ↔ ∃ i, p i = true := by
  simp [slotNumbers]

/-- A slot in ACTIVE or WARNING holds the binding of this role for the section (R134). -/
def Fed (s : State) (n : SecId) (o : Role) : Prop := ∃ i d bs, (s.slot i).defn = some d ∧ d.body = .sample bs
  ∧ ((s.slot i).state = .active ∨ (s.slot i).state = .warning) ∧ ∃ x ∈ bs, x.role = o ∧ x.sec = n

/-- The checks of R134 on a section that the request names. -/
theorem mayEnable_iff (n : SecId) (s : State) : mayEnable n s = true ↔
    (s.sec n).state = .disabled ∧ (s.coil n.coil).table ≠ [] ∧ Fed s n .voltage ∧ Fed s n .current
      ∧ (∃ i d, (s.slot i).defn = some d ∧ d.body = .drive n.coil
          ∧ ((s.slot i).state = .active ∨ (s.slot i).state = .warning))
      ∧ ∀ c ∈ s.drives n, (s.coil c).failed = false := by
  simp only [mayEnable, Bool.and_eq_true, beq_iff_eq, any_slotNumbers, Slot.binds_iff, Slot.drivesCoil_iff, coilsSound_iff,
    Bool.not_eq_true', List.isEmpty_eq_false_iff, and_assoc, Fed]

/-- Settles O43, by what the checks of R134 say of the state. -/
theorem enableSectionStarts : Obligations.EnableSectionStarts := by
  intro s r b n serving hl hn fed driven passes
  have served : exec .enableSection s = .next (conclude (answer r (serveEnableSection n s))) :=
    congrArg Host.Outcome.next ((act_serving serving _).trans (by rw [withSection_number hl hn]))
  have checks : mayEnable n s = true ↔ passes := mayEnable_iff n s
  refine ⟨fun pass => ⟨enterStarting n s, ?_, enterStarting_started n s⟩, fun fail => ?_⟩
  · rw [served, serveEnableSection, if_pos (checks.2 pass)]
  · rw [served, serveEnableSection, if_neg (fail ∘ checks.1)]

/-- Settles O45, check by check. -/
theorem restartSectionStarts : Obligations.RestartSectionStarts := by
  intro s r b serving hl
  have served : exec .restartSection s = .next (conclude (answer r (withSection serveRestartSection b s))) :=
    congrArg Host.Outcome.next (act_serving serving _)
  refine ⟨fun not1 not2 => ?_, fun n hn => ?_⟩
  · rw [served, withSection, if_pos hl, secOf_eq_none not1 not2]
  · rw [withSection_number hl hn] at served
    refine ⟨fun barred => ?_, fun halted sound => ⟨enterStarting n s, ?_, enterStarting_started n s, ?_⟩⟩
    · rw [served, serveRestartSection, if_neg]
      rw [coilsSound_iff]
      rintro ⟨halted, sound⟩
      rcases barred with other | ⟨c, driven, failed⟩
      · exact other halted
      · exact absurd (failed.symm.trans (sound c driven)) nofun
    · rw [served, serveRestartSection, if_pos ⟨halted, (coilsSound_iff s n).2 sound⟩]
    · obtain ⟨own, -⟩ := enterStarting_started n s
      rw [own]

end Sys2Proof.Machine

/-! ### What follows from a change of the unsure causes (R142 to R144) -/

namespace Sys2Proof.Machine

variable {s t : State} {c : CoilId} {k : Coupler}

theorem coupler_unsureSections (s : State) : (unsureSections s).coupler = s.coupler := by
  rw [unsureSections, turnEngineOff, State.modSec_coupler, turnEngineOff, State.modSec_coupler, (raise_frame _ _ _).coupler]

theorem coil_unsureSections (c : CoilId) (s : State) : (unsureSections s).coil c = s.coil c := by
  rw [unsureSections, turnEngineOff, State.coil_modSec, turnEngineOff, State.coil_modSec, coil_raise]
  cases c <;> rfl

/-- The targets go that were pending for the sections whose inhibit set was empty (R144). -/
def inhibitedCoils (s : State) : List CoilId :=
  (if s.sec1.inhibit.isEmpty then s.drives .s1 else []) ++ if s.sec2.inhibit.isEmpty then s.drives .s2 else []

theorem mem_inhibitedCoils : c ∈ inhibitedCoils s ↔ ∃ n, (s.sec n).inhibit.isEmpty = true ∧ c ∈ s.drives n := by
  have pick (b : Bool) (cs : List CoilId) : c ∈ (if b = true then cs else []) ↔ b = true ∧ c ∈ cs := by
    cases b <;> simp
  rw [inhibitedCoils, List.mem_append, pick, pick]
  constructor
  · rintro (one | two)
    exacts [⟨.s1, one⟩, ⟨.s2, two⟩]
  · rintro ⟨_ | _, h⟩
    exacts [.inl h, .inr h]

theorem becomeUnsure_eq (s : State) : becomeUnsure s = clearTargets (inhibitedCoils s) (unsureSections s) := by
  have clear (b : Bool) (n : SecId) (t : State) (same : t.coupler = s.coupler) :
      (if b then clearTargets (t.drives n) t else t) = clearTargets (if b then s.drives n else []) t := by
    rw [(drives_of_coupler same n).1]
    split <;> rfl
  have first := clear s.sec1.inhibit.isEmpty .s1 (unsureSections s) (coupler_unsureSections s)
  have second := clear s.sec2.inhibit.isEmpty .s2
    (clearTargets (if s.sec1.inhibit.isEmpty then s.drives .s1 else []) (unsureSections s))
    ((clearTargets_frame _ _).coupler.trans (coupler_unsureSections s))
  calc becomeUnsure s
      = (let t := if s.sec1.inhibit.isEmpty then clearTargets ((unsureSections s).drives .s1) (unsureSections s)
          else unsureSections s
        if s.sec2.inhibit.isEmpty then clearTargets (t.drives .s2) t else t) := rfl
    _ = _ := by
      dsimp only
      rw [first, second, inhibitedCoils]
      exact (List.foldl_append ..).symm

theorem coil_becomeUnsure_eq (c : CoilId) (s : State) : (becomeUnsure s).coil c =
    if c ∈ inhibitedCoils s then { s.coil c with pendMove := none } else s.coil c := by
  rw [becomeUnsure_eq, coil_clearTargets_eq, coil_unsureSections]

/-- Becoming unsure changes ports, sections, coils and events, and nothing else. -/
theorem becomeUnsure_beyondLinks (s : State) : AgreeBeyondLinks
    { s with sec1 := (becomeUnsure s).sec1, sec2 := (becomeUnsure s).sec2, events := (becomeUnsure s).events }
    (becomeUnsure s) := by
  have raised := raise_frame .couplerUnsure (.busSection .s1)
    { s with sec1 := { s.sec1 with inhibit := { s.sec1.inhibit with unsure := true } }
             sec2 := { s.sec2 with inhibit := { s.sec2.inhibit with unsure := true } } }
  have cleared := (becomeUnsure_acts s).frame
  unfold DriveFrame at cleared
  unfold LinkFrame at raised
  unfold AgreeBeyondLinks
  rw [cleared, unsureSections, raised]
  rfl

/-- An engine that goes OFF gives up a window in flight (R62, R64, R65). -/
theorem Engine.turnOff_run {g : Engine} {w : Window} (runs : g.state = .run w) (cause : DiscardCause) : g.turnOff cause =
    { g with
      state := .off, firstPair := false, discarded := satInc g.discarded
      outcome := some { result := .discarded cause, start := w.start, w := w.w, taken := w.taken, subst := w.subst,
                        phasors := none } } := by
  simp only [Engine.turnOff, Engine.discard, runs]

theorem Engine.turnOff_still {g : Engine} (still : ∀ w, g.state ≠ .run w) (cause : DiscardCause) :
    g.turnOff cause = { g with state := .off, firstPair := false } := by
  unfold Engine.turnOff Engine.discard
  split
  · next w runs => exact absurd runs (still w)
  · rfl
  · rfl

/-- The coils of a section depend on the held position alone (R132). -/
theorem drives_of_held (held : t.coupler.held = s.coupler.held) : t.drives = s.drives := by
  unfold State.drives State.joined
  rw [held]

/-- The causes take a value under the held position as it is (R143, R144). -/
theorem setUnsure_follows {x : Unsure} (unsure : k.unsure = s.coupler.unsure) (held : k.held = s.coupler.held) :
    UnsureFollows s (setUnsure x { s with coupler := k }) := by
  have causes : (setUnsure x { s with coupler := k }).coupler.unsure = x := by rw [coupler_setUnsure]
  unfold UnsureFollows
  rw [causes]
  refine ⟨fun was now => ?_, fun was now => ?_, fun same => ?_⟩
  · rw [setUnsure_unsure (by rw [← was, ← unsure]) now]
    let v : State := { s with coupler := { k with unsure := x } }
    have drives : v.drives = s.drives := drives_of_held held
    have targets (c : CoilId) : c ∈ inhibitedCoils v ↔ ∃ n, (s.sec n).inhibit.isEmpty = true ∧ c ∈ s.drives n := by
      simp only [mem_inhibitedCoils, drives]
      exact exists_congr fun n => by cases n <;> rfl
    have coil (c : CoilId) : (becomeUnsure v).coil c =
        if c ∈ inhibitedCoils v then { s.coil c with pendMove := none } else s.coil c := by
      rw [coil_becomeUnsure_eq]
      cases c <;> rfl
    refine ⟨mem_summary_becomeUnsure v, fun n => ?_, fun n empty c driven => ?_, fun c others => ?_, ?_⟩
    · have sec : v.sec n = s.sec n := by cases n <;> rfl
      rw [sec_becomeUnsure, sec]
      unfold Section.unsureNow
      dsimp only
      split
      · next w runs => rw [Engine.turnOff_run runs]
      · next waits => rw [Engine.turnOff_still (by rw [waits]; exact nofun)]
      · next off => rw [Engine.turnOff_still (by rw [off]; exact nofun), off]
    · rw [coil, if_pos ((targets c).2 ⟨n, empty, driven⟩)]
    · refine (coil c).trans (if_neg fun driven => ?_)
      obtain ⟨n, empty, driven⟩ := (targets c).1 driven
      exact others n empty driven
    · have beyond := becomeUnsure_beyondLinks v
      have coupler := coupler_becomeUnsure v
      unfold AgreeBeyondLinks at beyond ⊢
      rw [coupler]
      exact beyond
  · rw [setUnsure_sure (by rw [← was, ← unsure]) now]
    refine ⟨fun n => ?_, rfl⟩
    rw [sec_becomeSure]
    cases n <;> rfl
  · rw [setUnsure_still (by rw [← same, ← unsure])]

/-- Settles O31: each value or report is a change of the causes under the held position as it is. -/
theorem unsureCausesActOnSections : Obligations.UnsureCausesActOnSections := by
  intro s heard
  have hears (v : CouplerValue) (still : couplerValue v s =
        setUnsure { (noted v s).coupler.unsure with
          noValue := false, stale := false, value := v == .intermediate || v == .bad } (noted v s)) :
      (couplerValue v s).coupler = heard v (v == .intermediate || v == .bad) ∧ UnsureFollows s (couplerValue v s) := by
    rw [still]
    exact ⟨coupler_setUnsure _ _, setUnsure_follows rfl rfl⟩
  refine ⟨fun v given => ?_, fun v given => ?_, fun a => ⟨coupler_setUnsure _ _, setUnsure_follows rfl rfl⟩⟩
  · rcases given with rfl | rfl
    · exact hears .intermediate rfl
    · exact hears .bad rfl
  · rcases given with ⟨rfl, held⟩ | ⟨rfl, held⟩
    · exact hears .open (by rw [couplerValue_eq, held])
    · exact hears .closed (by rw [couplerValue_eq, held])

end Sys2Proof.Machine

/-! ### Hold-off, stale timer and ALARM (R140, R142, R156, R165) -/

namespace Sys2Proof.Machine

variable {s : State} {n : SecId}

theorem holdOffDue_of_reached {h : Nat} (recovers : (s.sec n).state = .recovery) (counts : (s.sec n).sup.holdOff = some h)
    (reached : (s.sec n).settings.recoveryCycles ≤ h) : holdOffDue n s = true := by
  simp [holdOffDue, recovers, counts, reached]

/-- Settles O28, expiry by expiry. -/
theorem sectionAndCouplerExpiries : Obligations.SectionAndCouplerExpiries := by
  intro s live
  have expires (e : State → State) {t : State} (acts : e s = t) :
      Host.Outcome.next (act e s) = (.next (conclude t) : Host.Outcome State Fault Refusal) := by
    rw [act_live live, acts]
  refine ⟨fun n h recovers counts reached => ?_, fun runs => ?_, fun a alarm => ?_⟩
  · have due := holdOffDue_of_reached recovers counts reached
    exact ⟨enterStarting n (setHoldOff n none s), expires (holdOffRunsOut n) (if_pos due),
      (enterStarting_started n _).of_setHoldOff⟩
  · exact ⟨setUnsure { s.coupler.unsure with stale := true } { s with coupler := { s.coupler with staleTimer := none } },
      expires staleExpires (if_pos runs), coupler_setUnsure _ _, setUnsure_follows rfl rfl⟩
  · exact expires alarmReasserts (by rw [alarmReasserts, alarm])

end Sys2Proof.Machine

/-! ### DISABLE_SECTION (R136, R139, R157) -/

namespace Sys2Proof.Machine

variable {s u : State} {n m : SecId} {c : CoilId}

/-- A pending INJECT_OFF goes before the target: the channel may take it or a STOP, but no move (R113). -/
theorem coil_takePending_silences (silences : (s.coil c).pendInj = some .off) : ∃ i p g f w a x,
    (takePending c s).coil c = { s.coil c with
      pendInj := i, pendStop := p, toggle := g, inFlight := f, waiting := w, acceptTimer := a, confirmTimer := x } := by
  unfold takePending
  dsimp only
  split
  · next free =>
    have toggle := channelFree_toggle free
    split
    · obtain ⟨_, _, _, _, _, e, -⟩ :=
        coil_formTracked_modCoil (f := fun k => { k with pendStop := false }) (by exact toggle) .stop
      exact ⟨_, _, _, _, _, _, _, e⟩
    · obtain ⟨_, _, _, _, _, e, -⟩ :=
        coil_formTracked_modCoil (f := fun k => { k with pendInj := none }) (by exact toggle) .injectOff
      rw [silences]
      exact ⟨_, _, _, _, _, _, _, e⟩
  · exact ⟨_, _, _, _, _, _, _, rfl⟩

theorem requestInjection_keepsMove (d : CoilId) (s : State) (c : CoilId) :
    ((requestInjection d .off s).coil c).move = (s.coil c).move := by
  by_cases same : c = d
  · rw [same, requestInjection]
    split
    · obtain ⟨_, _, _, _, _, _, _, e⟩ := coil_takePending_silences (c := d)
        (s := s.modCoil d fun k => { k with pendInj := some .off }) (by rw [State.coil_modCoil])
      rw [e, State.coil_modCoil]
    · rfl
  · rw [(requestInjection_acts d .off s).others c same]

theorem requestInjector_keepsMove (n : SecId) (s : State) (c : CoilId) :
    ((requestInjector n .off s).coil c).move = (s.coil c).move := by
  unfold requestInjector
  split
  exacts [requestInjection_keepsMove _ s c, rfl]

/-- The requests of a DISABLED section: its targets are cleared, its injection silenced, and its moves left to run (R136). -/
def restRequests (n : SecId) (s : State) : State := requestInjector n .off (clearTargets (s.drives n) s)

theorem restRequests_acts (n : SecId) (s : State) : DriveActs s (restRequests n s) :=
  (clearTargets_acts _ s).trans (requestInjector_acts n .off _)

theorem restRequests_coil (driven : c ∈ s.drives n) :
    ((restRequests n s).coil c).pendMove = none ∧ ((restRequests n s).coil c).move = (s.coil c).move := by
  have cleared : (clearTargets (s.drives n) s).coil c = { s.coil c with pendMove := none } := by
    rw [coil_clearTargets_eq, if_pos driven]
  constructor
  · exact (requestInjector_works n .off (clearTargets (s.drives n) s) c).noTarget (by rw [cleared])
  · rw [restRequests, requestInjector_keepsMove, cleared]

theorem restRequests_silenced (n : SecId) (s : State) : Silenced n s (restRequests n s) := by
  intro c injects takes
  have cleared := clearTargets_acts (s.drives n) s
  have still := (clearTargets_keepsFlight (s.drives n) c s).takesRequests (cleared.coils c) takes
  have injector := (drives_of_coupler cleared.frame.coupler n).2.trans injects
  rw [restRequests, requestInjector, injector]
  exact requestInjection_silent still

/-- The sections as DISABLE_SECTION leaves them (R136, R139). -/
def disabledSections (n : SecId) (s : State) : State := setSectionState n .disabled (turnEngineOff n .state s)

theorem coupler_disabledSections (n : SecId) (s : State) : (disabledSections n s).coupler = s.coupler :=
  (coupler_setSectionState n .disabled _).trans (State.modSec_coupler s n _)

theorem coil_disabledSections (n : SecId) (s : State) (c : CoilId) : (disabledSections n s).coil c = s.coil c :=
  (coil_setSectionState n .disabled _ c).trans (State.coil_modSec s n _ c)

theorem events_disabledSections (n : SecId) (s : State) : (disabledSections n s).events = s.events :=
  (events_setSectionState n .disabled _).trans (State.modSec_events s n _)

theorem sec_disabledSections (n : SecId) (s : State) : (disabledSections n s).sec n =
    { s.sec n with state := .disabled, entryTime := s.ms, engine := (s.sec n).engine.turnOff .state
                   sup := (s.sec n).sup.follow false } := by
  rw [disabledSections, sec_setSectionState_own (by decide), turnEngineOff, State.sec_modSec, State.modSec_ms]
  rfl

theorem sec_disabledSections_other (other : m ≠ n) (s : State) :
    (s.sec m).agreesButSup ((disabledSections n s).sec m) := by
  have same := sec_setSectionState_other other .disabled (turnEngineOff n .state s)
  rwa [turnEngineOff, State.sec_modSec_other _ _ _ _ other] at same

/-- DISABLE_SECTION on a section that is neither DISABLED nor JOINED (R139). -/
theorem disableSection_eq (on : (s.sec n).state ≠ .disabled) (apart : (s.sec n).state ≠ .joined) : disableSection n s =
    let t := restRequests n (disabledSections n s)
    if n = .s1 ∧ s.joined then raise .joinUntuned (.busSection .s1) t else t := by
  have joined : (restRequests n (disabledSections n s)).joined = s.joined := by
    rw [State.joined, (restRequests_acts n _).frame.coupler, coupler_disabledSections]
    rfl
  dsimp only
  rw [← joined]
  unfold disableSection
  split
  case h_1 | h_2 => contradiction
  all_goals rfl

/-- What DISABLE_SECTION does to sections and coils, whether or not it leaves the joined network untuned. -/
structure Rests (n : SecId) (s u : State) : Prop where
  sec : ∀ m, u.sec m = (disabledSections n s).sec m
  coil : ∀ c, u.coil c = (restRequests n (disabledSections n s)).coil c
  coupler : u.coupler = s.coupler

theorem restRequests_rests (n : SecId) (s : State) : Rests n s (restRequests n (disabledSections n s)) where
  sec := (restRequests_acts n _).frame.sec
  coil _ := rfl
  coupler := (restRequests_acts n _).frame.coupler.trans (coupler_disabledSections n s)

theorem Rests.raise (h : Rests n s u) (k : EventKind) (o : Obj) : Rests n s (raise k o u) where
  sec m := ((raise_frame k o u).sec m).trans (h.sec m)
  coil c := (coil_raise k o u c).trans (h.coil c)
  coupler := (raise_frame k o u).coupler.trans h.coupler

theorem disableSection_rests (on : (s.sec n).state ≠ .disabled) (apart : (s.sec n).state ≠ .joined) :
    Rests n s (disableSection n s) := by
  have rests := restRequests_rests n s
  rw [disableSection_eq on apart]
  dsimp only
  split
  exacts [rests.raise _ _, rests]

theorem disableSection_events (on : (s.sec n).state ≠ .disabled) (apart : (s.sec n).state ≠ .joined) :
    (n = .s1 → s.joined = true → .joinUntuned ∈ (disableSection n s).events.summary)
      ∧ (n = .s2 ∨ s.joined = false → (disableSection n s).events = s.events) := by
  rw [disableSection_eq on apart]
  refine ⟨fun one joined => ?_, fun tuned => ?_⟩
  · rw [if_pos ⟨one, joined⟩]
    exact mem_summary_raise _ _ _
  · rw [if_neg]
    · exact (restRequests_acts n _).frame.events.trans (events_disabledSections n s)
    · rintro ⟨one, joined⟩
      rcases tuned with two | single
      · exact absurd (one.symm.trans two) nofun
      · exact absurd (joined.symm.trans single) nofun

theorem Rests.coils (h : Rests n s u) :
    (∀ c ∈ s.drives n, (u.coil c).pendMove = none ∧ (u.coil c).move = (s.coil c).move) ∧ Silenced n s u := by
  have coupler := coupler_disabledSections n s
  refine ⟨fun c driven => ?_, ?_⟩
  · rw [h.coil, ← coil_disabledSections n s]
    exact restRequests_coil ((drives_of_coupler coupler n).1 ▸ driven)
  · exact (restRequests_silenced n _).of_same coupler.symm (fun c => (coil_disabledSections n s c).symm) h.coil

/-- Settles O44, by the state that the request finds the section in. -/
theorem disableSectionStops : Obligations.DisableSectionStops := by
  intro s r b n serving hl hn
  have served : exec .disableSection s = .next (conclude (answer r (done (disableSection n s)))) :=
    congrArg Host.Outcome.next ((act_serving serving _).trans (by rw [withSection_number hl hn]; rfl))
  refine ⟨fun off => ?_, fun joined => ?_, fun on apart => ⟨disableSection n s, served, ?_⟩⟩
  · rw [served, disableSection, off]
  · rw [served, disableSection, joined]
  · have rests := disableSection_rests on apart
    have own := (rests.sec n).trans (sec_disabledSections n s)
    obtain ⟨coils, silenced⟩ := rests.coils
    obtain ⟨untuned, quiet⟩ := disableSection_events on apart
    have slots : (disableSection n s).slots = s.slots := by rw [disableSection_frame n s]
    rw [own]
    refine ⟨rfl, rfl, rfl, (s.sec n).sup.follow_inactive, rfl, rfl, rfl, rfl, rfl, rfl, fun m other => ?_, coils, silenced,
      untuned, quiet, slots, rests.coupler⟩
    rw [rests.sec]
    exact sec_disabledSections_other other s

end Sys2Proof.Machine

/-! ### A fault is confirmed, and cleared (R140, R141, R153 to R156) -/

namespace Sys2Proof.Machine

variable {s : State} {m : SecId} {st : SecState}

/-! A supervisor goes on while a section takes an active state -/

/-- The supervisor of the section is at work, and its section is one that keeps it so (R131, R157). -/
structure AtWork (m : SecId) (s : State) : Prop where
  supervised : s.supervised m = true
  awake : (s.sec m).sup.phase ≠ .idle

/-- Whichever section takes the active state, no supervisor at work is stopped (R131, R158). -/
theorem supervised_stays (watched : s.supervised m = true) (active : st.active = true) (k : SecId) (e : Time) :
    (s.modSec k fun x => { x with state := st, entryTime := e }).supervised m = true := by
  cases k <;> cases m
  · exact active
  · show (if s.sec2.state = .joined then st.active else s.sec2.state.active) = true
    split
    · exact active
    · next apart => rw [← watched]; exact (if_neg apart).symm
  · exact watched
  · show (if st = .joined then s.sec1.state.active else st.active) = true
    split
    · next joined => rw [joined] at active; cases active
    · exact active

theorem AtWork.setSectionState (h : AtWork m s) (active : st.active = true) (k : SecId) :
    AtWork m (setSectionState k st s) ∧ ((setSectionState k st s).sec m).sup = (s.sec m).sup := by
  have stays := supervised_stays h.supervised active k s.ms
  have before : ((s.modSec k fun x => { x with state := st, entryTime := s.ms }).sec m).sup = (s.sec m).sup := by
    by_cases same : m = k
    · rw [same, State.sec_modSec]
    · rw [State.sec_modSec_other _ _ _ _ same]
  have sup : ((Machine.setSectionState k st s).sec m).sup = (s.sec m).sup := by
    rw [Machine.setSectionState, sec_followSections, stays, before, Supervisor.follow_awake h.awake]
  refine ⟨⟨?_, sup ▸ h.awake⟩, sup⟩
  rw [← stays]
  exact supervised_of_states (fun m => by rw [Machine.setSectionState, sec_followSections]) m

/-- A change of one section that keeps its state and leaves its supervisor in the phase it had. -/
theorem AtWork.modSec (h : AtWork m s) {f : Section → Section} (k : SecId) (state : (f (s.sec k)).state = (s.sec k).state)
    (phase : (f (s.sec k)).sup.phase = (s.sec k).sup.phase) : AtWork m (s.modSec k f) := by
  constructor
  · rw [supervised_of_states (s := s) fun n => ?_]
    · exact h.supervised
    · by_cases same : n = k
      · rw [same, State.sec_modSec, state]
      · rw [State.sec_modSec_other _ _ _ _ same]
  · by_cases same : m = k
    · rw [same, State.sec_modSec, phase, ← same]; exact h.awake
    · rw [State.sec_modSec_other _ _ _ _ same]; exact h.awake

theorem AtWork.setHoldOff (h : AtWork m s) (k : SecId) (x : Option Nat) : AtWork m (setHoldOff k x s) :=
  h.modSec k (f := fun y => { y with sup := { y.sup with holdOff := x } }) rfl rfl

theorem AtWork.turnEngineOff (h : AtWork m s) (k : SecId) (cause : DiscardCause) : AtWork m (turnEngineOff k cause s) :=
  h.modSec k (f := fun y => { y with engine := y.engine.turnOff cause }) rfl rfl

theorem sup_turnEngineOff (k m : SecId) (cause : DiscardCause) (s : State) :
    ((turnEngineOff k cause s).sec m).sup = (s.sec m).sup := by
  by_cases same : m = k
  · rw [same, turnEngineOff, State.sec_modSec]
  · rw [turnEngineOff, State.sec_modSec_other _ _ _ _ same]

theorem sup_setHoldOff (k m : SecId) (x : Option Nat) (s : State) : ((setHoldOff k x s).sec m).sup =
    if m = k then { (s.sec m).sup with holdOff := x } else (s.sec m).sup := by
  by_cases same : m = k
  · rw [if_pos same, same, setHoldOff, State.sec_modSec]
  · rw [if_neg same, setHoldOff, State.sec_modSec_other _ _ _ _ same]

/-! Section `k` enters FAULT -/

/-- The sections as the entry into FAULT leaves them (R140, R141). -/
def faultSections (k : SecId) (s : State) : State :=
  setHoldOff k none (setSectionState k .fault (turnEngineOff k .state s))

theorem enterFault_eq (k : SecId) (s : State) : enterFault k s = stopAndSilence k (faultSections k s) := rfl

theorem coupler_faultSections (k : SecId) (s : State) : (faultSections k s).coupler = s.coupler := by
  rw [faultSections, setHoldOff, State.modSec_coupler, coupler_setSectionState, turnEngineOff, State.modSec_coupler]

theorem coil_faultSections (k : SecId) (s : State) (c : CoilId) : (faultSections k s).coil c = s.coil c := by
  rw [faultSections, setHoldOff, State.coil_modSec, coil_setSectionState, turnEngineOff, State.coil_modSec]

/-- The section that enters FAULT (R136, R140). -/
theorem sec_enterFault (k : SecId) (s : State) : (enterFault k s).sec k = { s.sec k with
    state := .fault, entryTime := s.ms, engine := (s.sec k).engine.turnOff .state
    sup := { (s.sec k).sup.follow true with holdOff := none } } := by
  rw [enterFault_eq, (stopAndSilence_acts k _).frame.sec, faultSections, setHoldOff, State.sec_modSec,
    sec_setSectionState_own (by decide), turnEngineOff, State.sec_modSec, State.modSec_ms]
  rfl

/-- A supervisor at work without a hold-off goes on unchanged while a section enters FAULT. -/
theorem AtWork.sup_enterFault (h : AtWork m s) (stopped : (s.sec m).sup.holdOff = none) (k : SecId) :
    ((enterFault k s).sec m).sup = (s.sec m).sup := by
  have entered := ((h.turnEngineOff k .state).setSectionState (st := .fault) rfl k).2.trans (sup_turnEngineOff k m .state s)
  rw [enterFault_eq, (stopAndSilence_acts k _).frame.sec, faultSections, sup_setHoldOff, entered]
  split
  · rw [← stopped]
  · rfl

/-- The exit to FAULT clears the targets of the coils that the section drives, and silences its drive (R136). -/
theorem enterFault_coils (k : SecId) (s : State) :
    (∀ c ∈ s.drives k, ((enterFault k s).coil c).pendMove = none) ∧ Silenced k s (enterFault k s) := by
  have coupler := coupler_faultSections k s
  rw [enterFault_eq]
  refine ⟨fun c driven => stopAndSilence_noTarget k _ ((drives_of_coupler coupler k).1 ▸ driven), ?_⟩
  exact (stopAndSilence_silenced k _).of_same coupler.symm (fun c => (coil_faultSections k s c).symm) fun _ => rfl

/-! Section `k` enters RECOVERY -/

/-- The sections as the entry into RECOVERY leaves them, before a hold-off of length 0 runs out (R156). -/
def recovering (k : SecId) (s : State) : State := setHoldOff k (some 0) (setSectionState k .recovery s)

theorem sec_recovering (k : SecId) (s : State) : (recovering k s).sec k = { s.sec k with
    state := .recovery, entryTime := s.ms, sup := { (s.sec k).sup.follow true with holdOff := some 0 } } := by
  rw [recovering, setHoldOff, State.sec_modSec, sec_setSectionState_own (by decide)]
  rfl

theorem enterRecovery_if (k : SecId) (s : State) : enterRecovery k s =
    if (s.sec k).settings.recoveryCycles = 0 then enterStarting k (recovering k s) else recovering k s := by
  have settings : ((recovering k s).sec k).settings = (s.sec k).settings := by rw [sec_recovering]
  rw [← settings]
  rfl

/-- The section that enters RECOVERY waits there for its hold-off, or starts at once (R140, R156). -/
theorem sec_enterRecovery (k : SecId) (s : State) : let x := (enterRecovery k s).sec k
    x.entryTime = s.ms
      ∧ ((s.sec k).settings.recoveryCycles = 0 → x.state = .starting ∧ x.ring = Ring.cleared)
      ∧ ((s.sec k).settings.recoveryCycles ≠ 0 → x.state = .recovery ∧ x.sup.holdOff = some 0) := by
  rw [enterRecovery_if]
  split
  · next cycles =>
    obtain ⟨own, -⟩ := enterStarting_started k (recovering k s)
    have ms : (recovering k s).ms = s.ms := (State.modSec_ms _ k _).trans (State.modSec_ms s k _)
    rw [own]
    exact ⟨ms, fun _ => ⟨rfl, rfl⟩, absurd cycles⟩
  · next cycles =>
    rw [sec_recovering]
    exact ⟨rfl, fun none => absurd none cycles, fun _ => ⟨rfl, rfl⟩⟩

/-- The fault that the supervisor watches is not touched: phase and fault record stay, and a clear count of 0 stays 0. -/
structure Supervisor.SameFault (v w : Supervisor) : Prop where
  phase : w.phase = v.phase
  record : w.record = v.record
  clear : v.clear = 0 → w.clear = 0

theorem Supervisor.SameFault.of_eq {v w : Supervisor} (same : w = v) : v.SameFault w := same ▸ ⟨rfl, rfl, id⟩

theorem Supervisor.SameFault.trans {v w x : Supervisor} (h : v.SameFault w) (h' : w.SameFault x) : v.SameFault x :=
  ⟨h'.phase.trans h.phase, h'.record.trans h.record, h'.clear ∘ h.clear⟩

/-- A change of one section that leaves the fault to its supervisor leaves it to every supervisor. -/
theorem sameFault_modSec {f : Section → Section} (k : SecId) (own : (s.sec k).sup.SameFault (f (s.sec k)).sup) (m : SecId) :
    (s.sec m).sup.SameFault ((s.modSec k f).sec m).sup := by
  by_cases same : m = k
  · rw [same, State.sec_modSec]; exact own
  · rw [State.sec_modSec_other _ _ _ _ same]; exact .of_eq rfl

/-- A supervisor at work keeps its fault while a section enters RECOVERY, and while it starts at once. -/
theorem AtWork.sup_enterRecovery (h : AtWork m s) (k : SecId) :
    (s.sec m).sup.SameFault ((enterRecovery k s).sec m).sup := by
  obtain ⟨recovers, same⟩ := h.setSectionState (st := .recovery) rfl k
  have waits : (s.sec m).sup.SameFault ((recovering k s).sec m).sup :=
    (Supervisor.SameFault.of_eq same).trans (sameFault_modSec k ⟨rfl, rfl, id⟩ m)
  have atWork : AtWork m (recovering k s) := recovers.setHoldOff k (some 0)
  rw [enterRecovery_if]
  split
  · rw [(enterStarting_acts k _).frame.sec]
    exact (waits.trans (.of_eq (atWork.setSectionState (st := .starting) rfl k).2)).trans
      (sameFault_modSec k ⟨rfl, rfl, fun _ => rfl⟩ m)
  · exact waits

end Sys2Proof.Machine

/-! ### The closed cycle is judged (R151, R153 to R155) -/

namespace Sys2Proof.Machine

variable {s : State} {n m : SecId} {v : Supervisor} {p : Pair} {a : CycleAcc} {q : Int}

/-- The last pair of a cycle that was watched from its beginning closes it (R151). -/
theorem supervisorTakes_closes (last : p.index % 80 = 79) (acc : (s.sec n).sup.acc = some a) (own : a.cycle = p.index / 80)
    (sound : a.blind = false) (awake : (s.sec n).sup.phase ≠ .idle) :
    supervisorTakes n p s = closeCycle n { cycle := p.index / 80, q := a.q + p.u * p.u, blind := false } s := by
  have cycle : nextCycle (some a) p.index p.u = { cycle := p.index / 80, q := a.q + p.u * p.u, blind := false } := by
    simp [nextCycle, last, own, ← sound]
  rw [supervisorTakes, if_neg awake, if_pos last, acc, cycle]

/-- The supervisor of a fault just confirmed, whose capture is `c` (R154). -/
def Supervisor.faultStands (v : Supervisor) (c : Capture) (now : Time) (last : Nat × Option Int) : Supervisor :=
  { v with
    acc := none, last := some last, record := v.record.confirmed c now, confirm := 0, capture := none, clear := 0
    phase := .standing, holdOff := none }

/-- The supervisor of a fault just cleared, with the peak of its record brought up (R155). -/
def Supervisor.faultEnds (v : Supervisor) (q : Int) (now : Time) (last : Nat × Option Int) : Supervisor :=
  { v with
    acc := none, last := some last, clear := 0, phase := .watch
    record := { v.record with
      status := some .cleared, clear := some now
      peak := some (match v.record.peak with | some k => max k (meanSquare q) | none => meanSquare q) } }

/-- A supervisor's judgement is set and its event raised, before its section is told (R154, R155). -/
def reported (e : EventKind) (n : SecId) (v : Supervisor) (s : State) : State := raise e (.busSection n) (s.setSup n v)

theorem closeCycle_confirms (watches : (s.sec n).sup.phase = .watch)
    (onset : ((80 * ((s.sec n).settings.tFault * (s.sec n).settings.tFault) : Nat) : Int) ≤ q)
    (reached : (s.sec n).settings.confirmCycles ≤ (s.sec n).sup.confirm + 1) (i : Nat) :
    closeCycle n { cycle := i, q := q, blind := false } s = faultConfirmed n (reported .faultOnset n
      ((s.sec n).sup.faultStands (nextCapture (s.sec n).sup.capture s.ms i q) s.ms (i, some (meanSquare q))) s) := by
  simp only [closeCycle, Bool.false_eq_true, if_false, watches]
  have judged : isOnset (s.sec n).settings q = true := decide_eq_true onset
  unfold judgeWatch
  simp only [State.setSup, State.sec_modSec, judged, if_true, reached, confirmFault, modSec_modSec, State.modSec_ms]
  rfl

theorem closeCycle_clears (stands : (s.sec n).sup.phase = .standing)
    (clear : q < ((80 * ((s.sec n).settings.tClear * (s.sec n).settings.tClear) : Nat) : Int))
    (reached : (s.sec n).settings.clearCycles ≤ (s.sec n).sup.clear + 1) (i : Nat) :
    closeCycle n { cycle := i, q := q, blind := false } s = faultCleared n (reported .faultCleared n
      ((s.sec n).sup.faultEnds q s.ms (i, some (meanSquare q))) s) := by
  simp only [closeCycle, Bool.false_eq_true, if_false, stands]
  have judged : isClear (s.sec n).settings q = true := decide_eq_true clear
  unfold judgeStanding
  simp only [State.setSup, State.sec_modSec, judged, if_true, reached, clearFault, modSec_modSec, State.modSec_ms]
  rfl

/-! The judgement, before the section is told -/

section Reported

variable (e : EventKind) (n : SecId) (v : Supervisor) (s : State)

theorem sec_reported : (reported e n v s).sec n = { s.sec n with sup := v } :=
  ((raise_frame _ _ _).sec n).trans (State.sec_modSec s n _)

theorem sec_reported_other (other : m ≠ n) : (reported e n v s).sec m = s.sec m :=
  ((raise_frame _ _ _).sec m).trans (State.sec_modSec_other s n m _ other)

theorem reported_agrees (m : SecId) : (s.sec m).agreesButSup ((reported e n v s).sec m) := by
  by_cases same : m = n
  · rw [same, sec_reported]; rfl
  · rw [sec_reported_other _ _ _ _ same]; rfl

theorem coil_reported (c : CoilId) : (reported e n v s).coil c = s.coil c :=
  (coil_raise _ _ _ c).trans (State.coil_modSec s n _ c)

theorem coupler_reported : (reported e n v s).coupler = s.coupler :=
  (raise_frame _ _ _).coupler.trans (State.modSec_coupler s n _)

theorem ms_reported : (reported e n v s).ms = s.ms := (raise_frame _ _ _).ms.trans (State.modSec_ms s n _)

theorem mem_summary_reported : e ∈ (reported e n v s).events.summary := mem_summary_raise _ _ _

theorem atWork_reported {v : Supervisor} (watched : s.supervised n = true) (awake : v.phase ≠ .idle) :
    AtWork n (reported e n v s) := by
  refine ⟨?_, by rw [sec_reported]; exact awake⟩
  rw [← watched]
  exact supervised_of_states (fun m => by rw [reported_agrees e n v s m]) n

end Reported

/-! The section is told -/

theorem faultConfirmed_enters (uses : (s.sec (s.faultTarget n)).state = .starting ∨ (s.sec (s.faultTarget n)).state = .measuring
      ∨ (s.sec (s.faultTarget n)).state = .tracking ∨ (s.sec (s.faultTarget n)).state = .recovery) :
    faultConfirmed n s = enterFault (s.faultTarget n) s := by
  unfold faultConfirmed
  rcases uses with h | h | h | h <;> simp only [h]

theorem faultConfirmed_stays (still : (s.sec (s.faultTarget n)).state = .fault
      ∨ (s.sec (s.faultTarget n)).state.active = false) : faultConfirmed n s = s := by
  unfold faultConfirmed
  dsimp only
  split <;> simp_all [SecState.active]

/-- A fault stands on the section of this supervisor: its own, or the other one in joined mode (R141). -/
def FaultStands (n : SecId) (s : State) : Prop :=
  (s.sec n).sup.phase = .standing ∨ s.joined = true ∧ ∃ m, m ≠ n ∧ (s.sec m).sup.phase = .standing

theorem faultStands_iff (n : SecId) (s : State) :
    (if s.joined then s.sec1.faultStanding || s.sec2.faultStanding else (s.sec n).faultStanding) = true ↔ FaultStands n s := by
  unfold FaultStands
  cases s.joined
  · simp [faultStanding_iff]
  · rw [if_pos rfl, Bool.or_eq_true, faultStanding_iff, faultStanding_iff]
    constructor
    · rintro (one | two)
      · by_cases same : SecId.s1 = n
        exacts [.inl (same ▸ one), .inr ⟨rfl, .s1, same, one⟩]
      · by_cases same : SecId.s2 = n
        exacts [.inl (same ▸ two), .inr ⟨rfl, .s2, same, two⟩]
    · have either (m : SecId) (stands : (s.sec m).sup.phase = .standing) :
          s.sec1.sup.phase = .standing ∨ s.sec2.sup.phase = .standing := by
        cases m
        exacts [.inl stands, .inr stands]
      rintro (own | ⟨-, m, -, other⟩)
      exacts [either n own, either m other]

theorem faultCleared_recovers (fault : (s.sec (s.faultTarget n)).state = .fault) (ends : ¬ FaultStands n s) :
    faultCleared n s = enterRecovery (s.faultTarget n) s := by
  rw [← faultStands_iff, Bool.not_eq_true] at ends
  exact if_pos ⟨fault, by rw [ends]; rfl⟩

theorem faultCleared_stays (h : (s.sec (s.faultTarget n)).state ≠ .fault ∨ FaultStands n s) : faultCleared n s = s := by
  rw [← faultStands_iff] at h
  refine if_neg ?_
  rintro ⟨fault, ends⟩
  rcases h with other | stands
  · exact other fault
  · rw [stands] at ends
    cases ends

/-! Both reports, seen from the supervisor and its section -/

theorem faultConfirmed_around (n : SecId) (s : State) : StaysAround s (faultConfirmed n s) := by
  unfold faultConfirmed
  dsimp only
  split
  case h_1 | h_2 | h_3 | h_4 => exact (StaysAround.refl s).enterFault _
  all_goals exact .refl s

theorem faultCleared_around (n : SecId) (s : State) : StaysAround s (faultCleared n s) :=
  .ite ((StaysAround.refl s).enterRecovery _) (.refl s)

theorem AtWork.sup_faultConfirmed (h : AtWork n s) (stopped : (s.sec n).sup.holdOff = none) :
    ((faultConfirmed n s).sec n).sup = (s.sec n).sup := by
  unfold faultConfirmed
  dsimp only
  split
  case h_1 | h_2 | h_3 | h_4 => exact h.sup_enterFault stopped _
  all_goals rfl

theorem AtWork.sup_faultCleared (h : AtWork n s) : (s.sec n).sup.SameFault ((faultCleared n s).sec n).sup := by
  by_cases free : (s.sec (s.faultTarget n)).state = .fault ∧ ¬ FaultStands n s
  · obtain ⟨fault, calm⟩ := free
    rw [faultCleared_recovers fault calm]
    exact h.sup_enterRecovery _
  · rw [faultCleared_stays ((not_and_or.1 free).imp_right not_not.1)]
    exact .of_eq rfl

theorem faultTarget_reported (e : EventKind) (n : SecId) (v : Supervisor) (s : State) :
    (reported e n v s).faultTarget n = s.faultTarget n := by
  rw [State.faultTarget, State.joined, coupler_reported]
  rfl

/-- What a confirmation makes of the section that the supervisor acts on (R136, R140, R141). -/
theorem confirmed_section (e : EventKind) (n : SecId) (v : Supervisor) (s : State) :
    let t := faultConfirmed n (reported e n v s)
    let k := s.faultTarget n
    ((s.sec k).state = .starting ∨ (s.sec k).state = .measuring ∨ (s.sec k).state = .tracking
        ∨ (s.sec k).state = .recovery →
      (t.sec k).state = .fault ∧ (t.sec k).entryTime = s.ms ∧ (t.sec k).engine.state = .off
        ∧ (t.sec k).sup.holdOff = none ∧ (∀ c ∈ s.drives k, (t.coil c).pendMove = none) ∧ Silenced k s t)
    ∧ ((s.sec k).state = .fault ∨ (s.sec k).state.active = false →
      (t.sec k).state = (s.sec k).state ∧ t.coil1 = s.coil1 ∧ t.coil2 = s.coil2) := by
  intro t k
  have state : ((reported e n v s).sec k).state = (s.sec k).state := by rw [reported_agrees e n v s k]
  have coupler := coupler_reported e n v s
  have target : (reported e n v s).faultTarget n = k := faultTarget_reported e n v s
  refine ⟨fun uses => ?_, fun still => ?_⟩
  · have enters : t = enterFault k (reported e n v s) :=
      (faultConfirmed_enters (by rw [target, state]; exact uses)).trans (by rw [target])
    obtain ⟨targets, silenced⟩ := enterFault_coils k (reported e n v s)
    rw [(drives_of_coupler coupler k).1] at targets
    rw [enters, sec_enterFault]
    exact ⟨rfl, ms_reported e n v s, rfl, rfl, targets,
      silenced.of_same coupler.symm (fun c => (coil_reported e n v s c).symm) fun _ => rfl⟩
  · have stays : t = reported e n v s := faultConfirmed_stays (by rw [target, state]; exact still)
    rw [stays]
    exact ⟨state, coil_reported e n v s .c1, coil_reported e n v s .c2⟩

/-- In joined mode the faults of both supervisors count; the reported one is judged by its new phase (R141). -/
theorem faultStands_reported (e : EventKind) (ends : v.phase ≠ .standing) : FaultStands n (reported e n v s) ↔
    s.joined = true ∧ ∃ m, m ≠ n ∧ (s.sec m).sup.phase = .standing := by
  have joined : (reported e n v s).joined = s.joined := by rw [State.joined, coupler_reported]; rfl
  rw [FaultStands, joined, sec_reported, or_iff_right ends]
  exact and_congr_right' (exists_congr fun m => and_congr_right fun other => by rw [sec_reported_other _ _ _ _ other])

/-- What a clearing makes of the section that the supervisor acts on (R140, R141, R156). -/
theorem cleared_section (e : EventKind) (n : SecId) (s : State) (ends : v.phase ≠ .standing) :
    let t := faultCleared n (reported e n v s)
    let k := s.faultTarget n
    ((s.sec k).state = .fault → (s.joined = false ∨ ∀ m, m ≠ n → (s.sec m).sup.phase ≠ .standing) →
      (t.sec k).entryTime = s.ms
      ∧ ((s.sec k).settings.recoveryCycles = 0 → (t.sec k).state = .starting ∧ (t.sec k).ring = Ring.cleared)
      ∧ ((s.sec k).settings.recoveryCycles ≠ 0 → (t.sec k).state = .recovery ∧ (t.sec k).sup.holdOff = some 0))
    ∧ ((s.sec k).state ≠ .fault ∨ (s.joined = true ∧ ∃ m, m ≠ n ∧ (s.sec m).sup.phase = .standing) →
      (t.sec k).state = (s.sec k).state) := by
  intro t k
  have agrees := reported_agrees e n v s k
  have state : ((reported e n v s).sec k).state = (s.sec k).state := by rw [agrees]
  have target : (reported e n v s).faultTarget n = k := faultTarget_reported e n v s
  refine ⟨fun fault alone => ?_, fun stays => ?_⟩
  · have calm : ¬ FaultStands n (reported e n v s) := by
      rw [faultStands_reported e ends]
      rintro ⟨joined, m, other, stands⟩
      rcases alone with single | alone
      · exact absurd (joined.symm.trans single) nofun
      · exact alone m other stands
    have recovers : t = enterRecovery k (reported e n v s) :=
      (faultCleared_recovers (by rw [target, state]; exact fault) calm).trans (by rw [target])
    have settings : ((reported e n v s).sec k).settings = (s.sec k).settings := by rw [agrees]
    obtain ⟨entryTime, cycles⟩ := sec_enterRecovery k (reported e n v s)
    rw [settings] at cycles
    rw [recovers]
    exact ⟨entryTime.trans (ms_reported e n v s), cycles⟩
  · have same : t = reported e n v s :=
      faultCleared_stays (by rw [target, state, faultStands_reported e ends]; exact stays)
    rw [same, state]

/-- Settles O30: the cycle that reaches its count is judged, and the section that the supervisor acts on is told. -/
theorem faultsConfirmAndClear : Obligations.FaultsConfirmAndClear := by
  intro n p s a follow last acc own sound y v q t k
  have watched (awake : v.phase ≠ .idle) : s.supervised n = true :=
    Bool.eq_true_of_not_eq_false fun idle => awake ((follow n).2 idle)
  refine ⟨fun watches onset reached => ?_, fun stands clear reached => ?_⟩
  · have awake : v.phase ≠ .idle := by rw [watches]; decide
    let w := v.faultStands (nextCapture v.capture s.ms (p.index / 80) q) s.ms (p.index / 80, some (meanSquare q))
    have told : t = faultConfirmed n (reported .faultOnset n w s) :=
      (supervisorTakes_closes last acc own sound awake).trans (closeCycle_confirms watches onset reached _)
    have sec : (reported .faultOnset n w s).sec n = { s.sec n with sup := w } := sec_reported ..
    have atWork : AtWork n (reported .faultOnset n w s) := atWork_reported _ _ _ (watched awake) nofun
    have sup : (t.sec n).sup = w := by rw [told, atWork.sup_faultConfirmed (by rw [sec]; rfl), sec]
    rw [sup]
    refine ⟨?_, rfl, rfl, rfl, rfl, rfl, ?_, ?_⟩
    · rw [told]
      exact (faultConfirmed_around n _).summary _ (mem_summary_reported ..)
    · show v.record.confirmed (nextCapture v.capture s.ms (p.index / 80) q) s.ms = _
      cases v.capture <;> rfl
    · rw [told]
      exact confirmed_section .faultOnset n w s
  · have awake : v.phase ≠ .idle := by rw [stands]; decide
    let w := v.faultEnds q s.ms (p.index / 80, some (meanSquare q))
    have told : t = faultCleared n (reported .faultCleared n w s) :=
      (supervisorTakes_closes last acc own sound awake).trans (closeCycle_clears stands clear reached _)
    have sec : (reported .faultCleared n w s).sec n = { s.sec n with sup := w } := sec_reported ..
    have atWork : AtWork n (reported .faultCleared n w s) := atWork_reported _ _ _ (watched awake) nofun
    have same : w.SameFault (t.sec n).sup := by
      have kept := atWork.sup_faultCleared
      rwa [sec, ← told] at kept
    refine ⟨?_, same.phase, same.clear rfl, same.record.trans rfl, ?_⟩
    · rw [told]
      exact (faultCleared_around n _).summary _ (mem_summary_reported ..)
    · rw [told]
      exact cleared_section .faultCleared n s nofun

end Sys2Proof.Machine

/-! ### A supervisor takes what its ring delivers (R151 to R153, R155, R156) -/

namespace Sys2Proof.Machine

variable {s : State} {n : SecId} {v : Supervisor} {p : Pair} {a : CycleAcc} {m : Nat} {q : Int}

theorem setSup_setSup (n : SecId) (v w : Supervisor) (s : State) : (s.setSup n v).setSup n w = s.setSup n w :=
  modSec_modSec s n _ _

theorem ms_setSup (n : SecId) (v : Supervisor) (s : State) : (s.setSup n v).ms = s.ms := State.modSec_ms s n _

/-! The cycle under way (R151, R152) -/

theorem cycle_nextCycle (acc : Option CycleAcc) (i : Nat) (u : Int) : (nextCycle acc i u).cycle = i / 80 := by
  unfold nextCycle
  split
  · rfl
  · split
    · split
      exacts [‹_›, rfl]
    · rfl

theorem supervisorTakes_idle (idle : (s.sec n).sup.phase = .idle) : supervisorTakes n p s = s := if_pos idle

theorem supervisorTakes_within (awake : (s.sec n).sup.phase ≠ .idle) (within : p.index % 80 ≠ 79) :
    supervisorTakes n p s = s.setSup n { (s.sec n).sup with acc := some (nextCycle (s.sec n).sup.acc p.index p.u) } :=
  (if_neg awake).trans (if_neg within)

theorem supervisorTakes_last (awake : (s.sec n).sup.phase ≠ .idle) (last : p.index % 80 = 79) :
    supervisorTakes n p s = closeCycle n (nextCycle (s.sec n).sup.acc p.index p.u) s :=
  (if_neg awake).trans (if_pos last)

/-! The cycle that closes (R152, R153, R155, R156) -/

/-- The supervisor whose cycle has closed with a mean square, before the cycle is judged (R151). -/
def Supervisor.closeSound (v : Supervisor) (a : CycleAcc) : Supervisor :=
  { v with acc := none, last := some (a.cycle, some (meanSquare a.q)) }

/-- The peak of a fault record after one more judged cycle (R155). -/
def FaultRec.raisePeak (r : FaultRec) (q : Int) : FaultRec :=
  { r with peak := some (match r.peak with | some k => max k (meanSquare q) | none => meanSquare q) }

theorem closeCycle_blind (blind : a.blind = true) :
    closeCycle n a s = s.setSup n (Supervisor.closeBlind { (s.sec n).sup with acc := none } a.cycle) := if_pos blind

theorem closeCycle_watch (watches : (s.sec n).sup.phase = .watch) (sound : a.blind = false) :
    closeCycle n a s = judgeWatch n a.cycle a.q (s.setSup n ((s.sec n).sup.closeSound a)) := by
  simp only [closeCycle, sound, Bool.false_eq_true, if_false, Supervisor.closeSound, watches]

theorem closeCycle_standing (stands : (s.sec n).sup.phase = .standing) (sound : a.blind = false) :
    closeCycle n a s = judgeStanding n a.q (s.setSup n ((s.sec n).sup.closeSound a)) := by
  simp only [closeCycle, sound, Bool.false_eq_true, if_false, Supervisor.closeSound, stands]

theorem judgeWatch_breaks (calm : isOnset (s.sec n).settings q = false) :
    judgeWatch n m q (s.setSup n v)
      = s.setSup n ({ v with confirm := 0, capture := none }.countHoldOff (s.sec n).settings) := by
  simp only [judgeWatch, State.sec_setSup, calm, Bool.false_eq_true, if_false, setSup_setSup]

theorem judgeWatch_counts (onset : isOnset (s.sec n).settings q = true)
    (short : v.confirm + 1 < (s.sec n).settings.confirmCycles) :
    judgeWatch n m q (s.setSup n v) = s.setSup n
      ({ v with confirm := v.confirm + 1, capture := some (nextCapture v.capture s.ms m q) }.countHoldOff
        (s.sec n).settings) := by
  simp only [judgeWatch, State.sec_setSup, onset, if_true, if_neg short.not_ge, setSup_setSup, ms_setSup]

theorem judgeStanding_restarts (high : isClear (s.sec n).settings q = false) :
    judgeStanding n q (s.setSup n v) = s.setSup n { v with clear := 0, record := v.record.raisePeak q } := by
  simp only [judgeStanding, State.sec_setSup, high, Bool.false_eq_true, if_false, setSup_setSup]
  rfl

theorem judgeStanding_counts (low : isClear (s.sec n).settings q = true)
    (short : v.clear + 1 < (s.sec n).settings.clearCycles) :
    judgeStanding n q (s.setSup n v)
      = s.setSup n { v with clear := v.clear + 1, record := v.record.raisePeak q } := by
  simp only [judgeStanding, State.sec_setSup, low, if_true, if_neg short.not_ge, setSup_setSup]
  rfl

/-! The gap notice (R152) -/

theorem satInc_satAdd (b k : Nat) : satInc (satAdd b k) = satAdd b (k + 1) := by
  simp only [satInc, satAdd]; omega

/-- Cycles that close blind in a row: each of them counts, and the last one shows as last cycle result. -/
theorem foldl_closeBlind (v : Supervisor) (m k : Nat) :
    (List.range (k + 1)).foldl (fun v i => v.closeBlind (m + i)) v
      = { v with blind := satAdd v.blind (k + 1), last := some (m + k, none) } := by
  induction k with
  | zero => rfl
  | succ k ih =>
    rw [List.range_succ, List.foldl_append, ih]
    simp only [List.foldl_cons, List.foldl_nil, Supervisor.closeBlind, satInc_satAdd]

theorem takeGap_awake (awake : v.phase ≠ .idle) (first count : Nat) :
    v.takeGap first count = { (List.range ((first + count) / 80 - first / 80)).foldl
        (fun v i => v.closeBlind (first / 80 + i)) v with
      acc := if (first + count) % 80 = 0 then none else some { cycle := (first + count) / 80, q := 0, blind := true } } := by
  unfold Supervisor.takeGap
  split
  · exact absurd ‹_› awake
  · rfl
  · rfl

/-- What a gap notice makes of a supervisor in WATCH or STANDING, by the cycles whose last index it skips. -/
theorem takeGap_eq (awake : v.phase ≠ .idle) (first count : Nat) :
    v.takeGap first count = { v with
      acc := if (first + count) % 80 = 0 then none else some { cycle := (first + count) / 80, q := 0, blind := true }
      blind := if (first + count) / 80 = first / 80 then v.blind
        else satAdd v.blind ((first + count) / 80 - first / 80)
      last := if (first + count) / 80 = first / 80 then v.last else some ((first + count) / 80 - 1, none) } := by
  rw [takeGap_awake awake]
  by_cases same : (first + count) / 80 = first / 80
  · simp only [same, Nat.sub_self, List.range_zero, List.foldl_nil, if_true]
  · obtain ⟨k, reach⟩ : ∃ k, (first + count) / 80 = first / 80 + (k + 1) :=
      Nat.exists_eq_add_of_lt (by omega)
    have closes : (first + count) / 80 - first / 80 = k + 1 := by omega
    have before : (first + count) / 80 - 1 = first / 80 + k := by omega
    rw [if_neg same, if_neg same, closes, foldl_closeBlind, before]

theorem sup_deliver_gap (n : SecId) (first count : Nat) (s : State) :
    ((deliver n [.gap first count] s).sec n).sup = (s.sec n).sup.takeGap first count := by
  rw [deliver_single]
  show (((engineTakesGap n s).modSec n fun x => { x with sup := x.sup.takeGap first count }).sec n).sup = _
  rw [State.sec_modSec, engineTakesGap, discardWindow, State.sec_modSec]

/-- Settles O29: the pair is taken into its cycle, the cycle that closes is judged by the phase, and a gap notice closes the
cycles it skips blind. -/
theorem supervisorTakesPairs : Obligations.SupervisorTakesPairs := by
  intro n p s y v t m a onset clear peak closed counted
  have own : a.cycle = m := cycle_nextCycle v.acc p.index p.u
  have closes (awake : v.phase ≠ .idle) (last : p.index % 80 = 79) : t = closeCycle n a s :=
    supervisorTakes_last awake last
  have sound : v.closeSound a = closed := by rw [Supervisor.closeSound, own]; rfl
  refine ⟨supervisorTakes_idle, supervisorTakes_within, fun awake last blind => ?_, fun watches last full => ?_,
    fun stands last full => ?_, fun first count => ⟨fun idle => ?_, fun awake => ?_⟩⟩
  · rw [closes awake last, closeCycle_blind blind, own]
    rfl
  · have judged : t = judgeWatch n a.cycle a.q (s.setSup n closed) := by
      rw [closes (by rw [watches]; decide) last, closeCycle_watch watches full, sound]
    refine ⟨fun calm => judged.trans (judgeWatch_breaks (decide_eq_false calm)), fun reached short => ?_⟩
    rw [judged, judgeWatch_counts (v := closed) (decide_eq_true reached) short, own]
    rfl
  · have judged : t = judgeStanding n a.q (s.setSup n closed) := by
      rw [closes (by rw [stands]; decide) last, closeCycle_standing stands full, sound]
    exact ⟨fun high => judged.trans (judgeStanding_restarts (decide_eq_false high)),
      fun low short => judged.trans (judgeStanding_counts (decide_eq_true low) short)⟩
  · exact (sup_deliver_gap n first count s).trans (by rw [Supervisor.takeGap, idle])
  · exact (sup_deliver_gap n first count s).trans (takeGap_eq awake first count)

end Sys2Proof.Machine

/-! ### Events raised (R162, R164, R165, R166) -/

namespace Sys2Proof.Machine

variable {u : EventUnit} {e : Source} {k : EventKind} {s : State}

/-- The kinds that the table of R161 calls halting. -/
theorem halting_iff (k : EventKind) : k.halting = true ↔
    k ∈ [EventKind.driveLost, .driveSilent, .driveFaulted, .endStop, .moveOvertime, .injectFailed, .measureLost,
      .voltageLost] := by
  cases k <;> decide

theorem stacks_iff (u : EventUnit) (k : EventKind) : u.stacks k = true ↔ k.halting = true ∨ u.enabled k = true :=
  Bool.or_eq_true_iff

theorem mem_addKind_iff {j : EventKind} {ks : List EventKind} : j ∈ addKind k ks ↔ j = k ∨ j ∈ ks := by
  constructor
  · intro h
    obtain ⟨-, added⟩ := List.mem_filter.1 h
    simpa using added
  · rintro (rfl | old)
    exacts [mem_addKind j ks, mem_addKind_of_mem old]

namespace EventUnit

/-- A masked notice reaches the summary alone (R162). -/
theorem file_masked (h : u.stacks e.kind = false) : u.file e = { u with summary := addKind e.kind u.summary } :=
  if_neg (Bool.eq_false_iff.1 h)

/-- An event that finds level 1 empty fills it, with its enable as alarm mark, and ALARM follows (R164, R165). -/
theorem file_first (h : u.stacks e.kind = true) (empty : u.level1 = none) :
    u.file e = { u with
      summary := addKind e.kind u.summary
      level1 := some ({ kinds := [e.kind], first := e, latest := e }, u.enabled e.kind)
      alarm := if u.enabled e.kind then .asserted else .deasserted } := by
  obtain ⟨enables, summary, level1, level2, alarm⟩ := u
  cases empty
  exact if_pos h

/-- Behind an occupied level 1 an event fills an empty level 2 (R164). -/
theorem file_second (h : u.stacks e.kind = true) (held : u.level1.isSome = true) (empty : u.level2 = none) :
    u.file e = { u with
      summary := addKind e.kind u.summary
      level2 := some { kinds := [e.kind], first := e, latest := e } } := by
  obtain ⟨enables, summary, _ | level1, level2, alarm⟩ := u
  · cases held
  · cases empty
    exact if_pos h

/-- Behind two occupied levels an event joins the kinds of level 2 and is its latest source (R164). -/
theorem file_joins (h : u.stacks e.kind = true) (held : u.level1.isSome = true) {r : Report} (occupied : u.level2 = some r) :
    u.file e = { u with
      summary := addKind e.kind u.summary
      level2 := some { r with kinds := addKind e.kind r.kinds, latest := e } } := by
  obtain ⟨enables, summary, _ | level1, level2, alarm⟩ := u
  · cases held
  · cases occupied
    exact if_pos h

/-- Behind an occupied level 1 an event leaves level 1 and ALARM (R164, R165). -/
theorem file_behind (e : Source) (held : u.level1.isSome = true) :
    (u.file e).level1 = u.level1 ∧ (u.file e).alarm = u.alarm := by
  cases hs : u.stacks e.kind with
  | false => rw [file_masked hs]; exact ⟨rfl, rfl⟩
  | true =>
    cases h2 : u.level2 with
    | none => rw [file_second hs held h2]; exact ⟨rfl, rfl⟩
    | some r => rw [file_joins hs held h2]; exact ⟨rfl, rfl⟩

end EventUnit

/-- An event that makes level 1 occupied is filed, and its notice is offered to both ports (R166). -/
theorem raise_of_opens (h : s.events.opens k = true) (o : Obj) :
    raise k o s = offerNotice { kind := k, obj := o, time := s.ms } .b
      (offerNotice { kind := k, obj := o, time := s.ms } .a (fileEvent { kind := k, obj := o, time := s.ms } s)) := by
  simp only [raise, h, if_true]

theorem not_opens_of_masked (h : u.stacks k = false) : u.opens k = false := by rw [EventUnit.opens, h, Bool.and_false]

theorem not_opens_of_held (h : u.level1.isSome = true) : u.opens k = false := by
  rw [EventUnit.opens, Option.isNone_eq_false_iff.2 h, Bool.false_and]

theorem opens_of_empty (h : u.stacks k = true) (empty : u.level1 = none) : u.opens k = true := by
  rw [EventUnit.opens, h, empty]; rfl

/-- Settles O33: the event is filed, by its class and enable and the levels it finds, and its notice is offered where that
fills level 1. -/
theorem raisedEventsAreFiled : Obligations.RaisedEventsAreFiled := by
  intro k o s _ e x halting
  have reaches : x.stacks k = true ↔ halting ∨ x.enabled k = true := (stacks_iff x k).trans (or_congr_left (halting_iff k))
  refine ⟨fileEvent e s, rfl, x.file_enables e, fun j => ?_, fun notice masked => ?_, fun files =>
    ⟨fun empty => ?_, fun held => ?_⟩⟩
  · rw [summary_fileEvent]
    exact mem_addKind_iff
  · have drops : x.stacks k = false := Bool.eq_false_iff.2 fun h =>
      (reaches.1 h).elim notice fun on => Bool.false_ne_true (masked.symm.trans on)
    refine ⟨raise_of_not_opens (not_opens_of_masked drops) o, ?_⟩
    rw [fileEvent, EventUnit.file_masked drops]
    exact ⟨rfl, rfl, rfl⟩
  · have first := EventUnit.file_first (e := e) (reaches.2 files) empty
    refine ⟨raise_of_opens (opens_of_empty (reaches.2 files) empty) o, ?_⟩
    rw [fileEvent, first]
    exact ⟨rfl, rfl, rfl⟩
  · obtain ⟨level1, alarm⟩ := EventUnit.file_behind e held
    refine ⟨raise_of_not_opens (not_opens_of_held held) o, level1, alarm, fun empty => ?_, fun r level2 => ?_⟩
    · rw [fileEvent, EventUnit.file_second (e := e) (reaches.2 files) held empty]
    · rw [fileEvent, EventUnit.file_joins (e := e) (reaches.2 files) held level2]
      exact ⟨_, rfl, fun j => mem_addKind_iff⟩

end Sys2Proof.Machine

/-! ### Raised events alone change the event unit: sections, coils and coupler (R162 to R165)

Once for every claim about summary, levels and ALARM: whatever a part in action does short of a request that reads or resets
the event unit, and of the end of an ALARM pulse, it files events in it one after another. -/

namespace Sys2Proof.Machine

variable {s t u : State}

/-- From `s` to `t` the event unit has filed events, one after another, and nothing else. -/
def EventsFiled (s t : State) : Prop := ∃ es : List Source, t.events = es.foldl EventUnit.file s.events

namespace EventsFiled

theorem refl (s : State) : EventsFiled s s := ⟨[], rfl⟩

/-- A change beyond the event unit. -/
theorem keep (h : EventsFiled s t) (same : u.events = t.events) : EventsFiled s u := by
  obtain ⟨es, filed⟩ := h
  exact ⟨es, same.trans filed⟩

theorem file (h : EventsFiled s t) (e : Source) : EventsFiled s (fileEvent e t) := by
  obtain ⟨es, filed⟩ := h
  refine ⟨es ++ [e], ?_⟩
  rw [List.foldl_append, ← filed]
  rfl

theorem drive (h : EventsFiled s t) (frame : DriveFrame t u) : EventsFiled s u := h.keep frame.events

theorem modPort (h : EventsFiled s t) (p : Port) (f : PortState → PortState) : EventsFiled s (t.modPort p f) :=
  h.keep (State.modPort_events t p f)

theorem modSec (h : EventsFiled s t) (n : SecId) (f : Section → Section) : EventsFiled s (t.modSec n f) :=
  h.keep (State.modSec_events t n f)

theorem modCoil (h : EventsFiled s t) (c : CoilId) (f : Coil → Coil) : EventsFiled s (t.modCoil c f) :=
  h.keep (State.modCoil_events t c f)

theorem withSecs (h : EventsFiled s t) (x y : Section) : EventsFiled s { t with sec1 := x, sec2 := y } := h.keep rfl

theorem withCoupler (h : EventsFiled s t) (x : Coupler) : EventsFiled s { t with coupler := x } := h.keep rfl

theorem withRet2 (h : EventsFiled s t) (x : ReturnState) : EventsFiled s { t with ret2 := x } := h.keep rfl

theorem withTimeout (h : EventsFiled s t) (x : Nat) : EventsFiled s { t with couplerTimeout := x } := h.keep rfl

theorem ite {b : Prop} [Decidable b] (h : EventsFiled s t) (h' : EventsFiled s u) : EventsFiled s (if b then t else u) := by
  split
  exacts [h, h']

/-- An offered notice may find its queue full, which files ORIGIN_DROP (R7). -/
theorem notice (h : EventsFiled s t) (e : Source) (p : Port) : EventsFiled s (offerNotice e p t) :=
  .ite (h.modPort p _) (.ite (h.modPort p _) ((h.modPort p _).file _))

theorem raise (h : EventsFiled s t) (k : EventKind) (o : Obj) : EventsFiled s (raise k o t) :=
  .ite (((h.file _).notice _ .a).notice _ .b) (h.file _)

theorem response (h : EventsFiled s t) (r : Response) (p : Port) : EventsFiled s (offerResponse r p t) :=
  .ite (h.modPort p _) (.ite (h.modPort p _) ((h.modPort p _).raise _ _))

theorem setSectionState (h : EventsFiled s t) (n : SecId) (st : SecState) : EventsFiled s (setSectionState n st t) :=
  h.keep (events_setSectionState n st t)

end EventsFiled

/-! Section states, faults and coils (R125, R133 to R141, R147, R156) -/

theorem enterStarting_filed (h : EventsFiled s t) (n : SecId) : EventsFiled s (enterStarting n t) :=
  ((h.setSectionState n .starting).modSec n _).drive (requestInjector_frame _ _ _)

theorem enterFault_filed (h : EventsFiled s t) (n : SecId) : EventsFiled s (enterFault n t) :=
  (((h.modSec n _).setSectionState n .fault).modSec n _).drive (stopAndSilence_acts n _).frame

theorem enterHalted_filed (h : EventsFiled s t) (n : SecId) (cause : HaltCause) : EventsFiled s (enterHalted n cause t) := by
  have rests : EventsFiled s (stopAndSilence n (haltedSections n cause t)) :=
    (h.keep (events_haltedSections n cause t)).drive (stopAndSilence_acts n _).frame
  exact .ite (rests.raise _ _) rests

theorem recordJoinedHalt_filed (h : EventsFiled s t) (cause : HaltCause) : EventsFiled s (recordJoinedHalt cause t) :=
  h.keep rfl

theorem haltSection_filed (h : EventsFiled s t) (n : SecId) (cause : HaltCause) : EventsFiled s (haltSection n cause t) := by
  unfold haltSection
  split
  case h_8 => exact recordJoinedHalt_filed h cause
  case h_6 | h_7 => exact h
  all_goals exact enterHalted_filed h n cause

theorem disableSection_filed (h : EventsFiled s t) (n : SecId) : EventsFiled s (disableSection n t) := by
  have silent (cs : List CoilId) := (((h.modSec n fun x => { x with engine := x.engine.turnOff .state }).setSectionState n
    .disabled).drive (clearTargets_frame cs _)).drive (requestInjector_frame n .off _)
  unfold disableSection
  split
  · exact h
  · exact h.withRet2 _
  all_goals exact .ite ((silent _).raise _ _) (silent _)

theorem failCoil_filed (h : EventsFiled s t) (c : CoilId) (k : EventKind) : EventsFiled s (failCoil c k t) := by
  have failed : EventsFiled s (failedAlone c k t) := (h.raise k _).drive (failedAlone_frame c k t)
  have halted := haltSection_filed failed (t.driver c) { kind := k, obj := .coil c, time := t.ms }
  rcases failCoil_cases c k t with e | ⟨-, e⟩ <;> rw [e]
  · exact halted
  · exact recordJoinedHalt_filed halted _

theorem faultConfirmed_filed (h : EventsFiled s t) (m : SecId) : EventsFiled s (faultConfirmed m t) := by
  unfold faultConfirmed
  dsimp only
  split
  case h_1 | h_2 | h_3 | h_4 => exact enterFault_filed h _
  all_goals exact h

theorem enterRecovery_filed (h : EventsFiled s t) (n : SecId) : EventsFiled s (enterRecovery n t) := by
  have entered : EventsFiled s (setHoldOff n (some 0) (setSectionState n .recovery t)) :=
    (h.setSectionState n .recovery).modSec n _
  exact .ite (enterStarting_filed entered n) entered

theorem faultCleared_filed (h : EventsFiled s t) (m : SecId) : EventsFiled s (faultCleared m t) :=
  .ite (enterRecovery_filed h _) h

theorem injectionConfirmed_filed (h : EventsFiled s t) (n : SecId) : EventsFiled s (injectionConfirmed n t) :=
  .ite ((h.setSectionState n .measuring).modSec n _) h

theorem injectionLost_filed (h : EventsFiled s t) (n : SecId) : EventsFiled s (injectionLost n t) :=
  .ite (enterStarting_filed ((h.raise _ _).drive (clearTargets_frame _ _)) n) h

theorem setInhibit_filed (h : EventsFiled s t) (n : SecId) (x : Inhibit) : EventsFiled s (setInhibit n x t) :=
  .ite ((h.modSec n _).drive (clearTargets_frame _ _)) (h.modSec n _)

theorem voltageLost_filed (h : EventsFiled s t) (n : SecId) : EventsFiled s (voltageLost n t) :=
  .ite h (haltSection_filed (h.raise _ _) _ _)

/-! The coupler (R142 to R146) -/

theorem clearIf_filed {b : Bool} (h : EventsFiled s t) (cs : List CoilId) :
    EventsFiled s (if b then clearTargets cs t else t) := .ite (h.drive (clearTargets_frame cs t)) h

theorem becomeUnsure_filed (h : EventsFiled s t) : EventsFiled s (becomeUnsure t) :=
  clearIf_filed (clearIf_filed ((((h.withSecs _ _).raise _ _).modSec .s1 _).modSec .s2 _) _) _

theorem setUnsure_filed (h : EventsFiled s t) (x : Unsure) : EventsFiled s (setUnsure x t) :=
  .ite (becomeUnsure_filed (h.withCoupler _)) (.ite ((h.withCoupler _).withSecs _ _) (h.withCoupler _))

theorem reportAvailability_filed (h : EventsFiled s t) (a : Bool) : EventsFiled s (reportAvailability a t) :=
  setUnsure_filed (h.withCoupler _) _

theorem couplerChangeSec1_filed (h : EventsFiled s t) (cs : List CoilId) : EventsFiled s (couplerChangeSec1 cs t) := by
  have changed : EventsFiled s (resetEstimate .s1 (discardWindow .s1 .coupler t)) := (h.modSec .s1 _).modSec .s1 _
  exact .ite ((changed.setSectionState .s1 .measuring).drive (clearTargets_frame _ _)) changed

theorem joinSection2_filed (h : EventsFiled s t) : EventsFiled s (joinSection2 t) := by
  have joined : EventsFiled s (setHoldOff .s2 none (setSectionState .s2 .joined (turnEngineOff .s2 .coupler
      { t with ret2 := returnFor t.sec2.state }))) :=
    (((h.withRet2 _).modSec .s2 _).setSectionState .s2 .joined).modSec .s2 _
  have cleared : EventsFiled s (clearTarget .c2 _) := joined.modCoil .c2 _
  exact ((EventsFiled.ite joined cleared).drive (requestInjection_frame .c2 .off _)).modSec .s2 _

theorem couplerCloses_filed (h : EventsFiled s t) : EventsFiled s (couplerCloses t) := by
  have held : EventsFiled s (setHeld .closed (raise .couplerChange (.busSection .s1) t)) := (h.raise _ _).withCoupler _
  have closed := couplerChangeSec1_filed (joinSection2_filed held) [.c1]
  exact (EventsFiled.ite (closed.raise _ _) (.ite (enterFault_filed closed _) closed)).withSecs _ _

theorem leaveJoined_filed (h : EventsFiled s t) : EventsFiled s (leaveJoined t) := by
  unfold leaveJoined
  refine EventsFiled.withRet2 ?_ _
  split
  · exact .ite (h.setSectionState _ _) (enterStarting_filed h _)
  · exact h.setSectionState _ _
  · exact h.setSectionState _ _

theorem couplerOpens_filed (h : EventsFiled s t) : EventsFiled s (couplerOpens t) := by
  have changed := couplerChangeSec1_filed (h.raise .couplerChange (.busSection .s1)) [.c1, .c2]
  exact (leaveJoined_filed ((EventsFiled.ite (enterRecovery_filed changed .s1) changed).withCoupler _)).withSecs _ _

theorem couplerValue_filed (h : EventsFiled s t) (v : CouplerValue) : EventsFiled s (couplerValue v t) := by
  unfold couplerValue
  refine setUnsure_filed ?_ _
  split
  · exact couplerCloses_filed (h.withCoupler _)
  · exact couplerOpens_filed (h.withCoupler _)
  · exact h.withCoupler _

end Sys2Proof.Machine

/-! ### Raised events alone change the event unit: windows, supervision, status records, streams and receptions -/

namespace Sys2Proof.Machine

variable {s t u : State}

/-! Windows and decisions (R61, R72 to R83, R95 to R105) -/

theorem takeDecision_filed (h : EventsFiled s t) (n : SecId) (g : Trigger) (e : Int) :
    EventsFiled s (takeDecision n g e t) := by
  have decided (x : Decision) : EventsFiled s (t.modSec n fun y => { y with decision := some x }) := h.modSec n _
  exact .ite (decided _) (EventsFiled.drive (EventsFiled.drive (.ite ((decided _).raise _ _) (decided _))
    (handOn_frame .c1 _ _ _)) (handOn_frame .c2 _ _ _))

theorem targetTakes_filed (h : EventsFiled s t) (n : SecId) (k : UpdateKind) (e : Int) :
    EventsFiled s (targetTakes n k e t) := by
  have counted (x : Nat) : EventsFiled s (t.modSec n fun y => { y with counter := x }) := h.modSec n _
  cases k with
  | first => exact takeDecision_filed (counted _) _ _ _
  | step => exact takeDecision_filed (counted _) _ _ _
  | filtered => exact .ite (takeDecision_filed (counted _) _ _ _) (counted _)

theorem rejectWindow_filed (h : EventsFiled s t) (n : SecId) (w : Window) (f : Phasors) (why : RejectReason) :
    EventsFiled s (rejectWindow n w f why t) := by
  have rejected : EventsFiled s (windowRejected n w f why t) := ((h.modSec n _).raise _ _).modSec n _
  rw [rejectWindow_eq]
  exact .ite (haltSection_filed (rejected.raise _ _) n _) rejected

theorem acceptWindow_filed (h : EventsFiled s t) (n : SecId) (w : Window) (f : Phasors) (x : Int) :
    EventsFiled s (acceptWindow n w f x t) := by
  have noted : EventsFiled s (t.modSec n fun z => { z with
    estimate := z.estimate.accept (t.sec n).settings t.ms (reY f) x }) := h.modSec n _
  have taken : EventsFiled s (windowTaken n w f x t) := (EventsFiled.ite (noted.raise _ _) noted).modSec n _
  rw [acceptWindow_eq]
  exact targetTakes_filed (taken.keep (events_windowAccepted n w f x t)) n _ _

theorem estimateWindow_filed (h : EventsFiled s t) (n : SecId) (w : Window) (f : Phasors) :
    EventsFiled s (estimateWindow n w f t) := by
  have measured (bL : Option Int) : EventsFiled s (windowMeasured n f bL t) := h.modSec n _
  cases hb : windowSusceptance w t with
  | none => rw [estimateWindow_none hb]; exact rejectWindow_filed (measured none) n w f _
  | some b =>
    have raw (x : Int) : EventsFiled s (windowRaw n f b x t) := (measured (some b)).modSec n _
    rw [estimateWindow_some hb]
    exact .ite (acceptWindow_filed (raw _) n w f _) (rejectWindow_filed (raw _) n w f _)

theorem completeWindow_filed (h : EventsFiled s t) (n : SecId) (w : Window) : EventsFiled s (completeWindow n w t) := by
  have ended (f : Phasors) : EventsFiled s (windowEnded n f t) := h.modSec n _
  rw [completeWindow_eq]
  dsimp only
  split
  · exact rejectWindow_filed (ended _) n w _ _
  · exact estimateWindow_filed (ended _) n w _

theorem setEngine_filed (h : EventsFiled s t) (n : SecId) (g : Engine) : EventsFiled s (t.setEngine n g) := h.modSec n _

theorem engineTakes_filed (h : EventsFiled s t) (n : SecId) (p : Pair) : EventsFiled s (engineTakes n p t) := by
  unfold engineTakes
  dsimp only
  split
  · exact h
  · exact .ite (setEngine_filed h n _) (.ite (.ite (setEngine_filed h n _) (setEngine_filed h n _)) h)
  · exact .ite (completeWindow_filed h n _) (setEngine_filed h n _)

/-! Supervision and deliveries (R39, R151 to R157) -/

theorem setSup_filed (h : EventsFiled s t) (n : SecId) (v : Supervisor) : EventsFiled s (t.setSup n v) := h.modSec n _

theorem confirmFault_filed (h : EventsFiled s t) (n : SecId) (x : Capture) : EventsFiled s (confirmFault n x t) :=
  faultConfirmed_filed ((h.modSec n _).raise _ _) n

theorem judgeWatch_filed (h : EventsFiled s t) (n : SecId) (m : Nat) (q : Int) : EventsFiled s (judgeWatch n m q t) :=
  .ite (.ite (confirmFault_filed h n _) (setSup_filed h n _)) (setSup_filed h n _)

theorem clearFault_filed (h : EventsFiled s t) (n : SecId) : EventsFiled s (clearFault n t) :=
  faultCleared_filed ((h.modSec n _).raise _ _) n

theorem judgeStanding_filed (h : EventsFiled s t) (n : SecId) (q : Int) : EventsFiled s (judgeStanding n q t) :=
  .ite (.ite (clearFault_filed (setSup_filed h n _) n) (setSup_filed h n _)) (setSup_filed h n _)

theorem closeCycle_filed (h : EventsFiled s t) (n : SecId) (a : CycleAcc) : EventsFiled s (closeCycle n a t) := by
  unfold closeCycle
  refine .ite (setSup_filed h n _) ?_
  dsimp only
  split
  · exact judgeWatch_filed (setSup_filed h n _) n _ _
  · exact judgeStanding_filed (setSup_filed h n _) n _
  · exact setSup_filed h n _

theorem supervisorTakes_filed (h : EventsFiled s t) (n : SecId) (p : Pair) : EventsFiled s (supervisorTakes n p t) :=
  .ite h (.ite (closeCycle_filed h n _) (setSup_filed h n _))

theorem discardWindow_filed (h : EventsFiled s t) (n : SecId) (cause : DiscardCause) :
    EventsFiled s (discardWindow n cause t) := h.modSec n _

theorem handOver_filed (h : EventsFiled s t) (n : SecId) (d : Delivery) : EventsFiled s (handOver n d t) := by
  cases d with
  | pair p => exact supervisorTakes_filed (engineTakes_filed h n p) n p
  | gap first count => exact EventsFiled.modSec (t := engineTakesGap n t) (discardWindow_filed h n .gap) n _

theorem deliver_filed (h : EventsFiled s t) (n : SecId) (ds : List Delivery) : EventsFiled s (deliver n ds t) := by
  induction ds generalizing t with
  | nil => exact h
  | cons d ds ih => exact .ite (handOver_filed h n d) (ih (handOver_filed h n d))

/-! Status records and expiries (R115 to R125, R142, R156) -/

theorem engineSeesStatus_filed (h : EventsFiled s t) (n : SecId) (c : CoilId) (r : StatusRecord) :
    EventsFiled s (engineSeesStatus n c r t) := by
  unfold engineSeesStatus
  split
  · exact h
  · exact .ite (discardWindow_filed h n _) (.ite (discardWindow_filed h n _) h)

theorem moveStopped_filed (h : EventsFiled s t) (c : CoilId) : EventsFiled s (moveStopped c t) :=
  discardWindow_filed ((h.modCoil c _).modSec _ _) _ .motion

theorem moveDone_filed (h : EventsFiled s t) (c : CoilId) : EventsFiled s (moveDone c t) :=
  ((h.modCoil c _).raise _ _).modSec _ _

theorem acceptKind_filed (h : EventsFiled s t) (c : CoilId) (k : RecordKind) : EventsFiled s (acceptKind c k t) := by
  unfold acceptKind
  split
  case h_2 => exact .ite (moveStopped_filed h c) h
  all_goals exact h.modCoil c _

theorem testAcceptance_filed (h : EventsFiled s t) (c : CoilId) (e : Bool) : EventsFiled s (testAcceptance c e t) := by
  unfold testAcceptance
  split
  · exact h
  · exact .ite (acceptKind_filed (h.modCoil c _) c _) h

theorem testFailure_filed (h : EventsFiled s t) (c : CoilId) (r : StatusRecord) : EventsFiled s (testFailure c r t) := by
  rcases testFailure_cases c r t with e | ⟨k, e⟩ <;> rw [e]
  exacts [h, failCoil_filed h c k]

theorem testArrival_filed (h : EventsFiled s t) (c : CoilId) (r : StatusRecord) : EventsFiled s (testArrival c r t) := by
  unfold testArrival
  split
  · exact h
  · exact .ite (moveDone_filed (h.modCoil c _) c) (h.modCoil c _)

theorem testConfirmed_filed (h : EventsFiled s t) (c : CoilId) (r : StatusRecord) : EventsFiled s (testConfirmed c r t) := by
  unfold testConfirmed
  split
  · exact .ite (injectionConfirmed_filed (h.modCoil c _) _) h
  · exact h

theorem testLost_filed (h : EventsFiled s t) (c : CoilId) (r : StatusRecord) : EventsFiled s (testLost c r t) := by
  unfold testLost
  split
  · exact .ite h (injectionLost_filed (h.modCoil c _) _)
  · exact h
  · exact h

theorem finishStatus_filed (h : EventsFiled s t) (c : CoilId) (r : StatusRecord) : EventsFiled s (finishStatus c r t) :=
  .ite h ((testLost_filed (testConfirmed_filed (testArrival_filed h c r) c r) c r).drive (takePending_frame c _))

theorem treatStatus_filed (h : EventsFiled s t) (c : CoilId) (r : StatusRecord) : EventsFiled s (treatStatus c r t) := by
  have reported : EventsFiled s (t.modCoil c fun k => k.report r t.ms) := h.modCoil c _
  have seen := engineSeesStatus_filed (engineSeesStatus_filed reported .s1 c r) .s2 c r
  exact .ite reported (finishStatus_filed (testFailure_filed (testAcceptance_filed seen c _) c r) c r)

theorem acceptanceExpires_filed (h : EventsFiled s t) (c : CoilId) : EventsFiled s (acceptanceExpires c t) := by
  unfold acceptanceExpires
  split
  · exact .ite (failCoil_filed h c _)
      (.ite ((h.modCoil c _).drive (offerRecord_frame _ _ _ _)) (h.drive (withdraw_frame c t)))
  · exact h

theorem staleExpires_filed (h : EventsFiled s t) : EventsFiled s (staleExpires t) :=
  .ite (setUnsure_filed (h.withCoupler _) _) h

theorem holdOffRunsOut_filed (h : EventsFiled s t) (n : SecId) : EventsFiled s (holdOffRunsOut n t) :=
  .ite (enterStarting_filed (h.modSec n _) n) h

theorem failCoilIf_filed {b : Prop} [Decidable b] (h : EventsFiled s t) (c : CoilId) (k : EventKind) :
    EventsFiled s (if b then failCoil c k t else t) := .ite (failCoil_filed h c k) h

/-! Streams (R24 to R31, R37) -/

theorem slotStateChanged_filed (h : EventsFiled s t) (i : Fin 24) (b : SlotBody) (was now : SlotState) :
    EventsFiled s (slotStateChanged i b was now t) := by
  have lost {v : State} (h : EventsFiled s v) (x : Bool) (n : SecId) : EventsFiled s (if x then voltageLost n v else v) :=
    .ite (voltageLost_filed h n) h
  have told := lost (lost (h.raise .streamState (.slot i)) (was == .warning && now == .passive && b.voltageFor .s1) .s1)
    (was == .warning && now == .passive && b.voltageFor .s2) .s2
  refine .ite h ?_
  cases b with
  | state k => exact .ite told (reportAvailability_filed told _)
  | sample bs => exact told
  | drive c => exact told

theorem ringTakes_filed (h : EventsFiled s t) (n : SecId) (x : ValueRecord) : EventsFiled s (ringTakes n x t) := by
  have filed (r : Ring) : EventsFiled s (t.modSec n fun y => { y with ring := r }) := h.modSec n _
  have counted (b : Prop) [Decidable b] (r : Ring) (f : Slot → Slot) :
      EventsFiled s (if b then (t.modSec n fun y => { y with ring := r }).modSlot x.slot f
        else t.modSec n fun y => { y with ring := r }) := .ite ((filed r).keep rfl) (filed r)
  rw [ringTakes_eq]
  refine deliver_filed ?_ n _
  unfold ringFiled
  dsimp only
  split
  · exact filed _
  · exact counted _ _ _
  · exact counted _ _ _

theorem distributeBinding_filed (h : EventsFiled s t) (i : Fin 24) (m : List Byte) (b : Binding) :
    EventsFiled s (distributeBinding i m b t) := by
  have clamped : EventsFiled s (clampCounted i m b t) := .ite (h.keep rfl) h
  rw [distributeBinding_eq]
  exact ringTakes_filed clamped _ _

theorem distributeSample_filed (bs : List Binding) (h : EventsFiled s t) (i : Fin 24) (m : List Byte) :
    EventsFiled s (bs.foldl (fun s b => distributeBinding i m b s) t) := by
  induction bs generalizing t with
  | nil => exact h
  | cons b bs ih => exact ih (distributeBinding_filed h i m b)

theorem distribute_filed (h : EventsFiled s t) (i : Fin 24) (b : SlotBody) (p : Port) (m : List Byte) :
    EventsFiled s (distribute i b p m t) := by
  cases b with
  | sample bs => exact distributeSample_filed bs h i m
  | state k =>
    unfold distribute
    dsimp only
    split
    exacts [couplerValue_filed h _, h]
  | drive c => exact treatStatus_filed h c _

theorem slotTakes_filed (h : EventsFiled s t) (i : Fin 24) (b : SlotBody) (p : Port) (m : List Byte) :
    EventsFiled s (slotTakes i b p m t) := by
  have told : EventsFiled s (frameTold i b m t) := slotStateChanged_filed (t := t.setSlot i _) (h.keep rfl) i b _ _
  by_cases hd : Distributes i b m t
  · rw [slotTakes_distributes hd]; exact distribute_filed told i b p m
  · rw [slotTakes_told hd]; exact told

/-! Receptions and links (R1 to R11, R171) -/

theorem offerToMatcher_filed (h : EventsFiled s t) (k : FrameClass) (p : Port) (m : List Byte) :
    EventsFiled s (offerToMatcher k p m t) := by
  have uncounted : EventsFiled s (countUnmatched p t) := h.modPort p _
  unfold offerToMatcher
  split
  · exact uncounted
  · split
    · exact uncounted
    · split
      exacts [slotTakes_filed h _ _ p m, h]

theorem relay_filed (h : EventsFiled s t) (p : Port) (f : Frame) : EventsFiled s (relay p f t) :=
  .ite (h.modPort _ _) (.ite (h.modPort _ _) ((h.modPort _ _).raise _ _))

theorem enqueueRequest_filed (h : EventsFiled s t) (p : Port) (m : List Byte) : EventsFiled s (enqueueRequest p m t) :=
  .ite (h.keep rfl) (h.keep rfl)

theorem handleGood_filed (h : EventsFiled s t) (p : Port) (f : Frame) : EventsFiled s (handleGood p f t) := by
  have relayed := relay_filed h p f
  unfold handleGood
  dsimp only
  split
  case h_1 | h_2 => exact relayed
  case h_3 => exact relayed.modPort p _
  case h_7 => exact .ite (enqueueRequest_filed h p _) relayed
  all_goals exact offerToMatcher_filed relayed _ p _

theorem receive_filed (h : EventsFiled s t) (p : Port) (f : Frame) (lost : Bool) : EventsFiled s (receive p f lost t) :=
  .ite ((h.modPort p _).modPort p _) (handleGood_filed (h.modPort p _) p f)

theorem loseLink_filed (h : EventsFiled s t) (p : Port) : EventsFiled s (loseLink p t) :=
  .ite ((h.modPort p _).raise _ _) h

/-! Requests (R16, R26, R30, R172, R176) -/

theorem writeSlot_filed (h : EventsFiled s t) (i : Fin 24) (d : Option SlotDef) : EventsFiled s (writeSlot i d t) := by
  have fresh : EventsFiled s (t.setSlot i (Slot.fresh d)) := h.keep rfl
  have written : EventsFiled s (slotWritten i d t) :=
    ((EventsFiled.ite fresh (fresh.raise _ _)).modCoil .c1 _).modCoil .c2 _
  rw [writeSlot_eq, rewriteCoupler_eq]
  exact setUnsure_filed (written.withCoupler _) _

theorem enableSlot_filed (h : EventsFiled s t) (i : Fin 24) : EventsFiled s (enableSlot i t) := by
  have active : EventsFiled s (t.setSlot i (t.slot i).enabled) := h.keep rfl
  have enabled : EventsFiled s (slotEnabled i t) := .ite active (active.raise _ _)
  rw [enableSlot_eq]
  exact .ite (reportAvailability_filed enabled _) enabled

theorem writeNominal_filed (h : EventsFiled s t) (q : Nominal) : EventsFiled s (writeNominal q t) := by
  obtain ⟨-, -, same, -⟩ := writeNominal_reads q t
  exact h.keep same

/-- The offer of a response, and of the notice of READ_EVENTS after it (R171). -/
theorem answer_filed (r : Request) (x : Served) : EventsFiled x.state (answer r x) := by
  have offered := (EventsFiled.refl x.state).response (x.reply.response r) r.port
  unfold answer
  cases x.after with
  | none => exact offered.keep rfl
  | some e => exact ((offered.notice e .a).notice e .b).keep rfl

end Sys2Proof.Machine

/-! ### Every step keeps the report levels in order and ALARM with its mark (R164, R165, R167) -/

namespace Sys2Proof.Machine

variable {s t : State} {u : EventUnit}

/-- Level 2 is occupied only while level 1 is, and ALARM is other than deasserted exactly for level 1's mark. -/
structure EventUnit.InOrder (u : EventUnit) : Prop where
  levels : u.level2.isSome = true → u.level1.isSome = true
  alarm : u.alarm ≠ .deasserted ↔ ∃ r, u.level1 = some (r, true)

namespace EventUnit.InOrder

theorem levelsInOrder (h : s.events.InOrder) : LevelsInOrder s := ⟨h.levels, fun _ => h.alarm⟩

theorem of_levelsInOrder (h : LevelsInOrder s) (live : s.live = true) : s.events.InOrder := by
  obtain ⟨levels, alarm⟩ := h
  have released : s.held = false := by simpa using (Bool.and_eq_true_iff.1 live).2
  exact ⟨levels, alarm released⟩

/-- A change of the event unit beyond levels and ALARM. -/
theorem keep {v : EventUnit} (h : u.InOrder) (level1 : v.level1 = u.level1) (level2 : v.level2 = u.level2)
    (alarm : v.alarm = u.alarm) : v.InOrder :=
  ⟨by rw [level1, level2]; exact h.levels, by rw [level1, alarm]; exact h.alarm⟩

/-- A level 1 that has just been occupied, with ALARM after its mark. -/
theorem occupied {v : EventUnit} {r : Report} {mark : Bool} (level1 : v.level1 = some (r, mark))
    (alarm : v.alarm ≠ .deasserted ↔ mark = true) : v.InOrder where
  levels _ := by rw [level1]; rfl
  alarm := by rw [alarm, level1]; simp

/-- The filing of an event keeps the order (R164, R165). -/
theorem file (h : u.InOrder) (e : Source) : (u.file e).InOrder := by
  cases hs : u.stacks e.kind with
  | false => rw [file_masked hs]; exact h.keep rfl rfl rfl
  | true =>
    cases h1 : u.level1 with
    | none =>
      rw [file_first hs h1]
      exact occupied rfl (by cases u.enabled e.kind <;> simp)
    | some l =>
      have held : u.level1.isSome = true := by rw [h1]; rfl
      obtain ⟨level1, alarm⟩ := u.file_behind e held
      exact ⟨fun _ => by rw [level1]; exact held, by rw [level1, alarm]; exact h.alarm⟩

theorem filed (h : s.events.InOrder) (acts : EventsFiled s t) : t.events.InOrder := by
  obtain ⟨es, filed⟩ := acts
  rw [filed]
  exact List.foldlRecOn es EventUnit.file h fun _ ordered e _ => ordered.file e

/-- A move up keeps the order: level 2 leaves its place to level 1, whose new mark ALARM follows (R165, R167). -/
theorem moveUp (h : u.InOrder) (now : Time) : (u.moveUp now).InOrder := by
  unfold EventUnit.moveUp
  split
  · exact h
  · next empty =>
    have alone : u.level2.isSome ≠ true := by rw [empty]; simp
    exact ⟨fun full => absurd full alone, by simp⟩
  · next mark r _ _ => exact occupied rfl (by cases r.kinds.any u.enabled <;> cases mark <;> simp)

theorem cleared (enables : Vector Bool 22) : (EventUnit.initial enables).InOrder :=
  ⟨nofun, by simp [EventUnit.initial]⟩

/-- The end of the ALARM pulse asserts a line that is not deasserted (R165). -/
theorem reasserted (h : s.events.InOrder) : (alarmReasserts s).events.InOrder := by
  unfold alarmReasserts
  split
  · next pulse => exact ⟨h.levels, by rw [← h.alarm, pulse]; simp⟩
  · exact h
  · exact h

/-- New enables leave the levels, the mark that level 1 took with its record, and ALARM (R163). -/
theorem writeLive (h : s.events.InOrder) (g : Globals) : (writeLive g s).events.InOrder := h.keep rfl rfl rfl

end EventUnit.InOrder

/-! Requests, commands and steps -/

/-- A request reads or resets the event unit, or files events in it. -/
theorem RequestActs.inOrder (acts : RequestActs s t) (h : s.events.InOrder) : t.events.InOrder := by
  have same : EventsFiled s s := .refl s
  cases acts with
  | eventsRead => exact h.moveUp s.ms
  | summaryRead => exact h.keep rfl rfl rfl
  | reset => rw [(resetPart_frame s).events]; exact .cleared _
  | nothing => exact h
  | slotWritten i d => exact h.filed (writeSlot_filed same i d)
  | masksWritten => exact h
  | slotEnabled i => exact h.filed (enableSlot_filed same i)
  | tableWritten c => exact h.filed (same.modCoil c _)
  | sectionSet n => exact h.filed (same.modSec n _)
  | coilSet c => exact h.filed (same.modCoil c _)
  | globalsSet b => exact (h.filed ((writeNominal_filed same _).withTimeout _)).writeLive _
  | liveSet b => exact h.writeLive _
  | stateRead => exact h
  | portRead p => exact h.filed (same.modPort p _)
  | slotRead => exact h
  | sectionStarted n => exact h.filed (enterStarting_filed same n)
  | sectionDisabled n => exact h.filed (disableSection_filed same n)
  | frozen z n => exact h.filed (setInhibit_filed same n _)
  | coilReleased c => exact h.filed (same.modCoil c _)
  | coilMoved c p => exact h.filed (.ite same (same.drive (requestMove_frame c p .manual s)))

theorem CommandActs.inOrder (acts : CommandActs s t) (h : s.events.InOrder) : t.events.InOrder := by
  have same : EventsFiled s s := .refl s
  cases acts with
  | reasserted => exact h.reasserted
  | answered r x acts => exact (acts.inOrder h).filed (answer_filed r x)
  | nothing => exact h
  | received p f lost => exact h.filed (receive_filed same p f lost)
  | sent p => exact h.filed (same.modPort p _)
  | linkLost p => exact h.filed (loseLink_filed same p)
  | linkRestored p => exact h.filed (same.modPort p _)
  | heldOff n => exact h.filed (holdOffRunsOut_filed same n)
  | acceptance c => exact h.filed (acceptanceExpires_filed same c)
  | confirmation c => exact h.filed (failCoilIf_filed same c _)
  | moveLimit c => exact h.filed (failCoilIf_filed same c _)
  | silence c => exact h.filed (failCoilIf_filed same c _)
  | stale => exact h.filed (staleExpires_filed same)

/-- In action the event unit stays in order; a restart clears it; RESET held deasserts ALARM, and its mark is then not asked
for (R14, R165). -/
theorem StepActs.levelsInOrder (acts : StepActs s t) (h : LevelsInOrder s) : LevelsInOrder t := by
  cases acts with
  | nothing => exact h
  | ticked => exact h
  | acted live acts =>
    have before := EventUnit.InOrder.of_levelsInOrder h live
    exact ((acts.inOrder before).filed ((EventsFiled.refl _).drive (conclude_frame _))).levelsInOrder
  | restarted => exact EventUnit.InOrder.levelsInOrder (.cleared _)
  | linkReported p l =>
    unfold LevelsInOrder
    rw [State.modPort_events, State.modPort_held]
    exact h
  | resetHeld =>
    obtain ⟨levels, -⟩ := h
    exact ⟨levels, nofun⟩
  | supplyLost => exact h

/-- Settles O56: what acts files events, moves level 2 up, or clears the event unit, and each keeps the order. -/
theorem stepKeepsLevels : Obligations.StepKeepsLevels := by
  intro s t h ht
  obtain ⟨q, acts⟩ := step_acts ht
  exact acts.levelsInOrder h

end Sys2Proof.Machine

/-! ### The commands of requests, refusals, and the step on an empty queue (R171, R172; notes/assumptions/17.md) -/

namespace Sys2Proof.Machine

variable {s : State} {i : Instr} {r : Request} {b : List Byte} {k : Nat}

/-- The command of a request kind has the responder serve that kind, while the part acts (R171). -/
theorem exec_requestCommand (lo : 1 ≤ k) (hi : k ≤ 24) (s : State) :
    exec (requestCommand k) s = .next (act (serve k (served k)) s) := by
  interval_cases k <;> rfl

theorem exec_requestCommand_live (lo : 1 ≤ k) (hi : k ≤ 24) (live : s.live = true) :
    exec (requestCommand k) s = .next (conclude (serve k (served k) s)) := by
  rw [exec_requestCommand lo hi, act_live live]

/-! A refusal is an unchanged state (R172) -/

/-- What serving a request can come to: a reply over the state as it was, or an OK with whatever it did. -/
inductive Verdict (s : State) : Served → Prop
  | same (x : Reply) : Verdict s (unchanged s x)
  | accepted (u : State) (a : List Byte) (after : Option Source) : Verdict s { state := u, reply := .ok a, after := after }

/-- A verdict other than OK leaves the state, and no notice follows it. -/
theorem Verdict.refused {x : Served} (v : Verdict s x) (notOk : ∀ a, x.reply ≠ .ok a) : x.state = s ∧ x.after = none := by
  cases v with
  | same => exact ⟨rfl, rfl⟩
  | accepted u a after => exact absurd rfl (notOk a)

theorem Verdict.ite {p : Prop} [Decidable p] {x y : Served} (hx : Verdict s x) (hy : Verdict s y) :
    Verdict s (if p then x else y) := by
  split
  exacts [hx, hy]

theorem noFields_verdict {f : State → Served} (hf : Verdict s (f s)) (b : List Byte) : Verdict s (noFields f b s) :=
  hf.ite (.same _)

theorem withSection_verdict {f : SecId → State → Served} (hf : ∀ n, Verdict s (f n s)) (b : List Byte) :
    Verdict s (withSection f b s) := by
  refine .ite ?_ (.same _)
  split
  exacts [hf _, .same _]

theorem withCoil_verdict {f : CoilId → State → Served} (hf : ∀ c, Verdict s (f c s)) (b : List Byte) :
    Verdict s (withCoil f b s) := by
  refine .ite ?_ (.same _)
  split
  exacts [hf _, .same _]

theorem withSlot_verdict {f : Fin 24 → State → Served} (hf : ∀ i, Verdict s (f i s)) (b : List Byte) :
    Verdict s (withSlot f b s) := by
  refine .ite ?_ (.same _)
  split
  exacts [hf _, .same _]

theorem serveWriteSlot_verdict (b : List Byte) : Verdict s (serveWriteSlot b s) := by
  refine .ite (.same _) ?_
  split
  · exact .same _
  · split
    · exact .same _
    · exact .ite (.same _) (.accepted _ _ _)

theorem serveWriteMasks_verdict (b : List Byte) : Verdict s (serveWriteMasks b s) :=
  .ite (.same _) (.ite (.same _) (.accepted _ _ _))

theorem serveEnableSlot_verdict (i : Fin 24) : Verdict s (serveEnableSlot i s) := .ite (.accepted _ _ _) (.same _)

theorem serveWriteCoilTable_verdict (b : List Byte) : Verdict s (serveWriteCoilTable b s) := by
  refine .ite (.same _) ?_
  split
  · exact .same _
  · refine .ite (.same _) ?_
    dsimp only
    split
    · exact .same _
    · exact .ite (.accepted _ _ _) (.same _)

theorem serveWriteSectionSettings_verdict (b : List Byte) : Verdict s (serveWriteSectionSettings b s) := by
  refine .ite (.same _) ?_
  split
  · exact .same _
  · dsimp only
    split
    · exact .same _
    · exact .ite (.accepted _ _ _) (.same _)

theorem serveWriteCoilSettings_verdict (b : List Byte) : Verdict s (serveWriteCoilSettings b s) := by
  refine .ite (.same _) ?_
  split
  · exact .same _
  · dsimp only
    split
    · exact .same _
    · exact .ite (.accepted _ _ _) (.same _)

theorem serveWriteGlobal_verdict (b : List Byte) : Verdict s (serveWriteGlobal b s) := by
  refine .ite (.same _) ?_
  split
  · exact .same _
  · exact .ite (.accepted _ _ _) (.ite (.accepted _ _ _) (.same _))

theorem serveReadCounters_verdict (b : List Byte) : Verdict s (serveReadCounters b s) := by
  refine .ite (.same _) ?_
  split
  · split
    exacts [.accepted _ _ _, .same _]
  · split
    exacts [.accepted _ _ _, .same _]
  · exact .same _

theorem serveEnableSection_verdict (n : SecId) : Verdict s (serveEnableSection n s) := .ite (.accepted _ _ _) (.same _)

theorem serveRestartSection_verdict (n : SecId) : Verdict s (serveRestartSection n s) := .ite (.accepted _ _ _) (.same _)

theorem serveReleaseCoil_verdict (c : CoilId) : Verdict s (serveReleaseCoil c s) := .ite (.accepted _ _ _) (.same _)

theorem serveManualMove_verdict (b : List Byte) : Verdict s (serveManualMove b s) := by
  refine .ite (.same _) ?_
  split
  · exact .same _
  · exact .ite (.same _) (.ite (.accepted _ _ _) (.same _))

/-- Every kind either answers over the state as it was, or is accepted (11.3). -/
theorem served_verdict (k : Nat) (b : List Byte) (s : State) : Verdict s (served k b s) := by
  unfold served
  split
  case h_1 => exact noFields_verdict (.same _) b
  case h_2 => exact withSlot_verdict (fun _ => .same _) b
  case h_3 => exact serveWriteSlot_verdict b
  case h_4 => exact serveWriteMasks_verdict b
  case h_5 => exact withSlot_verdict serveEnableSlot_verdict b
  case h_6 | h_10 => exact withCoil_verdict (fun _ => .same _) b
  case h_7 => exact serveWriteCoilTable_verdict b
  case h_8 => exact withSection_verdict (fun _ => .same _) b
  case h_9 => exact serveWriteSectionSettings_verdict b
  case h_11 => exact serveWriteCoilSettings_verdict b
  case h_12 => exact serveWriteGlobal_verdict b
  case h_13 | h_14 | h_15 | h_24 => exact noFields_verdict (.accepted _ _ _) b
  case h_16 => exact serveReadCounters_verdict b
  case h_17 => exact withSection_verdict serveEnableSection_verdict b
  case h_18 | h_20 | h_21 => exact withSection_verdict (fun _ => .accepted _ _ _) b
  case h_19 => exact withSection_verdict serveRestartSection_verdict b
  case h_22 => exact withCoil_verdict serveReleaseCoil_verdict b
  case h_23 => exact serveManualMove_verdict b
  case h_25 => exact .same _

/-- Settles O36: the command serves its own kind, and every verdict but OK is the state as it was. -/
theorem refusedRequestChangesNothing : Obligations.RefusedRequestChangesNothing := by
  intro k b s lo hi
  exact ⟨exec_requestCommand_live lo hi, (served_verdict k b s).refused⟩

/-! Requests that are not what their kind calls for (R172 checks 1 to 3) -/

/-- UNKNOWN_REQUEST with such a request at the head answers the first check that fails (R172 checks 1 and 2). -/
theorem serveUnknown_head (head : s.requests.head? = some r) (unknown : r.unknown = true) :
    serveUnknown s = answer r (unchanged s (if r.holdsHeader then .kind else .length)) := by
  obtain ⟨rest, queue⟩ := List.head?_eq_some_iff.1 head
  simp only [serveUnknown, queue, unknown, if_true]

theorem exec_unknownRequest_head (live : s.live = true) (head : s.requests.head? = some r) (unknown : r.unknown = true) :
    exec .unknownRequest s = .next (conclude (answer r (unchanged s (if r.holdsHeader then .kind else .length)))) := by
  rw [← serveUnknown_head head unknown, ← act_live live]
  rfl

theorem unknown_of_noHeader (short : r.holdsHeader = false) : r.unknown = true := by
  simp [Request.unknown, short]

theorem unknown_of_kind (outside : r.kind = 0 ∨ 24 < r.kind) : r.unknown = true := by
  have out : within 1 24 r.kind = false := by
    simp only [within, Bool.and_eq_false_iff, decide_eq_false_iff_not]
    omega
  simp [Request.unknown, out]

/-- A request whose message runs past its frame is answered REFUSED_LENGTH (R172 check 3). -/
theorem serve_noBody (head : s.requests.head? = some r) (header : r.holdsHeader = true) (body : r.body = none)
    (f : List Byte → State → Served) : serve r.kind f s = answer r (unchanged s .length) := by
  obtain ⟨rest, queue⟩ := List.head?_eq_some_iff.1 head
  simp [serve, queue, header, body]

theorem noFields_unfit (bad : (b.length == 0) = false) (f : State → Served) (s : State) :
    noFields f b s = unchanged s .length := if_neg (beq_eq_false_iff_ne.1 bad)

theorem withSection_unfit (bad : (b.length == 4) = false) (f : SecId → State → Served) (s : State) :
    withSection f b s = unchanged s .length := if_neg (beq_eq_false_iff_ne.1 bad)

theorem withCoil_unfit (bad : (b.length == 4) = false) (f : CoilId → State → Served) (s : State) :
    withCoil f b s = unchanged s .length := if_neg (beq_eq_false_iff_ne.1 bad)

theorem withSlot_unfit (bad : (b.length == 4) = false) (f : Fin 24 → State → Served) (s : State) :
    withSlot f b s = unchanged s .length := if_neg (beq_eq_false_iff_ne.1 bad)

/-- Every kind checks the length of its body before anything else (R172 check 3). -/
theorem served_unfit (lo : 1 ≤ k) (hi : k ≤ 24) (bad : bodyFits k b = false) (s : State) :
    served k b s = unchanged s .length := by
  unfold served
  split
  case h_1 | h_13 | h_14 | h_15 | h_24 => exact noFields_unfit bad _ s
  case h_2 | h_5 => exact withSlot_unfit bad _ s
  case h_6 | h_10 | h_22 => exact withCoil_unfit bad _ s
  case h_8 | h_17 | h_18 | h_19 | h_20 | h_21 => exact withSection_unfit bad _ s
  case h_3 | h_7 => exact if_pos (congrArg not bad)
  case h_4 | h_9 | h_11 | h_12 | h_16 | h_23 => exact if_pos (beq_eq_false_iff_ne.1 bad)
  case h_25 => interval_cases k <;> contradiction

/-- Settles O49: UNKNOWN_REQUEST answers the first two checks, and the command of the kind the third. -/
theorem unknownRequestRefused : Obligations.UnknownRequestRefused := by
  intro s r live head
  refine ⟨fun short => ?_, fun header outside => ?_, fun header lo hi misfit => ?_⟩
  · rw [exec_unknownRequest_head live head (unknown_of_noHeader short), short]
    rfl
  · rw [exec_unknownRequest_head live head (unknown_of_kind outside), header]
    rfl
  · rw [exec_requestCommand_live lo hi live]
    obtain noBody | ⟨b, body, bad⟩ := misfit
    · rw [serve_noBody head header noBody]
    · rw [serve_serving ⟨live, head, header, rfl, body⟩, served_unfit lo hi bad]

/-! The step on an empty queue -/

/-- On an empty queue the part executes what it raises of itself. -/
theorem step_own (empty : s.pending = []) (own : s.ownCommand = some i) : step s = exec i s := by
  simp only [step, empty, own]

/-- With nothing raised, time passes. -/
theorem step_tick (empty : s.pending = []) (own : s.ownCommand = none) : step s = .next (tick s) := by
  simp only [step, empty, own]

theorem ownCommand_still (still : s.live = false) : s.ownCommand = none := by
  simp [State.ownCommand, still]

/-- With no timer due, the request at the head is what is due. -/
theorem ownCommand_request (live : s.live = true) (idle : s.dueCommands = []) : s.ownCommand = s.headCommand := by
  simp [State.ownCommand, live, idle]

theorem headCommand_cons {rest : List Request} (queue : s.requests = r :: rest) :
    s.headCommand = some (if r.unknown then .unknownRequest else requestCommand r.kind) := by
  simp only [State.headCommand, queue]

/-- Settles O2. -/
theorem emptyQueueStep : Obligations.EmptyQueueStep := by
  intro s empty
  refine ⟨fun i own => step_own empty own, fun own live => ?_, fun still => ?_, fun live idle r rest queue => ?_⟩
  · rw [step_tick empty own, tick, if_pos live]
  · rw [step_tick empty (ownCommand_still still), tick, if_neg (Bool.eq_false_iff.1 still)]
  · rw [ownCommand_request live idle, headCommand_cons queue]

end Sys2Proof.Machine

/-! ### Every command completes and leaves the queue of waiting commands (spec/95_what_each_step_holds.md) -/

namespace Sys2Proof.Machine

variable {s t : State}

/-! The queue of waiting commands under the frames -/

theorem ReceptionFrame.pending (h : ReceptionFrame s t) : t.pending = s.pending := by rw [h]

theorem StreamFrame.pending (h : StreamFrame s t) : t.pending = s.pending := h.toReception.pending

theorem SectionFrame.pending (h : SectionFrame s t) : t.pending = s.pending := h.toStream.pending

theorem DriveFrame.pending (h : DriveFrame s t) : t.pending = s.pending := h.toSection.pending

theorem SectionFrame.ite {u : State} {b : Prop} [Decidable b] (h : SectionFrame s t) (h' : SectionFrame s u) :
    SectionFrame s (if b then t else u) := by
  split
  exacts [h, h']

/-! Links and expiries (R10, R115, R142, R156, R165) -/

theorem loseLink_frame (p : Port) (s : State) : SectionFrame s (loseLink p s) :=
  .ite ((LinkFrame.modPort s p _).trans (raise_frame _ _ _)).toSection (.refl s)

theorem holdOffRunsOut_frame (n : SecId) (s : State) : SectionFrame s (holdOffRunsOut n s) :=
  .ite ((setHoldOff_frame n none s).trans (enterStarting_frame n _)) (.refl s)

theorem failCoilIf_frame {b : Prop} [Decidable b] (c : CoilId) (k : EventKind) (s : State) :
    SectionFrame s (if b then failCoil c k s else s) := .ite (failCoil_frame c k s) (.refl s)

/-- A record without an echo fails its coil, is sent again, or is withdrawn (R115). -/
theorem acceptanceExpires_frame (c : CoilId) (s : State) : SectionFrame s (acceptanceExpires c s) := by
  unfold acceptanceExpires
  split
  · exact .ite (failCoil_frame c _ s)
      (.ite ((DriveFrame.modCoil s c _).trans (offerRecord_frame c true _ _)).toSection (withdraw_frame c s).toSection)
  · exact .refl s

theorem staleExpires_frame (s : State) : SectionFrame s (staleExpires s) :=
  .ite (SectionFrame.trans (by rfl) (setUnsure_frame _ _)) (.refl s)

theorem alarmReasserts_frame (s : State) : SectionFrame s (alarmReasserts s) := by
  unfold alarmReasserts
  split <;> rfl

/-! Requests (R16, R26, R171, R176, R178) -/

theorem slotWritten_frame (i : Fin 24) (d : Option SlotDef) (s : State) : StreamFrame s (slotWritten i d s) := by
  have fresh : StreamFrame s (s.setSlot i (Slot.fresh d)) := rfl
  have told := fresh.trans (raise_setSlot_cases (b := (s.slot i).state = .active) .streamState (.slot i)).toStream
  unfold slotWritten
  exact told.trans ((SectionFrame.modCoil _ .c1 _).trans (.modCoil _ .c2 _)).toStream

theorem writeSlot_frame (i : Fin 24) (d : Option SlotDef) (s : State) : StreamFrame s (writeSlot i d s) := by
  rw [writeSlot_eq]
  exact (slotWritten_frame i d s).trans (rewriteCoupler_frame _ _ _).toStream

theorem enableSlot_frame (i : Fin 24) (s : State) : StreamFrame s (enableSlot i s) := by
  have active : StreamFrame s (s.setSlot i (s.slot i).enabled) := rfl
  have told : SectionFrame (slotEnabled i s) (enableSlot i s) := .ite (reportAvailability_frame true _) (.refl _)
  exact (active.trans (slotEnabled_frame i s).toStream).trans told.toStream

theorem manualMove_frame (c : CoilId) (p : Nat) (s : State) : SectionFrame s (manualMove c p s) :=
  .ite (.refl s) (requestMove_frame c p .manual s).toSection

theorem writeNominal_pending (q : Nominal) (s : State) : (writeNominal q s).pending = s.pending := by
  rw [writeNominal_kept]

theorem writeLive_pending (g : Globals) (s : State) : (writeLive g s).pending = s.pending := rfl

theorem resetPart_pending (s : State) : (resetPart s).pending = s.pending := (resetPart_frame s).pending

theorem answer_pending (r : Request) (x : Served) : (answer r x).pending = x.state.pending := by
  rw [answer_frame]

theorem RequestActs.pending (acts : RequestActs s t) : t.pending = s.pending := by
  cases acts with
  | slotWritten i d => exact (writeSlot_frame i d s).pending
  | slotEnabled i => exact (enableSlot_frame i s).pending
  | tableWritten c => exact State.modCoil_pending s c _
  | sectionSet n => exact State.modSec_pending s n _
  | coilSet c => exact State.modCoil_pending s c _
  | globalsSet b => exact (writeLive_pending _ _).trans (writeNominal_pending (globalsOf b).nominal s)
  | portRead p => exact State.modPort_pending s p _
  | sectionStarted n => exact (enterStarting_frame n s).pending
  | sectionDisabled n => exact (disableSection_frame n s).pending
  | frozen z n => exact (setInhibit_frame n _ s).pending
  | coilReleased c => exact State.modCoil_pending s c _
  | coilMoved c p => exact (manualMove_frame c p s).pending
  | reset => exact resetPart_pending s
  | liveSet b => exact writeLive_pending _ s
  | nothing | masksWritten | stateRead | eventsRead | summaryRead | slotRead => rfl

/-! Commands and steps -/

theorem CommandActs.pending (acts : CommandActs s t) : t.pending = s.pending := by
  cases acts with
  | nothing => rfl
  | received p f lost => exact (receive_frame p f lost s).pending
  | sent p => exact State.modPort_pending s p _
  | linkLost p => exact (loseLink_frame p s).pending
  | linkRestored p => exact State.modPort_pending s p _
  | heldOff n => exact (holdOffRunsOut_frame n s).pending
  | acceptance c => exact (acceptanceExpires_frame c s).pending
  | confirmation c => exact (failCoilIf_frame c _ s).pending
  | moveLimit c => exact (failCoilIf_frame c _ s).pending
  | silence c => exact (failCoilIf_frame c _ s).pending
  | stale => exact (staleExpires_frame s).pending
  | reasserted => exact (alarmReasserts_frame s).pending
  | answered r x acts => exact (answer_pending r x).trans acts.pending

/-- A restart too hands the waiting commands on (R183). -/
theorem StepActs.pending (acts : StepActs s t) : t.pending = s.pending := by
  cases acts with
  | acted _ acts => exact (conclude_frame _).pending.trans acts.pending
  | linkReported p l => exact State.modPort_pending s p _
  | nothing | ticked | restarted | resetHeld | supplyLost => rfl

/-- Settles O3: every command answers a state that one of `StepActs` describes, and each of these keeps the queue. -/
theorem everyCommandCompletes : Obligations.EveryCommandCompletes := by
  intro i s
  obtain ⟨t, answers, acts⟩ := exec_acts i s
  exact ⟨t, answers, acts.pending⟩

/-! The step on a queue that holds a command -/

theorem step_front {c : Instr} {rest : List Instr} (queue : s.pending = c :: rest) :
    step s = exec c { s with pending := rest } := by
  simp only [step, queue]

/-- Settles O1. -/
theorem stepRunsFrontCommand : Obligations.StepRunsFrontCommand := fun _ _ _ => step_front rfl

end Sys2Proof.Machine
